-- ==== Sys2Proof/Word.lean ====
section
/-! DEFINITION. The words of the part and the sparse memories built of them.
Everything the manual numbers as bits is a bit vector; counts, indices and instants are natural numbers. -/
namespace Sys2Proof

abbrev Byte := BitVec 8
abbrev Half := BitVec 16
abbrev Word := BitVec 32
abbrev DWord := BitVec 64
/-- A word of an Eddy data memory or data register (07 R203, R206). -/
abbrev Q23 := BitVec 24
/-- An Eddy accumulator, Q9.47 (07 R206). -/
abbrev Acc := BitVec 56

/-- An addressed RAM of the part: (address, unit) pairs, addresses strictly rising, no unit equal to 0.
An address not listed reads 0, as on-chip SRAM does after a reset (14 R389, R391). -/
abbrev Cells (w : Nat) := List (Nat × BitVec w)

end Sys2Proof
end

