-- ==== Sys2Proof/Syntax.lean ====
section
/-! DEFINITION. The commands the part takes: one constructor of Instr for each row of the table of
operations and events (spec/opcode_table.json), with the row's operands. -/
namespace Sys2Proof

/-- Where a command packet came from: a CMD ring (02 R50), the boot script (02 R65), the upstream head
(05 R162) or a twin partner that forwarded it (13 R373). -/
inductive Src where
  | ring (n : Nat)
  | script
  | upstream
  | twin (ring : Option Nat)
  deriving DecidableEq, Repr

/-- A command packet with its ring entry (02 R44, R51). `plen` is the parameter length of the header in bytes,
path word included; `words` are the command's own parameter words, counted from the first byte after any path word. -/
structure Pkt where
  src : Src
  tag : Half := 0
  flags : Byte := 0
  version : Byte := 1
  target : Half := 0
  plen : Nat := 0
  path : BitVec 48 := 0xFFFFFFFFFFFF#48
  words : List Word := []
  paramAddr : DWord := 0
  rbufAddr : DWord := 0
  rbufLen : Nat := 0
  deriving DecidableEq, Repr

/-- A packet as it lies in a ring, the script or a service message: its opcode and the rest. -/
structure Cmd where
  opcode : Half
  pkt : Pkt
  deriving DecidableEq, Repr

/-- One slot of an F-frame as it returns to the head (05 R135). -/
structure FSlot where
  node : Nat
  valid : Bool := false
  safe : Bool := false
  tie : Bool := false
  cmdMiss : Bool := false
  syncErr : Bool := false
  svcPending : Bool := false
  applied : BitVec 2 := 0
  payload : List Byte := []
  deriving DecidableEq, Repr

/-- One slot of a C-frame (05 R135). -/
structure CSlot where
  node : Nat
  valid : Bool := true
  payload : List Byte := []
  deriving DecidableEq, Repr

/-- A returning F-frame. `atNs` is its arrival, whole, in ns after C(k) of the present cycle (01 R21, R31). -/
structure FFrame where
  port : Nat
  atNs : Nat
  fcsOk : Bool := true
  dir : Bool := false
  looped : Bool := true
  cycle : Word := 0
  gen : Half := 0
  slots : List FSlot := []
  deriving DecidableEq, Repr

/-- A C-frame as a node receives it: on a nested head, from its upstream head (05 R131, R167, R171).
`ck` is the header's C(k) in ns, `stamp16` the arrival stamp in 1/16 ns. -/
structure CFrame where
  uplink : Nat
  stamp16 : Nat
  fcsOk : Bool := true
  looped : Bool := false
  wellTyped : Bool := true
  idle : Bool := false
  cycle : Word := 0
  ck : Nat := 0
  claim : Half := 0
  gen : Half := 0
  slots : List CSlot := []
  deriving DecidableEq, Repr

/-- A node record of a WALK or PROBE (05 R140). -/
structure NodeRec where
  cls : BitVec 4 := 0
  version : BitVec 4 := 1
  axes : Nat := 0
  caps : Half := 0
  identity : DWord := 0
  b : Word := 0
  a : Word := 0
  d : Word := 0
  c : Word := 0
  fLen : Nat := 0
  cLen : Nat := 0
  lsb : Word := 0
  gens : BitVec 3 := 0
  deriving DecidableEq, Repr

/-- The stamps of one live position in a PROBE (05 R140). -/
structure Stamps where
  b : Word := 0
  a : Word := 0
  d : Word := 0
  c : Word := 0
  deriving DecidableEq, Repr

/-- A segment of an S-frame (05 R159). -/
structure Seg where
  node : Nat
  up : Bool := false
  first : Bool := true
  last : Bool := true
  ack : Bool := false
  filled : Bool := false
  msg : Byte := 0
  seq : Byte := 0
  cap : Nat := 0
  words : List Word := []
  deriving DecidableEq, Repr

/-- A node configuration record (05 R146). -/
structure NodeCfg where
  index : Nat := 0
  genFirst : Half := 0
  endLoop : Bool := false
  ring : Bool := false
  nSafe : Nat := 3
  divider : Nat := 1
  cOffset : Nat := 0
  tc : Nat := 31250
  epoch : Nat := 0
  sampleOffset : Nat := 0
  applyOffset : Nat := 0
  guardNs : Nat := 2000
  dX : Nat := 19000
  downDelay0 : Nat := 0
  downDelay1 : Nat := 0
  fOffset : Nat := 0
  fLen : Nat := 0
  cOff : Nat := 0
  cLen : Nat := 0
  modes : Byte := 0
  safeAction : Byte := 0
  deriving DecidableEq, Repr

/-- A D-frame (05 R139). -/
inductive DFrame where
  | walk (hop : Nat)
  | probe (hop p : Nat)
  | assign (entries : List (DWord × NodeCfg))
  | resume (c : DWord) (pos1 pos2 : Nat)
  | reclose (c : DWord) (pos1 pos2 : Nat)
  deriving DecidableEq, Repr

/-- The dataset of an Announce message (06 R191, R192). -/
structure Announce where
  domainNumber : Nat := 0
  priority1 : Nat := 128
  clockClass : Nat := 248
  accuracy : Nat := 0xFE
  variance : Nat := 0xFFFF
  priority2 : Nat := 128
  identity : DWord := 0
  stepsRemoved : Nat := 0
  deriving DecidableEq, Repr

/-- The PTP messages the uplink stamps or answers (06 R193). -/
inductive PtpKind where
  | sync
  | followUp
  | delayReq
  | delayResp
  | pdelayReq
  | pdelayResp
  deriving DecidableEq, Repr

/-- The two time domains (06 R176). -/
inductive Dom where
  | p
  | s
  deriving DecidableEq, Repr

/-- What a twin partner reports about itself over the Oxbow link (13 R384, R385; 00 R4). -/
structure PeerInfo where
  code : Half := 0x2561
  side : Option Bool := none
  claimBase : Half := 0x0100
  state : Nat := 0
  running : Bool := false
  linkPorts : List Nat := []
  deriving DecidableEq, Repr

/-- A partner's cycle record (13 R370). `acks` lists the forwarded commands it acknowledges or refuses. -/
structure CycleRec where
  cycle : Word
  health : Word := 0
  crc : Word := 0
  claim : Half := 0
  time : DWord := 0
  acks : List (Nat × Bool) := []
  deriving DecidableEq, Repr

/-- An Eddy parallel move (08 R235): memory read into, or written from, a register through a pointer. -/
structure PMove where
  write : Bool
  ptr : Fin 4
  mode : BitVec 2
  reg : BitVec 4
  deriving DecidableEq, Repr

/-- The two moves of a PA instruction; `xptr` is the bare XPTR field, which the .p forms use (08 R239). -/
structure PMoves where
  x : Option PMove := none
  y : Option PMove := none
  xptr : Fin 4 := 0
  deriving DecidableEq, Repr

/-- A single-move pointer operand (08 R240). -/
structure PtrRef where
  spaceY : Bool
  ptr : Fin 8
  mode : BitVec 2
  idx : Bool
  deriving DecidableEq, Repr

/-- The pins of a local axis port that carry edges of their own (11 R301). -/
inductive InPin where
  | limP
  | limN
  | home
  deriving DecidableEq, Repr

/-- What a local axis port finds at a sample instant (11 R305): the outputs of its sigma-delta filters at the last modulator clock
edge, and its pin levels as AXP_PINS numbers them. -/
structure PortIn where
  sd : List Half := [0, 0, 0]
  pins : BitVec 14 := 0
  deriving DecidableEq, Repr

/-- How a PMBus transaction ended (09 R277, R278). -/
inductive PmbKind where
  | voutCommand
  | readIout
  | statusByte
  | clearFaults
  deriving DecidableEq, Repr

/-- The commands of the part. Each constructor's docstring gives the row's mnemonic and rule. -/
inductive Instr where
  /-- NOP (R60). -/
  | nop (p : Pkt)
  /-- GET_IDENTITY (R60). -/
  | getIdentity (p : Pkt)
  /-- GET_STATUS (R60). -/
  | getStatus (p : Pkt)
  /-- RESET (R61). -/
  | reset (p : Pkt)
  /-- BLOCK_QUIESCE (R397). -/
  | blockQuiesce (p : Pkt)
  /-- IMAGE_UPDATE_BEGIN (R399). -/
  | imageUpdateBegin (p : Pkt)
  /-- IMAGE_UPDATE_WRITE (R399). -/
  | imageUpdateWrite (p : Pkt)
  /-- IMAGE_UPDATE_COMMIT (R399). -/
  | imageUpdateCommit (p : Pkt)
  /-- AXIS_CONFIGURE (R105). -/
  | axisConfigure (p : Pkt)
  /-- AXIS_ENABLE (R60). -/
  | axisEnable (p : Pkt)
  /-- AXIS_DISABLE (R98). -/
  | axisDisable (p : Pkt)
  /-- AXIS_CLEAR_FAULT (R100). -/
  | axisClearFault (p : Pkt)
  /-- PARAMSET_WRITE (R108). -/
  | paramsetWrite (p : Pkt)
  /-- PARAMSET_SWITCH_AT (R110). -/
  | paramsetSwitchAt (p : Pkt)
  /-- NET_DISCOVER (R142). -/
  | netDiscover (p : Pkt)
  /-- NET_SCHEDULE_LOAD (R145). -/
  | netScheduleLoad (p : Pkt)
  /-- NET_SCHEDULE_ACTIVATE_AT (R445). -/
  | netScheduleActivateAt (p : Pkt)
  /-- NET_NODE_MAILBOX (R161). -/
  | netNodeMailbox (p : Pkt)
  /-- NET_JOIN_CONFIGURE (R157). -/
  | netJoinConfigure (p : Pkt)
  /-- TIME_CONFIGURE (R183). -/
  | timeConfigure (p : Pkt)
  /-- TIME_SELECT_DOMAIN (R187). -/
  | timeSelectDomain (p : Pkt)
  /-- SNAPSHOT_AT (R196). -/
  | snapshotAt (p : Pkt)
  /-- SNAPSHOT_READ (R201). -/
  | snapshotRead (p : Pkt)
  /-- MOVE (R284). -/
  | move (p : Pkt)
  /-- STOP (R286). -/
  | stop (p : Pkt)
  /-- HOME (R292). -/
  | home (p : Pkt)
  /-- COMPARE_SET (R294). -/
  | compareSet (p : Pkt)
  /-- GEAR_SET (R287). -/
  | gearSet (p : Pkt)
  /-- REGISTRATION_BIND (R297). -/
  | registrationBind (p : Pkt)
  /-- ACQ_CONFIGURE (R361). -/
  | acqConfigure (p : Pkt)
  /-- ACQ_ARM (R362). -/
  | acqArm (p : Pkt)
  /-- ACQ_READ (R360). -/
  | acqRead (p : Pkt)
  /-- EDDY_LOAD (R232). -/
  | eddyLoad (p : Pkt)
  /-- FLOW_CREATE (R255). -/
  | flowCreate (p : Pkt)
  /-- TASK_POST (R257). -/
  | taskPost (p : Pkt)
  /-- CORE_PARK (R267). -/
  | corePark (p : Pkt)
  /-- TWIN_CONFIGURE (R384). -/
  | twinConfigure (p : Pkt)
  /-- TWIN_HEALTH (R386). -/
  | twinHealth (p : Pkt)
  /-- TWIN_YIELD (R381). -/
  | twinYield (p : Pkt)
  /-- POWER_BUDGET_SET (R274). -/
  | powerBudgetSet (p : Pkt)
  /-- POWER_STATUS (R276). -/
  | powerStatus (p : Pkt)
  /-- STORE_CONFIGURE (R409). -/
  | storeConfigure (p : Pkt)
  /-- STORE_NOW (R405). -/
  | storeNow (p : Pkt)
  /-- STORE_READ (R408). -/
  | storeRead (p : Pkt)
  /-- PORT_CONFIGURE (R338). -/
  | portConfigure (p : Pkt)
  /-- PWM_FAULT_CLEAR (R339). -/
  | pwmFaultClear (p : Pkt)
  /-- CMD_TAIL_DOORBELL (R39). -/
  | cmdTailDoorbell (ring : Nat) (v : Word)
  /-- CONSUMER_HEAD_DOORBELL (R39). -/
  | consumerHeadDoorbell (ring : Nat) (v : Word)
  /-- RING_ENABLE (R40). -/
  | ringEnable (ring : Nat) (v : Word)
  /-- RING_DISABLE (R40). -/
  | ringDisable (ring : Nat) (v : Word)
  /-- RING_CONFIG_WRITE (R40). -/
  | ringConfigWrite (ring : Nat) (v : Word)
  /-- COMMAND_TAKE (R50). -/
  | commandTake (heads : List (Nat × Cmd))
  /-- HOST_DMA_FAILURE (R42). -/
  | hostDmaFailure (ring : Nat) (result : Option Cmd)
  /-- IRQ_MODERATION_TIMEOUT (R41). -/
  | irqModerationTimeout (ring : Nat)
  /-- IRQ_CAUSE_W1C (R443). -/
  | irqCauseW1c (v : Word)
  /-- IRQ_MASK_WRITE (R443). -/
  | irqMaskWrite (v : Word)
  /-- INTX_PEND_W1C (R63). -/
  | intxPendW1c (high : Bool) (v : Word)
  /-- PCIE_LINK_DOWN (R35). -/
  | pcieLinkDown
  /-- HOT_RESET (R35). -/
  | hotReset
  /-- FUNCTION_LEVEL_RESET (R35). -/
  | functionLevelReset
  /-- FORWARDED_REPLY (R54). -/
  | forwardedReply (id : Nat) (status : Half) (detail : Half) (result : List Word)
  /-- FORWARD_TIMEOUT (R54). -/
  | forwardTimeout (id : Nat)
  /-- FORWARDED_COMMAND (R162). -/
  | forwardedCommand (cmd : Cmd)
  /-- RESET_ASSERT (R61). -/
  | resetAssert
  /-- BOOT_SCRIPT_START (R65). -/
  | bootScriptStart
  /-- BOOT_SCRIPT_PACKET (R65). -/
  | bootScriptPacket
  /-- GLB_EVT_ROUTE_WRITE (R65). -/
  | glbEvtRouteWrite (v : Word)
  /-- CYCLE_SAMPLE (R12). -/
  | cycleSample (ins : List PortIn)
  /-- F_FRAME_DEPART (R12). -/
  | fFrameDepart
  /-- F_FRAME_ARRIVAL (R21). -/
  | fFrameArrival (f : FFrame)
  /-- C_FRAME_RETURN (R21): the cycle number of the frame's header, and its return in ns after C of that cycle. -/
  | cFrameReturn (port : Nat) (cycle : Word) (atNs : Nat) (fcsOk looped dir : Bool)
  /-- LATTICE_START (R13). -/
  | latticeStart (lat : Nat)
  /-- D_U_DEADLINE (R13). -/
  | dUDeadline
  /-- AXIS_COMPUTE (R68). -/
  | axisCompute (lat pipe : Nat) (doneNs : Nat)
  /-- FOLLOWING_ERROR (R92). -/
  | followingError (axis : Nat)
  /-- D_X_DEADLINE (R27). -/
  | dXDeadline
  /-- MISS_LIMIT_REACHED (R27). -/
  | missLimitReached (axis : Nat)
  /-- NODE_LOST (R30). -/
  | nodeLost (node : Nat)
  /-- STANDSTILL_REACHED (R96). -/
  | standstillReached (axis : Nat)
  /-- STOP_TIMEOUT (R96). -/
  | stopTimeout (axis : Nat)
  /-- HISTORY_FREEZE (R123). -/
  | historyFreeze (axis : Nat)
  /-- HIST_FROZEN_W1C (R123). -/
  | histFrozenW1c (axis : Nat)
  /-- STICKY_FLAG_W1C (R120). -/
  | stickyFlagW1c (axis : Nat) (v : Word)
  /-- MAILBOX_SLOT_WRITE (R112). -/
  | mailboxSlotWrite (eddy : Bool) (axis slot : Nat) (off : Nat) (v : Word)
  /-- MAILBOX_COMMIT_WRITE (R112). -/
  | mailboxCommitWrite (eddy : Bool) (axis slot : Nat) (v : Word)
  /-- PRF_MARK_RD_WRITE (R298). -/
  | prfMarkRdWrite (axis : Nat) (v : Word)
  /-- PARAMSET_SWITCH (R110). -/
  | paramsetSwitch
  /-- GENERATION_ACTIVATE (R16). -/
  | generationActivate
  /-- PERIOD_EPOCH_CHANGE (R11). -/
  | periodEpochChange
  /-- WALK_RETURN (R142). -/
  | walkReturn (port : Nat) (far : Bool) (looped : Bool) (aH16 dH16 : Nat) (recs : List NodeRec)
  /-- WALK_TIMEOUT (R142). -/
  | walkTimeout (port : Nat)
  /-- ASSIGN_ACK (R143). -/
  | assignAck (port : Nat) (acks : List DWord)
  /-- SERVICE_SEGMENT_RETURN (R160). -/
  | serviceSegmentReturn (port : Nat) (fcsOk : Bool) (segs : List Seg)
  /-- DISTRIBUTION_TIMEOUT (R147). -/
  | distributionTimeout
  /-- NODE_MAILBOX_TIMEOUT (R161). -/
  | nodeMailboxTimeout (node : Nat)
  /-- PROBE_SEND (R150). -/
  | probeSend
  /-- PROBE_RETURN (R150). -/
  | probeReturn (port : Nat) (aH16 dH16 : Nat) (stamps : List Stamps) (recs : List NodeRec) (closedAt : Option Nat)
  /-- JOIN_ACTIVATE (R151). -/
  | joinActivate (port : Nat)
  /-- JOIN_ABANDON (R151). -/
  | joinAbandon (port : Nat)
  /-- JOIN_GRACE_EXPIRY (R153). -/
  | joinGraceExpiry (node : Nat)
  /-- RECLOSE_ACTIVATE (R156). -/
  | recloseActivate (port : Nat)
  /-- DLY_DRIFT (R195). -/
  | dlyDrift (port : Nat)
  /-- PORT_LINK_DOWN (R125). -/
  | portLinkDown (port : Nat)
  /-- NET_COM_ETYPE_WRITE (R127). -/
  | netComEtypeWrite (v : Word)
  /-- NET_COM_CLAIM_WRITE (R129). -/
  | netComClaimWrite (v : Word)
  /-- CONF_OUT_COPY (R165). -/
  | confOutCopy
  /-- CONF_IN_WRITE (R165). -/
  | confInWrite
  /-- UP_SAFE (R166). -/
  | upSafe
  /-- UPSTREAM_C_FRAME (R184). -/
  | upstreamCFrame (f : CFrame)
  /-- PTP_SYNC_RECEIVED (R180). -/
  | ptpSyncReceived (d : Dom) (theta : Int)
  /-- PTP_ANNOUNCE_RECEIVED (R192). -/
  | ptpAnnounceReceived (uplink : Nat) (a : Announce)
  /-- PTP_TRANSMIT (R193). -/
  | ptpTransmit (d : Dom) (kind : PtpKind) (turnaround16 : Nat)
  /-- DOMAIN_LOST (R182). -/
  | domainLost (d : Dom)
  /-- AUTO_REVERT (R187). -/
  | autoRevert
  /-- TMB_INCR_NOM_WRITE (R177). -/
  | tmbIncrNomWrite (v : DWord)
  /-- TMB_SRV_NS_READ (R176). -/
  | tmbSrvNsRead
  /-- SNAPSHOT_LATCH (R196). -/
  | snapshotLatch (id : Nat)
  /-- SNAPSHOT_REQUEST (R198). -/
  | snapshotRequest (id : Nat) (t : Nat)
  /-- SNAPSHOT_REPORT (R198). -/
  | snapshotReport (node id : Nat) (late : Bool) (latch : Nat) (data : List Byte)
  /-- SNAPSHOT_TIMEOUT (R200). -/
  | snapshotTimeout (id : Nat)
  /-- TASK_DISPATCH (R263). -/
  | taskDispatch
  /-- CORE_WOKEN (R266). -/
  | coreWoken (core : Nat)
  /-- PERIODIC_TRIGGER (R258). -/
  | periodicTrigger (ev : Nat)
  /-- DELAY_BOUNDARY (R260). -/
  | delayBoundary (list : Nat)
  /-- SCH_DLY_TICK_WRITE (R260). -/
  | schDlyTickWrite (list : Nat) (v : Word)
  /-- GOVERNOR_PERIOD_END (R271). -/
  | governorPeriodEnd (coreEst otherPower : Nat)
  /-- TEMPERATURE_SAMPLE (R269). -/
  | temperatureSample (temps : List Int)
  /-- PMBUS_TRANSACTION_DONE (R277). -/
  | pmbusTransactionDone (kind : PmbKind) (ok : Bool) (data : Half)
  /-- PMB_FAULT (R278). -/
  | pmbFault
  /-- PWR_GOV_WRITE (R272). -/
  | pwrGovWrite (v : Word)
  /-- PA_NOP (R236). -/
  | eNop (c : Nat) (mv : PMoves)
  /-- MPY (R236). -/
  | eMpy (c : Nat) (n i j : Fin 4) (mv : PMoves)
  /-- MAC (R236). -/
  | eMac (c : Nat) (n i j : Fin 4) (mv : PMoves)
  /-- MSU (R236). -/
  | eMsu (c : Nat) (n i j : Fin 4) (mv : PMoves)
  /-- DMPY (R237). -/
  | eDmpy (c : Nat) (pair : Bool) (sel : BitVec 3) (neg0 neg1 : Bool) (mv : PMoves)
  /-- DMAC (R237). -/
  | eDmac (c : Nat) (pair : Bool) (sel : BitVec 3) (neg0 neg1 : Bool) (mv : PMoves)
  /-- ADD (R236). -/
  | eAdd (c : Nat) (n : Fin 4) (src : BitVec 4) (mv : PMoves)
  /-- SUB (R236). -/
  | eSub (c : Nat) (n : Fin 4) (src : BitVec 4) (mv : PMoves)
  /-- CMP (R236). -/
  | eCmp (c : Nat) (n : Fin 4) (src : BitVec 4) (mv : PMoves)
  /-- CPY (R236). -/
  | eCpy (c : Nat) (n : Fin 4) (src : BitVec 4) (mv : PMoves)
  /-- ZERO (R236). -/
  | eZero (c : Nat) (n : Fin 4) (mv : PMoves)
  /-- NEG (R236). -/
  | eNeg (c : Nat) (n : Fin 4) (mv : PMoves)
  /-- ABS (R236). -/
  | eAbs (c : Nat) (n : Fin 4) (mv : PMoves)
  /-- ROUND (R236). -/
  | eRound (c : Nat) (n : Fin 4) (mv : PMoves)
  /-- LIM (R236). -/
  | eLim (c : Nat) (n : Fin 4) (mv : PMoves)
  /-- SHL (R236). -/
  | eShl (c : Nat) (n : Fin 4) (count : Fin 16) (mv : PMoves)
  /-- SHR (R236). -/
  | eShr (c : Nat) (n : Fin 4) (count : Fin 16) (mv : PMoves)
  /-- AND (R236). -/
  | eAnd (c : Nat) (n : Fin 4) (k : Fin 8) (mv : PMoves)
  /-- OR (R236). -/
  | eOr (c : Nat) (n : Fin 4) (k : Fin 8) (mv : PMoves)
  /-- XOR (R236). -/
  | eXor (c : Nat) (n : Fin 4) (k : Fin 8) (mv : PMoves)
  /-- MAXI_L (R239). -/
  | eMaxiL (c : Nat) (n : Fin 4) (k : Fin 8) (j : Bool) (mv : PMoves)
  /-- MAXI_P (R239). -/
  | eMaxiP (c : Nat) (n : Fin 4) (k : Fin 8) (j : Bool) (mv : PMoves)
  /-- MINI_L (R239). -/
  | eMiniL (c : Nat) (n : Fin 4) (k : Fin 8) (j : Bool) (mv : PMoves)
  /-- MINI_P (R239). -/
  | eMiniP (c : Nat) (n : Fin 4) (k : Fin 8) (j : Bool) (mv : PMoves)
  /-- LD_POINTER (R240). -/
  | eLdPointer (c : Nat) (a : PtrRef) (r : BitVec 6)
  /-- ST_POINTER (R240). -/
  | eStPointer (c : Nat) (a : PtrRef) (r : BitVec 6)
  /-- MOV (R240). -/
  | eMov (c : Nat) (rd rs : BitVec 6)
  /-- LD_ABSOLUTE (R240). -/
  | eLdAbsolute (c : Nat) (spaceY : Bool) (r : BitVec 6) (addr : Half)
  /-- ST_ABSOLUTE (R240). -/
  | eStAbsolute (c : Nat) (spaceY : Bool) (r : BitVec 6) (addr : Half)
  /-- CONTROL_PAGE_DMA_GO (R221). -/
  | controlPageDmaGo (c : Nat) (r : BitVec 6)
  /-- TIME_LO_READ (R221). -/
  | timeLoRead (c : Nat) (r : BitVec 6)
  /-- LDI (R241). -/
  | eLdi (c : Nat) (r : BitVec 6) (v : Q23)
  /-- ADDI (R242). -/
  | eAddi (c : Nat) (n : Fin 4) (v : Half)
  /-- CMPI (R242). -/
  | eCmpi (c : Nat) (n : Fin 4) (v : Half)
  /-- LDIS (R242). -/
  | eLdis (c : Nat) (r : BitVec 6) (v : Half)
  /-- LDIF (R242). -/
  | eLdif (c : Nat) (r : BitVec 6) (v : Half)
  /-- PADD (R242). -/
  | ePadd (c : Nat) (n : Fin 8) (v : Half)
  /-- PMOD (R242). -/
  | ePmod (c : Nat) (n : Fin 8)
  /-- ANDI (R242). -/
  | eAndi (c : Nat) (k : Fin 8) (u : Half)
  /-- ORI (R242). -/
  | eOri (c : Nat) (k : Fin 8) (u : Half)
  /-- NORM (R243). -/
  | eNorm (c : Nat) (n : Fin 4) (k : Fin 8)
  /-- LOOP (R245). -/
  | eLoop (c : Nat) (n : BitVec 10) (last : BitVec 14)
  /-- LOOPR (R245). -/
  | eLoopr (c : Nat) (r : BitVec 6) (last : BitVec 14)
  /-- LEXIT (R247). -/
  | eLexit (c : Nat)
  /-- GOTO (R244). -/
  | eGoto (c : Nat) (addr : BitVec 14)
  /-- GOTO_COND (R248). -/
  | eGotoCond (c : Nat) (cond : BitVec 4) (addr : BitVec 14)
  /-- LINK (R249). -/
  | eLink (c : Nat) (addr : BitVec 14) (n : Fin 8)
  /-- RET (R249). -/
  | eRet (c : Nat) (n : Fin 8)
  /-- DONE (R225). -/
  | eDone (c : Nat)
  /-- WAITCY (R228). -/
  | eWaitcy (c : Nat) (ev : BitVec 3)
  /-- POST (R250). -/
  | ePost (c : Nat) (r : BitVec 6) (pair : BitVec 2) (dly : Bool) (t : BitVec 3)
  /-- SEM_ACQUIRE (R230). -/
  | eSemAcquire (c : Nat) (sem : Fin 64)
  /-- SEM_TRY (R230). -/
  | eSemTry (c : Nat) (sem : Fin 64)
  /-- SEM_RELEASE (R230). -/
  | eSemRelease (c : Nat) (sem : Fin 64)
  /-- VMAX (R251). -/
  | eVmax (c : Nat) (n : Fin 4) (spaceY : Bool) (ptr : Fin 8) (byM : Bool) (count : BitVec 14)
  /-- VMIN (R251). -/
  | eVmin (c : Nat) (n : Fin 4) (spaceY : Bool) (ptr : Fin 8) (byM : Bool) (count : BitVec 14)
  /-- WAITCY_RETURN (R228). -/
  | waitcyReturn (core : Nat)
  /-- POST_STALL_END (R229). -/
  | postStallEnd (core : Nat)
  /-- SEM_GRANT (R230). -/
  | semGrant (sem : Nat)
  /-- WINDOW_READ_RETURN (R220). -/
  | windowReadReturn (core : Nat)
  /-- DMA_DESCRIPTOR_DONE (R221). -/
  | dmaDescriptorDone (core : Nat)
  /-- TASK_END (R225). -/
  | taskEnd (core : Nat)
  /-- RUNTIME_LIMIT (R226). -/
  | runtimeLimit (core : Nat)
  /-- EDY_HALT (R222). -/
  | edyHalt (core : Nat) (v : Word)
  /-- EDY_STEP (R252). -/
  | edyStep (core : Nat) (v : Word)
  /-- MARK_EDGE (R341). -/
  | markEdge (input : Nat) (rising : Bool) (ns : Nat) (frac : Half)
  /-- INPUT_QUALIFIED (R291). -/
  | inputQualified (axis : Nat) (pin : InPin) (level : Bool) (count : Word)
  /-- HARD_STOP_HOME (R292). -/
  | hardStopHome (axis : Nat)
  /-- QUADRATURE_EDGE (R309). -/
  | quadratureEdge (port : Nat) (a b : Bool)
  /-- INDEX_EVENT (R312). -/
  | indexEvent (port : Nat)
  /-- SERIAL_FRAME_START (R314). -/
  | serialFrameStart (port : Nat)
  /-- SERIAL_FRAME_END (R316). -/
  | serialFrameEnd (port : Nat) (started crcOk : Bool) (data : DWord) (delay5 : Nat)
  /-- SD_STUCK (R319). -/
  | sdStuck (port ch : Nat)
  /-- ACQ_SD_SAMPLE (R345). -/
  | acqSdSample (port ch : Nat) (v : Half) (stamp : Nat)
  /-- OVERCURRENT (R320). -/
  | overcurrent (port : Nat)
  /-- FAULT_N (R329). -/
  | faultN (port : Nat) (asserted : Bool)
  /-- GFAULT_N (R329). -/
  | gfaultN (asserted : Bool)
  /-- FB_LOSS (R329). -/
  | fbLoss (port : Nat)
  /-- PWM_PERIOD_BOUNDARY (R327). -/
  | pwmPeriodBoundary (port : Nat)
  /-- PWM_PERIOD_WRITE (R327). -/
  | pwmPeriodWrite (port : Nat) (v : Word)
  /-- PWM_CMP_WRITE (R325). -/
  | pwmCmpWrite (port pair : Nat) (v : Word)
  /-- PWM_COMMIT_WRITE (R327). -/
  | pwmCommitWrite (port : Nat) (v : Word)
  /-- PWM_FLTCLR_WRITE (R330). -/
  | pwmFltclrWrite (port : Nat) (v : Word)
  /-- STEP_INPUT_EDGE (R335). -/
  | stepInputEdge (port : Nat) (dir : Bool) (ns : Nat)
  /-- ACQ_READY (R353). -/
  | acqReady
  /-- ACQ_HOLD_EXPIRY (R351). -/
  | acqHoldExpiry (cond : Nat)
  /-- ACQ_RECORD_DONE (R353). -/
  | acqRecordDone
  /-- ACQ_RING_BLOCK (R359). -/
  | acqRingBlock
  /-- CYCLE_RECORD_RECEIVED (R370). -/
  | cycleRecordReceived (r : CycleRec)
  /-- CYCLE_RECORD_MISSING (R370). -/
  | cycleRecordMissing
  /-- TWIN_HOLD_TIMEOUT (R374). -/
  | twinHoldTimeout
  /-- TWIN_FORWARD_RECEIVED (R373). -/
  | twinForwardReceived (seq : Nat) (cmd : Cmd) (target : Nat)
  /-- TWIN_FORWARD_COMMIT (R373). -/
  | twinForwardCommit (seq : Nat)
  /-- OXBOW_LANE_DOWN (R365). -/
  | oxbowLaneDown (lane : Nat)
  /-- TWIN_JOIN_PREPARE_DONE (R379). -/
  | twinJoinPrepareDone
  /-- TWIN_CATCHUP_PASS (R379). -/
  | twinCatchupPass (marked : Nat)
  /-- TWIN_ENTRY (R379). -/
  | twinEntry (drained : Bool)
  /-- RESYNC_TIMEOUT (R379). -/
  | resyncTimeout
  /-- TWIN_YIELD_HANDOVER (R381). -/
  | twinYieldHandover
  /-- ECC_SCRUB (R382). -/
  | eccScrub (corrected uncorrectable : List Nat) (sramUncorr : Bool)
  /-- MARCH_TEST (R382). -/
  | marchTest (failed : Bool)
  /-- EDDY_TEST (R382). -/
  | eddyTest (core : Nat) (failed : Bool)
  /-- POWER_ON_MONITOR (R431). -/
  | powerOnMonitor (asserted : Bool)
  /-- PORST_N (R388). -/
  | porstN (asserted : Bool)
  /-- THERMAL_TRIP (R388). -/
  | thermalTrip (asserted : Bool)
  /-- WRST_N (R388). -/
  | wrstN (asserted : Bool)
  /-- WATCHDOG_HALF (R388). -/
  | watchdogHalf
  /-- WATCHDOG_TIMEOUT (R388). -/
  | watchdogTimeout
  /-- TWIN_RESET_REQUEST (R388). -/
  | twinResetRequest
  /-- UPSTREAM_RESET (R388). -/
  | upstreamReset (block : Option Nat)
  /-- VCORE_LOSS (R377). -/
  | vcoreLoss
  /-- RELEASE_START (R390). -/
  | releaseStart
  /-- ISLAND_RELEASE (R392). -/
  | islandRelease (i : Nat)
  /-- ISLAND_ABSENT (R393). -/
  | islandAbsent (i : Nat)
  /-- ISLAND_LATE_CLOCK (R393). -/
  | islandLateClock (i : Nat)
  /-- ISLAND_LOCK_LOSS (R392). -/
  | islandLockLoss (i : Nat)
  /-- RST_OVERRIDE_WRITE (R394). -/
  | rstOverrideWrite (v : Word)
  /-- DRAM_TRAINED (R391). -/
  | dramTrained
  /-- SRAM_CLEARED (R391). -/
  | sramCleared
  /-- IMAGE_SELECT (R398). -/
  | imageSelect
  /-- HOST_READY (R391). -/
  | hostReady
  /-- QUIESCE_DONE (R397). -/
  | quiesceDone (block : Nat)
  /-- IMAGE_ERASE_DONE (R399). -/
  | imageEraseDone
  /-- IMAGE_COMMIT_DONE (R400). -/
  | imageCommitDone
  /-- PFAIL_QUALIFIED (R404). -/
  | pfailQualified (code : BitVec 12)
  /-- PFAIL_CLEAR (R404). -/
  | pfailClear
  /-- TIER_EVALUATE (R403). -/
  | tierEvaluate (code : BitVec 12)
  /-- STORE_CAPTURE (R404). -/
  | storeCapture
  /-- STORE_WRITE_DONE (R404). -/
  | storeWriteDone (rate : Nat)
  /-- VAUX_FAIL (R407). -/
  | vauxFail
  /-- JTAG_INSTRUCTION (R439). -/
  | jtagInstruction (code : Byte)
  /-- REG_ACCESS_UPDATE (R440). -/
  | regAccessUpdate (dr : DWord)
  /-- RC_REGISTER_READ (R37). -/
  | rcRegisterRead (addr : Nat)
  /-- REGISTER_WRITE (R37). -/
  | registerWrite (addr size : Nat) (v : DWord)
  /-- PCIE_LINK_UP (R35). -/
  | pcieLinkUp (gt25 msix : Bool)
  /-- PORT_LINK_UP (R125). -/
  | portLinkUp (port : Nat) (fullDuplex negotiated : Bool)
  /-- OXBOW_LANE_UP (R365). -/
  | oxbowLaneUp (lane : Nat) (peer : PeerInfo)
  /-- SLEWING_END (R185). -/
  | slewingEnd
  /-- PTP_DELAY_MESSAGE (R193). -/
  | ptpDelayMessage (d : Dom) (kind : PtpKind) (stamp16 : Nat)
  /-- D_FRAME_HANDOVER (R385). -/
  | dFrameHandover (port : Nat) (looped : Bool) (dH16 : Nat) (recs : List NodeRec)
  /-- UPSTREAM_D_FRAME (R174). -/
  | upstreamDFrame (uplink : Nat) (f : DFrame) (stamp : Word)
  /-- UPSTREAM_F_FRAME (R168). -/
  | upstreamFFrame (uplink : Nat) (fcsOk : Bool) (cycle : Word) (slots : List FSlot)
  /-- UPSTREAM_S_FRAME (R160). -/
  | upstreamSFrame (uplink : Nat) (segs : List Seg)
  deriving DecidableEq, Repr

end Sys2Proof
end

