-- ==== Sys2Proof/Machine/PartsHost.lean ====
section
/-! DEFINITION. The state of the host interface, the reset controller, the boot firmware, the Spillway store and
boundary scan, and the traffic the part sends (02, 14, 15). -/
namespace Sys2Proof.Machine

/-- An event entry (02 R47); `data` are the bytes from byte 20 on. -/
structure Evt where
  code : Nat
  target : Half
  cycle : Word
  time : Word
  path : BitVec 48 := 0xFFFFFFFFFFFF#48
  data : List Byte
  deriving DecidableEq, Repr

/-- A completion entry (02 R45, R55). `inline` is false when the result went to the result buffer. -/
structure Cpl where
  cmdRing : Nat
  tag : Half
  status : Half
  detail : Half
  len : Nat
  time : Word
  result : List Word
  inline : Bool
  deriving DecidableEq, Repr

/-- A host ring's registers and bookkeeping (02 R38-R48). -/
structure Ring where
  base : DWord := 0
  enable : Bool := false
  prio : Bool := false
  cplRing : BitVec 6 := 0
  vector : BitVec 6 := 0
  sizeLog2 : BitVec 4 := 0
  type : BitVec 2 := 0
  tail : BitVec 13 := 0
  head : BitVec 13 := 0
  evtLost : Half := 0
  cfgErr : Bool := false
  dmaErr : Bool := false
  idxErr : Bool := false
  stopped : Bool := false
  imodTime : Half := 0
  imodCount : Byte := 1
  /-- entries posted and not yet signalled (R41) -/
  unsig : Nat := 0
  /-- EVT_OVERFLOW still owed: events discarded since the last one, and the cycle of the first (R48, R49) -/
  owedCount : Half := 0
  owedCycle : Word := 0
  /-- a TASK_POST at the head is held back (09 R257) -/
  heldPost : Bool := false
  deriving DecidableEq, Repr

/-- A command sent on to a nested head, awaiting its reply (02 R54). -/
structure Fwd where
  id : Nat
  node : Nat
  pkt : Pkt
  deriving DecidableEq, Repr

/-- The host interface (02). -/
structure HostIf where
  linkUp : Bool := false
  gt25 : Bool := false
  msixEn : Bool := false
  ready : Bool := false
  rings : List Ring := List.replicate 64 {}
  evtEn : Bool := false
  evtRing : BitVec 6 := 0
  evtDropped : Half := 0
  heldBootDone : Option Evt := none
  /-- the MSI-X table by byte offset, the mask bit of each entry inverted: an entry is masked at reset (log entry 14) -/
  msix : Cells 32 := []
  pba : DWord := 0
  cause : BitVec 4 := 0
  mask : BitVec 4 := 0xF
  intx : DWord := 0
  rrHigh : Nat := 0
  rrLow : Nat := 0
  /-- completions whose CPL ring is full, oldest first (R48) -/
  cplWait : List (Nat × Cpl) := []
  fwd : List Fwd := []
  nextFwd : Nat := 0
  deriving DecidableEq, Repr

/-- The states of a clocked island (14 RST_ISLAND). -/
inductive Island where
  | inReset
  | clockWait
  | running
  | absent
  deriving DecidableEq, Repr

/-- Reach of a reset (14 R388). -/
inductive Reach where
  | cold
  | warm
  deriving DecidableEq, Repr

/-- Where the release sequence of R391 stands. -/
inductive Phase where
  | asserted
  | islands
  | dram
  | sram
  | image
  | running
  deriving DecidableEq, Repr

/-- A BLOCK_QUIESCE in progress or done (14 R397). -/
structure Quiesce where
  block : Nat
  done : Bool := false
  pkt : Pkt
  deriving DecidableEq, Repr

/-- The reset controller (14 R388-R397). -/
structure Rst where
  reach : BitVec 2 := 0
  last : Byte := 0
  seen : Byte := 0
  twinEn : Bool := false
  upstreamEn : Bool := true
  wdogMs : Half := 100
  islands : List Island := List.replicate 9 .inReset
  override : BitVec 9 := 0
  blkNum : Byte := 0
  blkCount : Half := 0
  asserted : Byte := 0
  /-- the episode in progress, from its first assertion to host-ready: its reach and its sources (R390) -/
  episode : Option (Reach × Byte) := some (.cold, 0)
  phase : Phase := .asserted
  /-- a RESET by command whose completion is written: its reach and its bit of RST_CAUSE (02 R61) -/
  pendingReset : Option (Reach × Nat) := none
  quiesce : List Quiesce := []
  deriving DecidableEq, Repr

/-- An image slot of the boot flash (14 R398). -/
structure ImgSlot where
  headerValid : Bool := false
  authentic : Bool := false
  seq : Word := 0
  length : Nat := 0
  version : Word := 0
  deriving DecidableEq, Repr

/-- An image update in progress (14 R399). -/
structure Update where
  length : Nat
  version : Word
  erasing : Bool := true
  /-- commands that complete when the slot is erased -/
  beginPkts : List Pkt := []
  written : Nat := 0
  data : List Word := []
  commit : Option Pkt := none
  deriving DecidableEq, Repr

/-- The boot script region (02 R64). -/
structure Script where
  valid : Bool := false
  hostSkip : Bool := false
  packets : List Cmd := []
  deriving DecidableEq, Repr

/-- Boot flash, running firmware and boot script (14 R398-R400, 02 R64-R66). -/
structure Boot where
  slots : List ImgSlot := [{ headerValid := true, authentic := true, seq := 1, length := 4096, version := 0x01000000 }, {}]
  running : BitVec 2 := 0
  seq : Word := 0
  version : Word := 0
  romOnly : Bool := false
  board : Option (List Word) := none
  script : Script := {}
  scriptState : Nat := 0
  scriptFail : Half := 0xFFFF
  scriptFailStatus : Half := 0
  scriptRun : Nat := 0
  /-- the next packet to run, while the script runs -/
  scriptIdx : Option Nat := none
  /-- the script waits for the final completion of the packet started last -/
  scriptWait : Bool := false
  scriptDone : Bool := false
  update : Option Update := none
  deriving DecidableEq, Repr

/-- Positions entry of the shadow and of store records (14 R406). -/
structure PosEntry where
  extPos : DWord := 0
  extCycle : DWord := 0
  origin : DWord := 0
  valid : Bool := false
  homed : Bool := false
  state : BitVec 3 := 0
  deriving DecidableEq, Repr

/-- A store record, held as its header fields and body words (14 R406). -/
structure StoreRec where
  seq : Word
  tier : Nat
  reason : Nat
  axes : Nat
  ks : Nat
  time : Nat
  eAvail : Nat
  tags : List Half
  positions : List PosEntry
  setIds : List Word
  /-- event entries with their PHASE, oldest first -/
  faultLog : List (Bool × Evt)
  acqContext : List Word
  deriving DecidableEq, Repr

/-- A store in progress (14 R404, R405). -/
structure StoreRun where
  tier : Nat
  reason : Nat
  captured : Option StoreRec := none
  eAvail : Nat := 0
  /-- slot the record goes to, once known -/
  slot : Nat := 0
  pkt : Option Pkt := none
  deriving DecidableEq, Repr

/-- The Spillway store (14 R401-R410). -/
structure Spw where
  en : Bool := false
  filt : BitVec 4 := 0
  cHold : Nat := 0
  vMin : Nat := 0
  kDiv : Nat := 0
  pBoard : Nat := 0
  base : Word := 0
  clock : Nat := 0
  dtr : Bool := false
  pfail : Bool := false
  held : Bool := false
  tier : Nat := 0
  code : BitVec 12 := 0
  vMv : Nat := 0
  eAvail : Nat := 0
  needMin : Nat := 0
  needFull : Nat := 0
  rate : Nat := 0
  /-- valid records on the store device by address of their slot, in rising order (R406) -/
  device : List (Nat × StoreRec) := []
  /-- the slots have been looked at since the store domain was reset (R391) -/
  known : Bool := false
  run : Option StoreRun := none
  stores : Half := 0
  noneCnt : Half := 0
  /-- tier, sequence, k_s and E_avail of the power failure reported last (R410) -/
  report : Nat × Nat × Nat × Nat := (0, 0, 0, 0)
  /-- the position shadow, with the cycle and the served time of the D_X that wrote it (R401) -/
  shadow : List PosEntry := List.replicate 256 {}
  shadowK : Nat := 0
  shadowT : Nat := 0
  /-- the shadow as the last WARM reset found it (R408) -/
  kept : Option (List PosEntry × Nat × Nat) := none
  tags : List Half := List.replicate 64 0
  acqSettings : Option (List Word) := none
  /-- a COLD reset came while a store was written: the domain is reset when it ends (R407) -/
  coldAfter : Bool := false
  /-- the last 512 event entries posted with their PHASE, newest first (FULL tier's fault log) -/
  log : List (Bool × Evt) := []
  deriving DecidableEq, Repr

/-- The test access port (15 R439, R440). -/
structure Tap where
  ir : Byte := 0x02
  /-- what the selected data register captured last -/
  dr : DWord := 0
  /-- the answer of the last REG_ACCESS read -/
  answer : Word := 0
  deriving DecidableEq, Repr

/-- Identity fuses and ordering code (15 R437, R438; 00 R1-R5). -/
structure Fuse where
  code : Half := 0x2561
  letter : Byte := 0x41
  digit : Byte := 0
  id0 : Word := 0
  id1 : Word := 0
  id2 : Word := 0
  crc16 : Half := 0x84F9
  crcFail : Bool := false
  deriving DecidableEq, Repr

end Sys2Proof.Machine
end

