-- ==== Sys2Proof/Machine/PartsNet.lean ====
section
/-! DEFINITION. The state of the Millrace network and of the time base (05, 06). -/
namespace Sys2Proof.Machine

/-- Drive modes (03 R71). -/
inductive Mode where
  | c
  | t
  | v
  | p
  deriving DecidableEq, Repr

/-- The stages of a recipe (03 R73). -/
inductive Stage where
  | inn
  | pe
  | se
  | sp
  | ct
  | sl
  | xc
  | bq
  | lmT
  | lmV
  | cu3
  | cu2
  | out
  deriving DecidableEq, Repr

/-- A loop recipe (03 R73-R76). -/
structure Recipe where
  id : Nat
  mode : Mode
  selPoint : Bool := false
  stages : List Stage
  deriving DecidableEq, Repr

/-- A line of a generation (05 R145; 01 R20). -/
structure Line where
  port : Nat
  gen : Nat := 3
  topo : Nat := 0
  ringPort : Nat := 0
  divider : Nat := 1
  cOffset : Nat := 0
  sMax : Nat := 1024
  deriving DecidableEq, Repr

/-- A node as a generation names it (05 R145). -/
structure GNode where
  index : Nat
  port : Nat
  pos : Nat
  fLen : Nat
  cLen : Nat
  modes : List Mode := []
  nSafe : Nat := 3
  safeAction : Byte := 0
  deriving DecidableEq, Repr

/-- An axis slot of a generation (03 R69). -/
structure SlotAsg where
  lattice : Nat
  slot : Nat
  axis : Nat
  recipe : Nat
  deriving DecidableEq, Repr

/-- A schedule generation (05 R145). -/
structure GenImage where
  gen : Nat
  tc : Nat := 31250
  epoch : Nat := 0
  sampleOffset : Nat := 0
  fDepart : Nat := 500
  dU : Nat := 9500
  dX : Nat := 19000
  guardNs : Nat := 2000
  applyOffset : Nat := 0
  lines : List Line := []
  nodes : List GNode := []
  recipes : List Recipe := []
  slots : List SlotAsg := []
  deriving DecidableEq, Repr

/-- Port states (05 R144). -/
inductive PState where
  | dark
  | walking
  | linked
  | run
  deriving DecidableEq, Repr

/-- A discovery in progress (05 R142). -/
structure Walk where
  pkt : Pkt
  gen : Nat
  topo : Nat
  ringPort : Nat
  expect : Nat
  attempts : Nat := 0
  before : PState := .dark
  found : Nat := 0
  newN : Nat := 0
  keptN : Nat := 0
  /-- identities still to acknowledge their ASSIGN -/
  awaiting : List DWord := []
  assigning : Bool := false
  /-- a WALK is on its way -/
  sent : Bool := false
  /-- run for the partner that discovers the twin ring (13 R385) -/
  forPartner : Bool := false
  deriving DecidableEq, Repr

/-- A join being prepared (05 R151). -/
structure Join where
  cycle : Nat
  gen : Option GenImage
  /-- index, whether it was kept, and record of each found node, in order from position `base` -/
  found : List (Nat × Bool × NodeRec)
  base : Nat
  /-- records of the found nodes, by identity -/
  cfgs : List (DWord × NodeCfg) := []
  waiting : List DWord
  oldLast : Option Nat
  /-- table entries the join removes -/
  removed : List Nat := []
  /-- turned positions of a ring that the join closes (R156) -/
  reclose : Option (Nat × Nat) := none
  deriving DecidableEq, Repr

/-- A message of the service mailbox on its way to a node (05 R159, R160). -/
structure SvcMsg where
  node : Nat
  kind : Half
  words : List Word
  /-- first word not yet acknowledged -/
  sent : Nat := 0
  seq : Nat := 0
  msg : Byte := 0
  deriving DecidableEq, Repr

/-- A Millrace port (05, NET_ registers). -/
structure MPort where
  state : PState := .dark
  gen : BitVec 2 := 0
  topo : BitVec 2 := 0
  ringPort : BitVec 6 := 0
  turned : Bool := false
  link : Bool := false
  joinEn : Bool := true
  linkLoss : Byte := 3
  joinInterval : Half := 1000
  actLead : BitVec 11 := 64
  stat : BitVec 6 := 0
  fArrive : BitVec 18 := 0
  cArrive : BitVec 18 := 0
  fcsCount : Half := 0
  lateCount : Half := 0
  /-- node index at each position -/
  pos : List Nat := []
  linkDly : List (BitVec 24) := List.replicate 32 0
  fwd : List Half := List.replicate 32 0
  /-- delay of the closing cable of a ring, in 1/16 ns -/
  closeDly : BitVec 24 := 0
  walk : Option Walk := none
  dq : List DFrame := []
  svc : List SvcMsg := []
  nextMsg : Byte := 0
  driftRun : Nat := 0
  remeasure : Bool := false
  join : Option Join := none
  reclose : Option (Nat × Nat × Nat) := none
  loopedDir0 : Bool := false
  loopedDir1 : Bool := false
  fSeen : Bool := false
  probeDue : Bool := false
  /-- a PROBE is on its way, and its P -/
  probeP : Option Nat := none
  /-- position whose node is served next with an up segment (R160) -/
  upTurn : Nat := 0
  /-- NODE_JOINED events of a join that took effect, for D_X: index, kept, position, identity (R151) -/
  joined : List (Nat × Bool × Nat × DWord) := []
  /-- settings of NET_JOIN_CONFIGURE and the cycle they take effect from (R157) -/
  cfgNext : Option (Nat × Bool × Byte × Half × BitVec 11) := none
  /-- furthest positions with a valid slot in the looped frames of the two directions (R158) -/
  turnLo : Option Nat := none
  turnHi : Option Nat := none
  deriving DecidableEq, Repr

/-- A NET_NODE_MAILBOX exchange (05 R161). -/
structure Mailx where
  pkt : Pkt
  expectReply : Bool
  endNs : Nat
  deriving DecidableEq, Repr

/-- A node table entry (05 NET_NODE_n, R140, R143). -/
structure Node where
  used : Bool := false
  lost : Bool := false
  port : BitVec 6 := 0
  pos : BitVec 5 := 0
  cls : BitVec 4 := 0
  axes : BitVec 4 := 0
  identity : DWord := 0
  caps : Half := 0
  gens : BitVec 3 := 0
  fLen : Nat := 0
  cLen : Nat := 0
  lsb : Word := 0
  cmdMissCnt : Half := 0
  tieCnt : Half := 0
  invalidRun : Nat := 0
  graceEnd : Option Nat := none
  /-- a record sent and not yet acknowledged (GEN_FIRST) -/
  unacked : Option Half := none
  slotNow : Option FSlot := none
  /-- a copy of the slot has been judged in this line cycle -/
  judged : Bool := false
  mailx : Option Mailx := none
  svcPending : Bool := false
  /-- the node owes a reply; an up segment is still to be confirmed (R160) -/
  owes : Bool := false
  confirm : Bool := false
  /-- message being received, and the number and segment received last -/
  rx : List Word := []
  rxLast : Option (Byte × Byte) := none
  /-- record acknowledged last, and the one sent since -/
  cfg : Option NodeCfg := none
  sentCfg : Option NodeCfg := none
  deriving DecidableEq, Repr

/-- An entry of the confluence copy list (05 NET_COM_COPY_n). -/
structure Copy where
  en : Bool := false
  wide : Bool := false
  axis : Byte := 0
  src : BitVec 7 := 0
  dst : BitVec 10 := 0
  deriving DecidableEq, Repr

/-- A head as a Confluence node of an upstream head (05 R162-R172). -/
structure Conf where
  role : Bool := false
  upSafe : Bool := false
  level : BitVec 2 := 0
  index : BitVec 10 := 0
  mMul : Half := 0
  cfgs : List NodeCfg := []
  copy : List Copy := List.replicate 128 {}
  confIn : Cells 8 := []
  confOut : Cells 8 := []
  latched : List Byte := []
  latchedCycle : Word := 0
  /-- candidates for the next decision (R171) -/
  cands : List CFrame := []
  safeRun : Nat := 0
  /-- generation of the upstream frames, and this head's position -/
  upGen : Half := 0
  pos : Nat := 0
  /-- cycle named in a RESUME or RECLOSE for this position (R149) -/
  resume : Option DWord := none
  lastTie : Bool := false
  lastMiss : Bool := false
  lastApplied : BitVec 2 := 0
  /-- up messages not yet confirmed -/
  upq : List (Half × List Word) := []
  rxWords : List Word := []
  rxLast : Option (Byte × Byte) := none
  /-- words of the head of `upq` confirmed, its segment number, and the words of the segment last filled -/
  txSent : Nat := 0
  txSeq : Nat := 0
  txMsg : Byte := 0
  txFilled : Nat := 0
  deriving DecidableEq, Repr

/-- The network common state (05 NET_COM_). -/
structure Net where
  ports : List MPort := List.replicate 48 {}
  nodes : List Node := List.replicate 1024 {}
  etype : Half := 0x88B5
  claimBase : Half := 0x0100
  active : Option GenImage := none
  pending : Option GenImage := none
  arriving : Option (Nat × List (Nat × List Byte)) := none
  pendState : Nat := 0
  joinGen : Bool := false
  actCycle : DWord := 0
  distEnd : Nat := 0
  conf : Conf := {}
  deriving DecidableEq, Repr

/-- A 112-bit time counter: seconds, nanoseconds, 2^-32 ns (06 R176). -/
structure TCnt where
  sec : BitVec 48 := 0
  ns : BitVec 30 := 0
  frac : Word := 0
  deriving DecidableEq, Repr

/-- Domain states (06 R182). -/
inductive DState where
  | free
  | acquiring
  | locked
  | lost
  deriving DecidableEq, Repr

/-- A domain's configuration block (06 TIME_CONFIGURE). -/
structure DomCfg where
  source : BitVec 3 := 0
  profile : BitVec 2 := 0
  transport : BitVec 2 := 0
  oneStep : Bool := false
  slaveOnly : Bool := true
  domainNumber : Byte := 0
  intervals : Word := 0
  kp : Word := 0
  ki : Word := 0
  prio1 : Byte := 128
  prio2 : Byte := 128
  stepThresh : Word := 0
  deriving DecidableEq, Repr

/-- A time domain (06 R180-R182). -/
structure Domain where
  cnt : TCnt := {}
  incr : BitVec 40 := 0x0400000000
  state : DState := .free
  integ : Int := 0
  theta : Word := 0
  recent : List (BitVec 40) := []
  inRun : Nat := 0
  outRun : Nat := 0
  clamp : Bool := false
  steps : Byte := 0
  syncCount : Half := 0
  cfg : DomCfg := {}
  lockedAt : Option Nat := none
  master : Option Announce := none
  isMaster : Bool := false
  deriving DecidableEq, Repr

/-- An uplink's PTP data (06 R193). -/
structure Uplink where
  mac : BitVec 48 := 0
  ip4 : Word := 0
  ip6 : List Word := [0, 0, 0, 0]
  ing : Half := 0
  egr : Half := 0
  quiet : Bool := false
  lastRx : Nat := 0
  deriving DecidableEq, Repr

/-- One entry of a snapshot (06 R201). -/
structure SnapEntry where
  target : Half
  index : Nat := 0
  status : BitVec 8 := 3
  latch : DWord := 0
  data : List Byte := []
  deriving DecidableEq, Repr

/-- A snapshot id (06 R196-R201). -/
structure Snap where
  time : Nat := 0
  state : BitVec 2 := 0
  scope : BitVec 3 := 0
  entries : List SnapEntry := []
  waiting : List Nat := []
  latched : Bool := false
  /-- asked for by the upstream head, and late (06 R197, R198) -/
  upLate : Option Bool := none
  pkt : Option Pkt := none
  deriving DecidableEq, Repr

/-- The time base (06, TMB_ registers; 01 R8, R9). -/
structure Tmb where
  served : TCnt := {}
  incr : BitVec 40 := 0x0400000000
  incrNom : BitVec 40 := 0x0400000000
  holdIncr : BitVec 40 := 0x0400000000
  domP : Domain := {}
  domS : Domain := {}
  uplinks : List Uplink := [{}, {}]
  select : BitVec 2 := 0
  revert : Bool := false
  selected : Dom := .p
  holdover : Bool := false
  slewMax : Nat := 50000
  slewing : Bool := false
  /-- ticks since the served increment was last adjusted (06 R185) -/
  usTick : Nat := 0
  /-- gap to the twin partner's served time as the last record showed it, in 2^-32 ns, while this head follows it (06 R189) -/
  partnerGap : Option Int := none
  dlyDrift : Bool := false
  latSec : BitVec 48 := 0
  latFrac : Word := 0
  tc : Nat := 31250
  epoch : Nat := 0
  snaps : List Snap := List.replicate 4 {}
  deriving DecidableEq, Repr

end Sys2Proof.Machine
end

