-- ==== Sys2Proof/Config.lean ====
section
/-! DEFINITION. What the manual leaves open: constants with no body, so that no proof can see a value.
Each is named in notes/assumptions. -/
namespace Sys2Proof

/-- A value the manual leaves undefined, `w` bits wide; applied to State.freeCtr, which the step advances (log entry 3). -/
opaque Config.freeBits (w : Nat) : Nat → BitVec w

/-- The layout of a schedule generation image (05 R145) is Uzozen's and is not in the manual: the image that some
bytes spell, with the tests the manual puts on its own fields left to NET_SCHEDULE_LOAD (log entry 10). -/
opaque Config.decodeImage : List Byte → Option Machine.GenImage

/-- Whether a P-256 signature authenticates an image (14 R398, R399) (log entry 11). -/
opaque Config.authentic : List Word → List Word → Bool

/-- Whether the test write of STORE_CONFIGURE succeeds, and the rate it measures in 10^6 B/s (14 R409) (log entry 12). -/
opaque Config.storeTest : Nat → Option Nat

/-- T_LEAD in ns of a serial frame, from the words of PORT_CONFIGURE at offsets 20 and 24 and the measured line delay in 5 ns steps
(11 R314): the manual names what it is computed from but not how (log entry 44). -/
opaque Config.frameNs : Word → Word → Nat → Nat

/-- How a head's 64-bit Millrace identity comes from its identity fuses, but for bit 63, which is set (05 R175) (log entry 39). -/
opaque Config.headIdentity : List Word → DWord

/-- Bytes of DRAM channel 0 (A), 1 (B) or 2 (C), as the board is fitted (12 R356) (log entry 60). -/
opaque Config.dramBytes : Nat → Nat

/-- Ouvham's JEDEC manufacturer identity, and the IDCODE version of a silicon revision after A0, which the manual does not list
(15 R439) (log entry 66). -/
opaque Config.jedec : BitVec 11
opaque Config.jtagVersion : BitVec 8 → BitVec 8 → BitVec 4

end Sys2Proof
end

