-- ==== Sys2Proof/Machine/PartsAxis.lean ====
section
/-! DEFINITION. The state of an axis: its record, its loop memory and its profile generator; and the state of the
loop engine (03, 04, 10). -/
namespace Sys2Proof.Machine

/-- Axis states (03 R97). -/
inductive AState where
  | disabled
  | ready
  | enabled
  | stopping
  | fault
  deriving DecidableEq, Repr

/-- Drive commands (03 R71, 05 R138). -/
inductive Drive where
  | off
  | run
  | short
  deriving DecidableEq, Repr

/-- A history entry (04 R121). -/
structure Hist where
  cycle : DWord := 0
  flags : Word := 0
  state : BitVec 3 := 0
  win : BitVec 3 := 0
  drive : BitVec 2 := 0
  activeSet : Bool := false
  pFb : Word := 0
  pRef : Word := 0
  pFrac : Half := 0
  eP : Half := 0
  eInt : Word := 0
  v : Half := 0
  sStar : Half := 0
  y : Half := 0
  tauIn : Half := 0
  tauLm : Half := 0
  iqRef : Half := 0
  iU : Half := 0
  iV : Half := 0
  vDc : Half := 0
  theta : Half := 0
  iD : Half := 0
  iQ : Half := 0
  uD : Half := 0
  uQ : Half := 0
  out0 : Half := 0
  out1 : Half := 0
  out2 : Half := 0
  u : List Half := [0, 0, 0, 0]
  done : Word := 0
  m : List Half := [0, 0, 0]
  r : List Half := [0, 0, 0]
  vRef : Half := 0
  aRef : Half := 0
  d : Half := 0
  xcSum : Half := 0
  refTag : Word := 0
  setptTag : Word := 0
  iP : Word := 0
  iS : Word := 0
  iDint : Word := 0
  iQint : Word := 0
  deriving DecidableEq, Repr

/-- A BQ section's memory and coefficients in use (04 R118, 03 R82). -/
structure Bq where
  x1 : Half := 0
  x2 : Half := 0
  y1 : Word := 0
  y2 : Word := 0
  b0 : Half := 0
  b1 : Half := 0
  b2 : Half := 0
  a1 : Half := 0
  a2 : Half := 0
  ovr : Bool := false
  deriving DecidableEq, Repr

/-- A set-point mailbox slot: its tag, its five data words and its commit word (04 R112). -/
structure MbxSlot where
  tag : DWord := 0
  data : List Word := [0, 0, 0, 0, 0]
  commit : Word := 0
  deriving DecidableEq, Repr

/-- The values taken from the mailbox and in use (04 R113, R114). -/
structure InUse where
  pRef : Word := 0
  pFrac : Half := 0
  vRef : Half := 0
  aRef : Half := 0
  refTag : DWord := 0
  refSlot : Option Nat := none
  spdSp : Half := 0
  trqSp : Half := 0
  r : List Half := [0, 0, 0]
  setptTag : DWord := 0
  deriving DecidableEq, Repr

/-- The loop memory the engine carries from one computation to the next (03 R82-R88). -/
structure Loop where
  iP : Int := 0
  iS : Int := 0
  iD : Int := 0
  iQ : Int := 0
  iC : List Int := [0, 0, 0]
  v : Int := 0
  pPrev : Option Word := none
  pRev : Nat := 0
  thetaPrev : Half := 0
  thetaCycle : Option Nat := none
  dTheta : Int := 0
  bq : List Bq := List.replicate 4 {}
  out0 : Half := 0
  out1 : Half := 0
  out2 : Half := 0
  pOut : Word := 0
  pOutFrac : Half := 0
  deriving DecidableEq, Repr

/-- Generator states (10 PRF_STATUS.STATE). -/
inductive GState where
  | idle
  | move
  | velocity
  | gear
  | cam
  | homing
  | ramp
  deriving DecidableEq, Repr

/-- A segment of a plan (10 R283): `n` cycles left, jerk `jNum / jDen` in units of 2^-40 count per cycle^3, and for a
trapezoidal segment the acceleration it holds. `id` is the number of R446. -/
structure PSeg where
  id : Nat
  n : Nat
  jNum : Int := 0
  jDen : Nat := 1
  acc : Option Int := none
  deriving DecidableEq, Repr

/-- A MOVE's parameters (02 MOVE). -/
structure MovePar where
  profile : Nat
  relative : Bool
  target : Int
  velocity : Int
  acc : Nat
  dec : Nat
  jerk : Nat
  deriving DecidableEq, Repr

/-- A gearing engagement (10 R287, R288). -/
structure Gear where
  cam : Bool := false
  msrcFb : Bool := false
  rel : Bool := false
  master : Nat := 0
  num : Int := 0
  den : Nat := 1
  slew : Nat := 0
  offset : Int := 0
  m0 : Int := 0
  s0 : Int := 0
  targetPhase : Int := 0
  phi : Int := 0
  deriving DecidableEq, Repr

/-- A homing search (10 R292). -/
structure Homing where
  method : Nat := 0
  dirNeg : Bool := false
  useIndex : Bool := false
  search : Nat := 0
  creep : Nat := 0
  acc : Nat := 0
  homePos : Int := 0
  tqThresh : Int := 0
  tqTime : Nat := 0
  tqRun : Nat := 0
  /-- HOME_PHASE -/
  phase : Nat := 0
  latched : Option Int := none
  found : Bool := false
  failed : Bool := false
  deriving DecidableEq, Repr

/-- A compare (10 R294-R296). -/
structure Cmpr where
  dir : Nat := 0
  ifPassed : Bool := false
  outPin : Bool := false
  outSlot : Bool := false
  port : Nat := 0
  node : Nat := 0
  p : Int := 0
  interval : Int := 0
  ctrl : Word := 0
  offset : Nat := 0
  width : Nat := 1
  seq : Byte := 0
  lost : Half := 0
  last : Word := 0
  deriving DecidableEq, Repr

/-- A slot event waiting to go out (10 R295). -/
structure SlotEvt where
  node : Nat
  offset : Nat
  bytes : List Byte
  deriving DecidableEq, Repr

/-- A mark waiting for its closing sample (10 R298). -/
structure MarkWait where
  ns : Nat
  frac : Half
  input : Nat
  rising : Bool
  xPrev : Option Int
  sPrev : Nat
  deriving DecidableEq, Repr

/-- A limit or home input (10 R290, R291). -/
structure Lim where
  src : Word := 0
  raw : Bool := false
  level : Bool := false
  since : Nat := 0
  ignore : Bool := false
  deriving DecidableEq, Repr

/-- The profile block and the generator's state (10 R280-R300). Positions, velocity and acceleration are held in
units of 2^-40 count. -/
structure Prof where
  state : GState := .idle
  plan : List PSeg := []
  /-- the plan of an overshoot's return, still to be run, or the target that a held ramp still reaches (R285) -/
  retTarget : Option Int := none
  /-- that return follows an overshoot -/
  retOver : Bool := false
  x : Int := 0
  v : Int := 0
  a : Int := 0
  /-- the reference before, of cycle k - 1 (R286) -/
  px : Int := 0
  pv : Int := 0
  pa : Int := 0
  target : Int := 0
  vCmd : Int := 0
  vDone : Bool := false
  accl : Nat := 0
  dec : Nat := 0
  vmax : Nat := 0
  jerk : Nat := 0
  jerkLim : Bool := false
  /-- the deceleration of the plan in force: PRF_DEC, but for a ramp that DECEL_LATCH holds (R285) -/
  planDec : Nat := 0
  /-- the segment that the last reference belongs to (R446) -/
  seg : Nat := 0
  /-- the cycle of the last reference (R299) -/
  refCycle : Nat := 0
  endCycle : Nat := 0
  final : Option (Nat × GState) := none
  decelLatch : Bool := false
  phaseIgn : Bool := false
  returning : Bool := false
  origin : Int := 0
  homed : Bool := false
  camPhase : Int := 0
  gear : Gear := {}
  homing : Homing := {}
  limP : Lim := {}
  limN : Lim := {}
  home : Lim := {}
  debounce : Nat := 0
  pendMove : Option (Nat × MovePar) := none
  pendGear : Option (Nat × Nat × Gear × Nat) := none
  cmps : List Cmpr := List.replicate 4 {}
  slotEvts : List SlotEvt := []
  bindInput : Nat := 0
  bindEdge : Nat := 0
  w0 : Int := 0
  wLen : Nat := 0
  repeatLen : Nat := 0
  markWr : BitVec 5 := 0
  markRd : BitVec 5 := 0
  markLost : Half := 0
  markOutside : Half := 0
  marks : List (List Word) := List.replicate 16 (List.replicate 8 0)
  markWait : List MarkWait := []
  /-- the last three valid positions in the axis coordinate, newest first, with their sample instants (R288, R295, R298) -/
  fb1 : Option (Int × Nat) := none
  fb2 : Option (Int × Nat) := none
  fb3 : Option (Int × Nat) := none
  deriving DecidableEq, Repr

/-- Counters and flags (04 R120, R123). -/
structure Cnts where
  now : BitVec 20 := 0
  sticky : BitVec 20 := 0
  causes : BitVec 7 := 0
  first : Byte := 0
  missRun : Byte := 0
  feTimer : Half := 0
  dlMiss : Half := 0
  fbMiss : Half := 0
  sat : Half := 0
  ctMiss : Half := 0
  mbxRej : Half := 0
  mbxStale : Half := 0
  frozen : Bool := false
  freezeEn : Bool := true
  post : BitVec 6 := 16
  histLast : DWord := 0
  histFreeze : DWord := 0
  /-- a freeze on its way: its cycle f, and the cycle the ring stops after once POST is latched -/
  freezeLeft : Option (Nat × Option Nat) := none
  deriving DecidableEq, Repr

/-- The configuration header (04 R104). -/
structure Hdr where
  mode : Mode := .c
  recipe : Nat := 0
  binding : Word := 0
  posFs : Nat := 0
  spdFs : Nat := 0
  curFs : Nat := 0
  vdcFs : Nat := 0
  accFs : Nat := 0
  feLimit : Nat := 0
  feTime : Nat := 0
  missLimit : Nat := 0
  faultAction : Nat := 0
  stopTimeout : Nat := 0
  standstill : Nat := 0
  posGain : Nat := 0
  kinCur : Word := 0
  kinVdc : Word := 0
  lattice : Nat := 0
  slot : Nat := 0
  activeSet : Bool := false
  switchPending : Bool := false
  switchTo : Bool := false
  refSrc : Bool := false
  switchCycle : DWord := 0
  /-- AXIS_CONFIGURE has bound the axis -/
  bound : Bool := false
  deriving DecidableEq, Repr

/-- One axis (04 R102). -/
structure Axis where
  state : AState := .disabled
  hdr : Hdr := {}
  setA : Cells 32 := []
  setB : Cells 32 := []
  mbx : List MbxSlot := List.replicate 8 {}
  use : InUse := {}
  loop : Loop := {}
  live : Hist := {}
  extPos : Int := 0
  extCycle : Nat := 0
  extValid : Bool := false
  cnt : Cnts := {}
  hist : List Hist := List.replicate 64 {}
  prof : Prof := {}
  /-- the fault action in effect, while STOPPING or FAULT (03 R89, R94) -/
  action : Option Nat := none
  /-- STOPPING ends in DISABLED (AXIS_DISABLE with RAMP) rather than FAULT -/
  stopToDisabled : Bool := false
  stopCycles : Nat := 0
  still : Nat := 0
  holdPos : Word := 0
  missAgain : Nat := 0
  /-- causes whose condition has not cleared since they were raised (03 R95) -/
  live6 : BitVec 7 := 0
  drive : Drive := .off
  held : Bool := false
  /-- this cycle: computed, feedback missing -/
  computed : Bool := false
  fbMissing : Bool := false
  hallPending : Bool := false
  /-- a ramp stop that begins with the next computation (03 R93) -/
  rampDue : Bool := false
  /-- status word of the drive as last read (05 R138) -/
  status : Half := 0
  /-- flags gathered in the present cycle -/
  flags : BitVec 20 := 0
  /-- the limited torque demand of the entry before the latest computation's (03 R82) -/
  tauPrev : Half := 0
  /-- the mailbox as the lattice start found it (R114) -/
  mbxSnap : Option (List MbxSlot) := none
  deriving DecidableEq, Repr

/-- A lattice in the present cycle (03 R68, 01 R13, R25). -/
structure Lat where
  started : Bool := false
  lastDone : Nat := 0
  /-- slot positions finished on each of the four pipelines -/
  nextPos : List Nat := [0, 0, 0, 0]
  valid : Bool := false
  unfinished : BitVec 5 := 0
  done : BitVec 18 := 0
  deriving DecidableEq, Repr

/-- The loop engine (03, LPE_ registers). -/
structure Lpe where
  xcOff : Bool := false
  spareCheck : Bool := true
  slack : BitVec 24 := 0
  slackLat : BitVec 4 := 0
  slackLow : BitVec 24 := 0x7FFFFF
  slackLowLat : BitVec 4 := 0
  lats : List Lat := List.replicate 16 {}
  missSum : BitVec 256 := 0
  fbMissSum : BitVec 256 := 0
  deriving DecidableEq, Repr

end Sys2Proof.Machine
end

