-- ==== Sys2Proof/Machine/PartsUnits.lean ====
section
/-! DEFINITION. The state of the Eddy cores, the scheduler, the governor, the local axis ports, the acquisition engine
and the twin logic (07 to 09, 11 to 13). -/
namespace Sys2Proof.Machine

/-- Core states (07 R222). -/
inductive CState where
  | idle
  | run
  | wait
  | parked
  | halted
  | faulted
  deriving DecidableEq, Repr

/-- A decoded Eddy instruction (08). -/
inductive EIns where
  | nop (mv : PMoves)
  | mpy (n i j : Fin 4) (mv : PMoves)
  | mac (n i j : Fin 4) (mv : PMoves)
  | msu (n i j : Fin 4) (mv : PMoves)
  | dmpy (pair : Bool) (sel : BitVec 3) (neg0 neg1 : Bool) (mv : PMoves)
  | dmac (pair : Bool) (sel : BitVec 3) (neg0 neg1 : Bool) (mv : PMoves)
  | add (n : Fin 4) (src : BitVec 4) (mv : PMoves)
  | sub (n : Fin 4) (src : BitVec 4) (mv : PMoves)
  | cmp (n : Fin 4) (src : BitVec 4) (mv : PMoves)
  | cpy (n : Fin 4) (src : BitVec 4) (mv : PMoves)
  | zero (n : Fin 4) (mv : PMoves)
  | neg (n : Fin 4) (mv : PMoves)
  | abs (n : Fin 4) (mv : PMoves)
  | round (n : Fin 4) (mv : PMoves)
  | lim (n : Fin 4) (mv : PMoves)
  | shl (n : Fin 4) (count : Fin 16) (mv : PMoves)
  | shr (n : Fin 4) (count : Fin 16) (mv : PMoves)
  | and (n : Fin 4) (k : Fin 8) (mv : PMoves)
  | or (n : Fin 4) (k : Fin 8) (mv : PMoves)
  | xor (n : Fin 4) (k : Fin 8) (mv : PMoves)
  | maxi (n : Fin 4) (k : Fin 8) (j byPtr : Bool) (mv : PMoves)
  | mini (n : Fin 4) (k : Fin 8) (j byPtr : Bool) (mv : PMoves)
  | ldp (a : PtrRef) (r : BitVec 6)
  | stp (a : PtrRef) (r : BitVec 6)
  | mov (rd rs : BitVec 6)
  | lda (spaceY : Bool) (r : BitVec 6) (addr : Half)
  | sta (spaceY : Bool) (r : BitVec 6) (addr : Half)
  | ldi (r : BitVec 6) (v : Q23)
  | addi (n : Fin 4) (v : Half)
  | cmpi (n : Fin 4) (v : Half)
  | ldis (r : BitVec 6) (v : Half)
  | ldif (r : BitVec 6) (v : Half)
  | padd (n : Fin 8) (v : Half)
  | pmod (n : Fin 8)
  | andi (k : Fin 8) (u : Half)
  | ori (k : Fin 8) (u : Half)
  | norm (n : Fin 4) (k : Fin 8)
  | loop (n : BitVec 10) (last : BitVec 14)
  | loopr (r : BitVec 6) (last : BitVec 14)
  | lexit
  | goto (addr : BitVec 14)
  | gotoc (cond : BitVec 4) (addr : BitVec 14)
  | link (addr : BitVec 14) (n : Fin 8)
  | ret (n : Fin 8)
  | done
  | waitcy (ev : BitVec 3)
  | post (r : BitVec 6) (pair : BitVec 2) (dly : Bool) (t : BitVec 3)
  | semAcquire (sem : Fin 64)
  | semTry (sem : Fin 64)
  | semRelease (sem : Fin 64)
  | vext (minimum : Bool) (n : Fin 4) (spaceY : Bool) (ptr : Fin 8) (byM : Bool) (count : BitVec 14)
  | illegal
  deriving DecidableEq, Repr

/-- A window of a core (07 R218, R219). -/
structure Win where
  base : BitVec 18 := 0
  fmt : BitVec 2 := 0
  /-- RAW: pair whose upper half was latched by a read, and the half -/
  latch : Option (Nat × Half) := none
  /-- RAW: pair whose lower half is staged by a write, and the half -/
  staged : Option (Nat × Half) := none
  deriving DecidableEq, Repr

/-- A submitted DMA descriptor (07 R221). -/
structure Desc where
  localAddr : Half
  memY : Bool
  shared : Q23
  count : BitVec 15
  toShared : Bool
  fmt : BitVec 2
  upper : Bool
  deriving DecidableEq, Repr

/-- The register file of a core (07 R206). -/
structure ERegs where
  d : List Q23 := List.replicate 8 0
  a : List Acc := List.replicate 4 0
  p : List Half := List.replicate 8 0
  b : List Half := List.replicate 8 0
  l : List (BitVec 15) := List.replicate 8 0
  m : List Half := List.replicate 8 0
  i0 : Half := 0
  i1 : Half := 0
  lc : Half := 0
  sr : Q23 := 0
  mr : Q23 := 0
  pc : BitVec 14 := 0
  /-- start address, end address and count of each active loop, innermost first (07 R206, 08 R245) -/
  stack : List (BitVec 14 × BitVec 14 × Half) := []
  deriving DecidableEq, Repr

/-- One Eddy core (07). -/
structure Core where
  regs : ERegs := {}
  x : Cells 24 := []
  y : Cells 24 := []
  prog : Cells 32 := []
  /-- program words that EDDY_LOAD has written since FIRST: the loaded image -/
  image : List (Nat × Nat) := []
  state : CState := .idle
  imageValid : Bool := false
  /-- data of the chunks since FIRST, while an image loads -/
  loading : Option (List Byte) := none
  waitKind : Nat := 0
  /-- the instruction stalled, and whether it may now go on -/
  stall : Option EIns := none
  /-- a stalled POST has been served; whether its task was queued -/
  posted : Option Bool := none
  haltReq : Bool := false
  /-- the state a resume returns to -/
  haltedFrom : CState := .idle
  flow : Option Nat := none
  coalesce : Half := 0
  taskCycle : DWord := 0
  waitCycle : DWord := 0
  timeHi : Q23 := 0
  started : Nat := 0
  haltNs : Nat := 0
  ending : Bool := false
  endCounts : Bool := false
  faultCode : BitVec 4 := 0
  faultFlow : BitVec 10 := 0
  faultPc : BitVec 14 := 0
  cntDone : Word := 0
  cntRt : Half := 0
  cntFault : Half := 0
  semAuto : Half := 0
  eccCorr : Half := 0
  /-- an uncorrectable memory error stopped the task -/
  uncorr : Bool := false
  steps : DWord := 0
  busy : DWord := 0
  idleSince : Nat := 0
  wins : List Win := List.replicate 4 {}
  dmaLocal : BitVec 17 := 0
  dmaShared : Q23 := 0
  dmaCount : BitVec 15 := 0
  descs : List Desc := []
  dmaDone : Half := 0
  hostPark : Bool := false
  govPark : Bool := false
  parkPending : Bool := false
  waking : Bool := false
  deriving DecidableEq, Repr

/-- The cores and their semaphores (07 R230). -/
structure Eddy where
  cores : List Core := List.replicate 32 {}
  /-- owner of each semaphore -/
  sems : List (Option Nat) := List.replicate 64 none
  /-- waiting acquires: semaphore, instant of the request and core, oldest first -/
  semWait : List (Nat × Nat × Nat) := []
  deriving DecidableEq, Repr

/-- A task waiting in a flow (09 R256-R258). -/
structure Task where
  arg : BitVec 48
  periodic : Bool := false
  coalesce : Half := 0
  deriving DecidableEq, Repr

/-- A flow (09 R253, R255). -/
structure Flow where
  exist : Bool := false
  prio : BitVec 3 := 0
  depth : BitVec 7 := 0
  entry : BitVec 14 := 0
  mask : Word := 0
  rtLimit : Nat := 0
  dlist : BitVec 2 := 0
  periodic : Bool := false
  event : BitVec 3 := 0
  perDiv : Nat := 1
  perPhase : Nat := 0
  perArg : BitVec 48 := 0
  queue : List Task := []
  delayed : Nat := 0
  service : Option Nat := none
  held : Bool := false
  coalesced : Half := 0
  holds : Half := 0
  deriving DecidableEq, Repr

/-- A delayed task (09 R259, R260): the boundary number it is due at, in ticks since the epoch. -/
structure Delayed where
  flow : Nat
  due : Nat
  arg : BitVec 48
  deriving DecidableEq, Repr

/-- A delay list (09 R259). -/
structure DList where
  tick : BitVec 14 := 10
  err : Bool := false
  items : List Delayed := []
  deriving DecidableEq, Repr

/-- A source held back for room (09 R257). -/
inductive Held where
  /-- a TASK_POST at the head of a CMD ring -/
  | ring (n : Nat) (p : Pkt)
  /-- a TASK_POST from elsewhere -/
  | other (p : Pkt)
  /-- a POST of a core: flow, argument and due ticks -/
  | core (n flow : Nat) (arg : BitVec 48) (dt : Option Nat)
  deriving DecidableEq, Repr

/-- The scheduler (09). -/
structure Sch where
  flows : List Flow := List.replicate 1024 {}
  dly : List DList := List.replicate 4 {}
  /-- ready lists 0 to 7, oldest first -/
  ready : List (List Nat) := List.replicate 8 []
  held : List Held := []
  stopped : Bool := false
  deriving DecidableEq, Repr

/-- The governor and its PMBus (09 R269-R279). -/
structure Pwr where
  vset : Nat := 750
  pMeas : Half := 0
  coreP : Half := 0
  tMax : Half := 0
  temps : List Half := List.replicate 16 0
  pCap : Half := 300
  tCeil : Half := 1050
  capNext : Option (Half × Half) := none
  idleKeep : BitVec 4 := 2
  period : BitVec 2 := 1
  tHyst : BitVec 4 := 4
  pHyst : BitVec 4 := 4
  slackHigh : BitVec 9 := 150
  slackLow : BitVec 9 := 50
  govNext : Option Word := none
  pmbCfg : Word := 0xA0140040
  pmbCoef : Word := 0x00000001
  pmbNext : Option Word := none
  coefNext : Option Word := none
  statusByte : Byte := 0
  fails : Half := 0
  failRun : Nat := 0
  iout : Half := 0
  ackVset : Nat := 750
  fixed : Bool := false
  conflict : Bool := false
  pmbFault : Bool := false
  firm : Bool := true
  soft : Bool := true
  /-- lowest minimum slack of the running period; none = unlimited -/
  lowSlack : Option Int := none
  lastLow : Int := 0
  raised : Bool := false
  lastRaise : Option Nat := none
  periodStart : Nat := 0
  /-- highest temperature of the running period, signed 0.1 °C -/
  hot : Option Int := none
  /-- setpoints sent by VOUT_COMMAND and not yet acknowledged, oldest first -/
  sent : List Nat := []
  /-- the regulator has acknowledged a setpoint since the reset -/
  bootAck : Bool := false
  /-- the transaction that runs as a second attempt -/
  retry : Option PmbKind := none
  deriving DecidableEq, Repr

/-- The quadrature and serial feedback of a local port (11 R308-R317). -/
structure Fbk where
  a : Bool := false
  b : Bool := false
  z : Bool := false
  raw : Word := 0
  filt : Word := 0
  dirNeg : Bool := false
  revpos : Nat := 0
  referenced : Bool := false
  idxDelta : Word := 0
  mismatch : Half := 0
  illegal : Half := 0
  stat : Byte := 0
  serP : Word := 0
  serQ : Option Nat := none
  serLast : Option Word := none
  serData : DWord := 0
  serDly : BitVec 9 := 0
  serOk : Bool := false
  serBusy : Bool := false
  /-- a frame has ended since the last sample -/
  serEnded : Bool := false
  /-- T_LEAD in ns, as last computed -/
  lead : Nat := 0
  deriving DecidableEq, Repr

/-- The PWM of a local port (11 R321-R330). -/
structure Pwm where
  period : Half := 0
  cmps : List (BitVec 22) := [0, 0, 0, 0]
  actPeriod : Half := 0
  actCmps : List (BitVec 22) := [0, 0, 0, 0]
  dirty : BitVec 4 := 0
  pairPending : Bool := false
  pairHold : Bool := false
  commit : Bool := false
  err : Bool := false
  written : BitVec 4 := 0
  drop : Half := 0
  stretch : Half := 0
  drive : Drive := .off
  driveNext : Option Drive := none
  demand : Option (List Half) := none
  /-- instant from which the demand and drive command given at D_X apply -/
  applyNs : Nat := 0
  /-- start of the present period -/
  startNs : Nat := 0
  /-- the pins are under the fault action -/
  forced : Bool := false
  latched : Bool := false
  first : BitVec 3 := 0
  causes : BitVec 5 := 0
  present : BitVec 5 := 0
  /-- effective on-times of the present period, after the short-pulse policy, in 62.5 ps units -/
  onTime : List Nat := [0, 0, 0, 0]
  deriving DecidableEq, Repr

/-- The encoder emulator (11 R331-R334). -/
structure Emu where
  /-- words of the emulator group in force -/
  cfg : List Word := [0, 0, 0, 0, 0]
  en : Bool := false
  /-- stopped with its source's steps (R337) -/
  halted : Bool := false
  xEn : Int := 0
  x : Int := 0
  o : Int := 0
  base : Int := 0
  high : Int := 0
  lost : Bool := false
  monoHold : Bool := false
  lag : Half := 0
  /-- path: X at its start, change over the cycle, start instant -/
  path : Option (Int × Int × Nat) := none
  /-- instant of the latest update -/
  lastT : Nat := 0
  deriving DecidableEq, Repr

/-- Step input (11 R335). Positions in microsteps. -/
structure StepIn where
  sn : Int := 0
  t : List Nat := []
  dirNeg : Bool := false
  same : Nat := 0
  stopped : Bool := false
  deriving DecidableEq, Repr

/-- The values latched at a sample instant (11 R305). -/
structure LSample where
  p : Word := 0
  iU : Half := 0
  iV : Half := 0
  vDc : Half := 0
  status : Half := 0
  missing : Bool := false
  /-- microstep position of a step input (11 R335) -/
  micro : Int := 0
  deriving DecidableEq, Repr

/-- A local axis port (11). -/
structure LPort where
  cfg : List Word := List.replicate 27 0
  pins : BitVec 14 := 0
  fbk : Fbk := {}
  sdFree : List Half := [0, 0, 0]
  sdLatched : List Half := [0, 0, 0]
  sdStuck : BitVec 3 := 0
  pwm : Pwm := {}
  emu : Emu := {}
  step : StepIn := {}
  sample : LSample := {}
  fbLossRun : Nat := 0
  deriving DecidableEq, Repr

/-- Acquisition states (12 R352). -/
inductive QState where
  | idle
  | filling
  | ready
  | recording
  | waitSlot
  | done
  deriving DecidableEq, Repr

/-- A trigger condition while armed (12 R349-R351). -/
structure Cond where
  primedUp : Bool := false
  primedDn : Bool := false
  prev : Option Int := none
  prevT : Nat := 0
  isTrue : Bool := false
  /-- the slope whose crossing made it true is the rising one -/
  up : Bool := true
  trueTill : Option Nat := none
  deriving DecidableEq, Repr

/-- A frame of the cycle lane (12 R344); a lost one belongs to a gap (R356). -/
structure QFrame where
  cycle : Nat
  inst : Nat
  vals : List Half
  absent : Bool := false
  lost : Bool := false
  deriving DecidableEq, Repr

/-- A sample of an SD lane (12 R345). -/
structure QSd where
  signal : Nat
  inst : Nat
  val : Half
  lost : Bool := false
  deriving DecidableEq, Repr

/-- An edge of the mark lane (12 R346). -/
structure QEdge where
  ns : Nat
  frac : Half
  input : Nat
  rising : Bool
  lost : Bool := false
  deriving DecidableEq, Repr

/-- A record, as its header needs it and with its lanes (12 R347, R357). -/
structure QRec where
  num : Nat
  slot : Nat
  tNs : Nat
  tFrac : Half
  cond : Nat
  flags : Byte := 0
  frames : List QFrame := []
  sds : List QSd := []
  edges : List QEdge := []
  edgesOver : Nat := 0
  dead : Nat := 0
  ignored : Nat := 0
  tag : Word := 0
  nPre : Nat := 0
  p : Nat := 0
  /-- the layout the settings gave it: LEN, cycle-lane signals, SD lanes with their periods, mark capacity, GAP_MAX -/
  len : Nat := 2
  nSig : Nat := 0
  sdLanes : List (Nat × Nat) := []
  markCap : Nat := 0
  gapMax : Nat := 0
  deriving DecidableEq, Repr

/-- A mark input's latest edge (12 ACQ_MARKn). -/
structure MarkIn where
  ns : DWord := 0
  frac : Half := 0
  rising : Bool := false
  count : Word := 0
  /-- instant of the edge before, stamped or not, in 2^-16 ns (R342) -/
  prev : Option Nat := none
  deriving DecidableEq, Repr

/-- The acquisition engine (12). -/
structure Acq where
  state : QState := .idle
  settings : Option (List Word) := none
  signals : Cells 32 := []
  trigger : List Word := List.replicate 26 0
  loop : Bool := false
  nRec : Nat := 0
  taken : Nat := 0
  recNo : Nat := 0
  armedAt : Nat := 0
  tA : Option Nat := none
  readyAt : Nat := 0
  /-- T of the record before, in 2^-16 ns -/
  lastT : Option Nat := none
  conds : List Cond := List.replicate 4 {}
  /-- captured samples still inside the pre-trigger span or the open record -/
  frames : List QFrame := []
  sds : List QSd := []
  edges : List QEdge := []
  cur : Option QRec := none
  slots : List QRec := []
  ignored : Half := 0
  busy : Half := 0
  ignoredRec : Nat := 0
  close : Half := 0
  excess : Half := 0
  dead : DWord := 0
  lost : Word := 0
  rate : Half := 0
  view0 : Word := 0xFFFFFFFF
  view1 : Word := 0xFFFFFFFF
  /-- the view buffers, by word (R358) -/
  sram : Cells 32 := []
  marks : List MarkIn := List.replicate 16 {}
  /-- ring copy: record number, byte offset done, area write position and the blocks not yet freed -/
  copyOff : Nat := 0
  areaPos : Nat := 0
  blocks : List (Nat × Nat) := []
  deriving DecidableEq, Repr

/-- Twin states (13 R367). -/
inductive TState where
  | single
  | joining
  | active
  | standby
  | alone
  | outOfStep
  | isolated
  deriving DecidableEq, Repr

/-- A forwarded command awaiting its target cycle (13 R373). -/
structure TFwd where
  seq : Nat
  cmd : Cmd
  target : Nat
  /-- on the active head: acknowledged; on the standby: always true -/
  acked : Option Bool := none
  mine : Bool := true
  /-- the effect is still to come at the target cycle -/
  held : Bool := false
  deriving DecidableEq, Repr

/-- The twin logic (13). -/
structure Twin where
  state : TState := .single
  sideB : Bool := false
  autoResync : Bool := true
  takeover : Nat := 2
  resyncMs : Nat := 500
  lane0 : Bool := false
  lane1 : Bool := false
  peer : Option PeerInfo := none
  peerState : Nat := 0
  ownClaim : Half := 0
  peerClaim : Half := 0
  promoted : Bool := false
  missing : Nat := 0
  missTotal : Word := 0
  missCnt : Half := 0
  mismatchRun : Nat := 0
  mismatchTotal : Word := 0
  mismatchCnt : Half := 0
  ownCrc : Word := 0
  ownCrcCycle : Nat := 0
  peerCrc : Word := 0
  health : Word := 0
  peerHealth : Word := 0
  lastMatch : Bool := false
  eccUnc : Bool := false
  marchFail : Bool := false
  spareFail : Bool := false
  eddyFail : Bool := false
  spareCnt : Byte := 0
  marchCnt : Byte := 0
  eddyCnt : Byte := 0
  spareTot : Word := 0
  marchTot : Word := 0
  eddyTot : Word := 0
  lastBoth : DWord := 0
  phase : Nat := 0
  marked : Half := 0
  entry : Option Nat := none
  yieldAt : Option Nat := none
  tags : List Half := List.replicate 64 0
  fwds : List TFwd := []
  nextSeq : Nat := 0
  acks : List (Nat × Bool) := []
  /-- claims of single cycles that differ from the state's own, as offsets from CLAIM_BASE (R379, R381) -/
  claims : List (Nat × Nat) := []
  /-- cycle, own CRC and partner CRC at the first of the mismatches (R387) -/
  misFirst : Nat × Word × Word := (0, 0, 0)
  /-- cycle and own CRC at the first missing record -/
  missFirst : Nat × Word := (0, 0)
  appliedOwn : Bool := false
  appliedPeer : Bool := false
  noValidRun : Nat := 0
  /-- joins of the partner in a row that ran out of time (14 R388) -/
  joinFails : Nat := 0
  noDispatch : Bool := false
  deriving DecidableEq, Repr

end Sys2Proof.Machine
end

