-- ==== Sys2Proof/Machine/State.lean ====
section
/-! DEFINITION. The state of the part, its two ways of stopping (neither of which a command of this model takes),
what it sends outward, and its state after reset. -/
namespace Sys2Proof.Machine

/-- What the part sends outward (model): host memory writes and interrupts (02), frames (05), PTP (06), Oxbow
traffic (13), PMBus transactions (09), pulses (10), DRAM and flash writes (12, 14). -/
inductive Out where
  /-- a completion entry at an index of a CPL ring, with its PHASE (R45, R46) -/
  | completion (ring index : Nat) (phase : Bool) (c : Cpl)
  /-- a result in a result buffer (R45) -/
  | result (addr : DWord) (words : List Word)
  /-- an event entry at an index of an EVT ring, with its PHASE (R46, R47) -/
  | event (ring index : Nat) (phase : Bool) (e : Evt)
  /-- an MSI-X vector (R62) -/
  | vector (n : Nat)
  /-- a command forwarded to a nested head (R54, R162) -/
  | forward (id node : Nat) (c : Cmd)
  /-- an F-frame leaves a port (R12) -/
  | fFrame (port : Nat) (cycle : Word) (gen : Half)
  /-- a C-frame leaves a port (R12, R135) -/
  | cFrame (port : Nat) (cycle : Word) (ck : Nat) (gen claim : Half) (idle : Bool) (slots : List CSlot)
  /-- an S-frame leaves a port (R159) -/
  | sFrame (port : Nat) (segs : List Seg)
  /-- a D-frame leaves a port (R139) -/
  | dFrame (port : Nat) (f : DFrame)
  /-- the head as a node: its F-slot in a frame that passes (R168) -/
  | upF (uplink : Nat) (cycle : Word) (slot : FSlot)
  /-- the head as a node: its answer in a D-frame (R174) -/
  | upD (uplink : Nat) (r : NodeRec) (stamp : Word)
  /-- the head as a node: its ACK word set in an ASSIGN (R143) -/
  | upAck (uplink : Nat)
  /-- the head as a node: segments filled or acknowledged (R160) -/
  | upS (uplink : Nat) (segs : List Seg)
  /-- a PTP message with the correction or stamp it carries, in 1/16 ns (R193) -/
  | ptp (uplink : Nat) (d : Dom) (kind : PtpKind) (v : Int)
  /-- a cycle record on the Oxbow link (R370) -/
  | oxbow (r : CycleRec)
  /-- a forwarded command on the Oxbow link (R373) -/
  | oxbowForward (seq : Nat) (cmd : Cmd) (target : Nat)
  /-- lockstep state copied to a joining partner, `blocks` blocks of 256 bytes (R379) -/
  | oxbowCopy (blocks : Nat)
  /-- a D-frame handed to the discovering partner (R385) -/
  | oxbowDFrame (port : Nat)
  /-- a reset request to the partner (R388) -/
  | twinReset
  /-- a PMBus transaction begins (R277) -/
  | pmbus (kind : PmbKind) (data : Half)
  /-- a compare pulse on a local port: instant in ns with its 16-bit fraction, width in ns (R295) -/
  | pulse (port : Nat) (ns : Nat) (frac : Nat) (width : Nat)
  /-- an entry of an ACQ ring (R359) -/
  | acqEntry (ring index : Nat) (words : List Word)
  /-- a block of acquisition data to host memory: record, byte offset in it, address (R359) -/
  | acqBlock (rec off : Nat) (addr : DWord)
  /-- a record written to its DRAM slot (R347, R357) -/
  | dramRecord (slot : Nat) (r : QRec)
  /-- a snapshot request to a node (R198) -/
  | snapRequest (node id : Nat) (t : Nat)
  /-- every Millrace and Oxbow link goes down (R377) -/
  | linksDown
  /-- a store record written to a slot of the store device (R404, R406) -/
  | storeRecord (slot : Nat) (r : StoreRec)
  /-- the boot loader or Headwater drives the boot flash: erase of a slot, words programmed, header written (R399) -/
  | flashErase (slot : Nat)
  | flashWrite (slot off : Nat) (words : List Word)
  | flashHeader (slot : Nat) (seq version : Word)
  deriving DecidableEq, Repr

/-- How the machine could stop with a fault. No meaning raises one: the manual gives this block no fault that stops it.
A fault is safe: it would only end a run. -/
inductive Fault where
  /-- Raised by nothing (safe). -/
  | halted
  deriving DecidableEq, Repr

/-- How the machine could refuse a command. -/
inductive Refusal where
  /-- Raised by an arm of Dispatch for a row of the table not modelled yet (safe: the run ends). -/
  | notModelled (mnemonic : String)
  deriving DecidableEq, Repr

/-- An accepted command that names a cycle or a time and waits for it (02 R59); `cycle` is that cycle, or for a time the first
cycle at or after it. -/
structure PendCmd where
  opcode : Half
  pkt : Pkt
  cycle : Nat
  deriving DecidableEq, Repr

/-- A command checked and waiting for D_X of the cycle `due` (02 R442, 13 R373). -/
structure DxCmd where
  opcode : Half
  pkt : Pkt
  due : Nat
  deriving DecidableEq, Repr

/-- The part. -/
structure State where
  /-- commands that wait, first in first out (model) -/
  pending : List Instr := []
  /-- what was sent outward, newest first (model) -/
  out : List Out := []
  /-- argument of the free values (model) -/
  freeCtr : Nat := 0
  /-- the value the last register read answered (model) -/
  lastRead : DWord := 0
  fuse : Fuse := {}
  rst : Rst := {}
  boot : Boot := {}
  host : HostIf := {}
  cmds : List PendCmd := []
  dxq : List DxCmd := []
  tmb : Tmb := {}
  net : Net := {}
  lpe : Lpe := {}
  axes : List Axis := []
  eddy : Eddy := {}
  sch : Sch := {}
  pwr : Pwr := {}
  ports : List LPort := List.replicate 16 {}
  acq : Acq := {}
  twn : Twin := {}
  spw : Spw := {}
  tap : Tap := {}
  deriving DecidableEq, Repr

/-- The default parameter set: THETA_LEAD, UMAX and the CRC-32 over the set (04 R106). -/
def defaultSet : Cells 32 := [(0x0F4, 0x18000000), (0x0F8, 0x00006EC0), (0x7FC, 0x6E607CCF)]

/-- An axis after a reset (04 R105, R106). -/
def Axis.initial : Axis := { setA := defaultSet, setB := defaultSet }

/-- The part right after a COLD reset is asserted, before its release sequence (14 R389, R391; log entry 2). -/
def State.reset : State := { axes := List.replicate 256 Axis.initial }

end Sys2Proof.Machine
end

