-- ==== Sys2Proof/Machine/Ops.lean ====
section
/-! DEFINITION. Named operations over memories, registers and lists; served time and cycle numbers; and the way
completions, events and vectors leave the part. -/
namespace Sys2Proof.Machine

/-! ## Words and bytes -/

/-- `n` bits of a word from bit `lo` up, as a number. -/
def field (w lo n : Nat) : Nat := (w >>> lo) % 2 ^ n

/-- The number whose little-endian bytes these are (02 R51). -/
def leNat : List Byte → Nat
  | [] => 0
  | b :: t => b.toNat + 256 * leNat t

/-- The `n` little-endian bytes of a number. -/
def leBytes : Nat → Nat → List Byte
  | 0, _ => []
  | n + 1, v => BitVec.ofNat 8 v :: leBytes n (v / 256)

/-- Little-endian words of a number, `n` of them. -/
def leWords : Nat → Nat → List Word
  | 0, _ => []
  | n + 1, v => BitVec.ofNat 32 v :: leWords n (v / 2 ^ 32)

/-- The bytes of some words, little-endian. -/
def wordsBytes (ws : List Word) : List Byte := ws.flatMap fun w => leBytes 4 w.toNat

/-- Two's complement reading of the low `n` bits. -/
def signed (n v : Nat) : Int :=
  let u := v % 2 ^ n
  if u < 2 ^ (n - 1) then (u : Int) else (u : Int) - (2 ^ n : Int)

/-- The `n` low bits of an integer, as a number. -/
def wrap (n : Nat) (v : Int) : Nat := (v % (2 ^ n : Int)).toNat

/-- A bit as a number. -/
def b2n (b : Bool) : Nat := if b then 1 else 0

/-- A count that saturates at the largest value of its width. -/
def satInc {w : Nat} (x : BitVec w) : BitVec w := if x.toNat + 1 < 2 ^ w then x + 1 else x

/-- A number held at the largest value of a width. -/
def satNat (w v : Nat) : Nat := if v < 2 ^ w then v else 2 ^ w - 1

/-- An integer held within bounds. -/
def clampI (lo hi v : Int) : Int := if v < lo then lo else if hi < v then hi else v

/-- Integer square root, largest r with r * r at most v, by bits from `2^k` down. -/
def isqrtFrom : Nat → Nat → Nat → Nat
  | 0, _, r => r
  | k + 1, v, r => let t := r + 2 ^ k; isqrtFrom k v (if t * t ≤ v then t else r)

def isqrt (v : Nat) : Nat := isqrtFrom 80 v 0

/-- Quotient of integers rounded to nearest, halves away from zero. -/
def roundDiv (a : Int) (d : Nat) : Int :=
  if a < 0 then -(((2 * a.natAbs + d) / (2 * d) : Nat) : Int) else (((2 * a.natAbs + d) / (2 * d) : Nat) : Int)

/-- Arithmetic shift right with rounding to nearest, halves up. -/
def roundShr (a : Int) (k : Nat) : Int := if k = 0 then a else (a + 2 ^ (k - 1)) / 2 ^ k

/-! ## Checks over bytes -/

/-- One byte of the reflected CRC-32 of IEEE 802.3. -/
def crcBits : Nat → Nat → Nat
  | 0, c => c
  | n + 1, c => crcBits n (if c % 2 = 1 then (c / 2) ^^^ 0xEDB88320 else c / 2)

/-- CRC-32 (IEEE 802.3 polynomial) over bytes. -/
def crc32 (bs : List Byte) : Word :=
  BitVec.ofNat 32 (bs.foldl (fun c b => crcBits 8 (c ^^^ b.toNat)) 0xFFFFFFFF ^^^ 0xFFFFFFFF)

/-- One bit of the CRC-16 of 15 R438. -/
def crc16Bits : Nat → Nat → Nat
  | 0, c => c
  | n + 1, c => crc16Bits n (if c ≥ 0x8000 then ((2 * c) % 0x10000) ^^^ 0x1021 else 2 * c)

/-- CRC-16 with polynomial 0x1021 and initial value 0xFFFF, unreflected (15 R438). -/
def crc16 (bs : List Byte) : Half := BitVec.ofNat 16 (bs.foldl (fun c b => crc16Bits 8 (c ^^^ (256 * b.toNat))) 0xFFFF)

/-! ## Sparse memories -/

/-- The unit at an address; 0 where none is listed. -/
def cellGet {w : Nat} : Cells w → Nat → BitVec w
  | [], _ => 0
  | (b, v) :: t, a => if a = b then v else if a < b then 0 else cellGet t a

/-- The memory with one unit written, still in canonical form. -/
def cellSet {w : Nat} : Cells w → Nat → BitVec w → Cells w
  | [], a, v => if v = 0 then [] else [(a, v)]
  | (b, x) :: t, a, v =>
    if a = b then (if v = 0 then t else (a, v) :: t)
    else if a < b then (if v = 0 then (b, x) :: t else (a, v) :: (b, x) :: t)
    else (b, x) :: cellSet t a v

/-- Units written one after another from an address, `step` apart. -/
def cellPuts {w : Nat} (c : Cells w) (a step : Nat) : List (BitVec w) → Cells w
  | [] => c
  | v :: t => cellPuts (cellSet c a v) (a + step) step t

/-- `n` units read from an address, `step` apart. -/
def cellGets {w : Nat} (c : Cells w) (a step : Nat) : Nat → List (BitVec w)
  | 0 => []
  | n + 1 => cellGet c a :: cellGets c (a + step) step n

/-- Canonical form: addresses strictly rising from `lo` and no unit equal to what an unlisted address reads as. -/
def cellsFrom {w : Nat} (lo : Nat) : Cells w → Bool
  | [] => true
  | (a, v) :: t => decide (lo ≤ a) && decide (v ≠ 0) && cellsFrom (a + 1) t

abbrev Memory.wf {w : Nat} (c : Cells w) : Prop := cellsFrom 0 c = true

/-! ## Lists of units -/

/-- The list with one element changed; unchanged past its end. -/
def updAt {α : Type} (l : List α) (i : Nat) (f : α → α) : List α :=
  match l, i with
  | [], _ => []
  | a :: t, 0 => f a :: t
  | a :: t, i + 1 => a :: updAt t i f

/-- Every element changed, with its index. -/
def mapIdxFrom {α β : Type} (i : Nat) (f : Nat → α → β) : List α → List β
  | [] => []
  | a :: t => f i a :: mapIdxFrom (i + 1) f t

def mapI {α β : Type} (f : Nat → α → β) (l : List α) : List β := mapIdxFrom 0 f l

/-- Indices at which a test holds. -/
def indicesOf {α : Type} (p : α → Bool) (l : List α) : List Nat :=
  ((mapI (fun i a => (i, a)) l).filter fun x => p x.2).map Prod.fst

/-- A state carried through a list of arguments, in order. -/
def runAll {α : Type} (f : α → State → State) (l : List α) (s : State) : State := l.foldl (fun s a => f a s) s

namespace State

/-! ## Ordering code (00 R1-R3) -/

def full (s : State) : Bool := s.fuse.code = 0x2561
def nAxes (s : State) : Nat := if s.full then 256 else 128
def nCores (s : State) : Nat := if s.full then 32 else 16
def nPorts (s : State) : Nat := if s.full then 48 else 24
def nNodes (s : State) : Nat := if s.full then 1024 else 512
def nLocal (s : State) : Nat := if s.full then 16 else 8
def nLats (s : State) : Nat := if s.full then 16 else 8

/-! ## Units -/

def axis (s : State) (i : Nat) : Axis := s.axes.getD i {}
def ring (s : State) (i : Nat) : Ring := s.host.rings.getD i {}
def mport (s : State) (i : Nat) : MPort := s.net.ports.getD i {}
def node (s : State) (i : Nat) : Node := s.net.nodes.getD i {}
def core (s : State) (i : Nat) : Core := s.eddy.cores.getD i {}
def flow (s : State) (i : Nat) : Flow := s.sch.flows.getD i {}
def lport (s : State) (i : Nat) : LPort := s.ports.getD i {}

def modAxis (s : State) (i : Nat) (f : Axis → Axis) : State := { s with axes := updAt s.axes i f }
def modRing (s : State) (i : Nat) (f : Ring → Ring) : State :=
  { s with host := { s.host with rings := updAt s.host.rings i f } }
def modMPort (s : State) (i : Nat) (f : MPort → MPort) : State :=
  { s with net := { s.net with ports := updAt s.net.ports i f } }
def modNode (s : State) (i : Nat) (f : Node → Node) : State :=
  { s with net := { s.net with nodes := updAt s.net.nodes i f } }
def modCore (s : State) (i : Nat) (f : Core → Core) : State :=
  { s with eddy := { s.eddy with cores := updAt s.eddy.cores i f } }
def modFlow (s : State) (i : Nat) (f : Flow → Flow) : State :=
  { s with sch := { s.sch with flows := updAt s.sch.flows i f } }
def modLPort (s : State) (i : Nat) (f : LPort → LPort) : State := { s with ports := updAt s.ports i f }



end State

/-- Whole nanoseconds of a time counter (06 R176). -/
def TCnt.toNs (c : TCnt) : Nat := c.sec.toNat * 1000000000 + c.ns.toNat

/-- A counter set to whole nanoseconds and a fraction of 2^-32 ns. -/
def TCnt.ofNs (ns : Nat) (frac : Word := 0) : TCnt :=
  { sec := BitVec.ofNat 48 (ns / 1000000000), ns := BitVec.ofNat 30 (ns % 1000000000), frac := frac }

namespace State

/-- Served time in nanoseconds. -/
def now (s : State) : Nat := s.tmb.served.toNs

/-- Low 32 bits of the served time (02 R47, R55). -/
def now32 (s : State) : Word := BitVec.ofNat 32 s.now

/-- The cycle number at an instant, under the period and epoch in force (01 R9). -/
def cycleAt (s : State) (ns : Nat) : Nat := (ns - s.tmb.epoch * 1000000000) / s.tmb.tc

/-- The present cycle number k. -/
def k (s : State) : Nat := s.cycleAt s.now

/-- C(k) in nanoseconds of served time (01 R9). -/
def cycleNs (s : State) (k : Nat) : Nat := s.tmb.epoch * 1000000000 + k * s.tmb.tc

/-- Instant of the present cycle, in ns after C(k). -/
def inCycle (s : State) : Nat := s.now - s.cycleNs s.k

end State

/-- The default instants of 01 R23, for a period: F_DEPART, D_U and D_X, and the Gen3 hop limit. -/
def defaultInstants (tc : Nat) : Nat × Nat × Nat × Nat :=
  if tc = 15625 then (500, 5500, 10300, 8)
  else if tc = 20000 then (500, 7500, 13600, 12)
  else if tc = 25000 then (500, 9500, 17500, 16)
  else if tc = 31250 then (500, 9500, 19000, 16)
  else if tc = 40000 then (500, 13500, 23000, 24)
  else if tc = 50000 then (500, 13500, 23000, 24)
  else (500, 17500, 27000, 32)

/-- The legal cycle periods of 01 R8. -/
def legalPeriods : List Nat := [15625, 20000, 25000, 31250, 40000, 50000, 62500, 100000, 125000, 200000, 250000]

namespace State

/-- D_U, D_X, GUARD and the offsets in force: of the active generation, else the defaults (01 R12, R23). -/
def dU (s : State) : Nat := match s.net.active with | some g => g.dU | none => (defaultInstants s.tmb.tc).2.1
def dX (s : State) : Nat := match s.net.active with | some g => g.dX | none => (defaultInstants s.tmb.tc).2.2.1
def fDepart (s : State) : Nat := match s.net.active with | some g => g.fDepart | none => 500
def guardNs (s : State) : Nat := match s.net.active with | some g => g.guardNs | none => 2000
def sampleOffset (s : State) : Nat := match s.net.active with | some g => g.sampleOffset | none => 0
def applyOffset (s : State) : Nat := match s.net.active with | some g => g.applyOffset | none => 0

/-- A 32-bit cycle number extended to the nearest 64-bit one; of two equally near, the earlier (01 R10; log entry 13). -/
def extend (s : State) (c : Word) : Nat :=
  let base := s.k / 2 ^ 32 * 2 ^ 32 + c.toNat
  if base > s.k then (if base - s.k ≥ 2 ^ 31 ∧ base ≥ 2 ^ 32 then base - 2 ^ 32 else base)
  else if s.k - base > 2 ^ 31 then base + 2 ^ 32 else base

/-- A free value: the present argument is used and the counter advanced (log entry 3). -/
def free (s : State) (w : Nat) : BitVec w × State := (Config.freeBits w s.freeCtr, { s with freeCtr := s.freeCtr + 1 })

/-- Something leaves the part. -/
def emit (s : State) (o : Out) : State := { s with out := o :: s.out }

/-! ## Interrupts (02 R62, R63, R443) -/

/-- A vector is sent: as an MSI-X message; held in the pending bit array while its table entry is masked; or, with MSI-X
disabled, recorded in the INTx pending bits (log entry 14). -/
def sendVector (s : State) (n : Nat) : State :=
  if s.host.msixEn then
    if !(cellGet s.host.msix (16 * n + 12)).getLsbD 0 then
      { s with host := { s.host with pba := s.host.pba ||| BitVec.ofNat 64 (2 ^ n) } }
    else s.emit (.vector n)
  else { s with host := { s.host with intx := s.host.intx ||| BitVec.ofNat 64 (2 ^ n) } }

/-- INTA is asserted (02 R63). -/
def inta (s : State) : Bool := s.host.linkUp && s.host.gt25 && !s.host.msixEn && s.host.intx != 0

/-- A cause of vectors 60 to 63 is recorded; its vector goes if the bit was clear and is unmasked (02 R443). -/
def raiseCause (s : State) (i : Nat) : State :=
  if s.host.cause.getLsbD i then s
  else
    let s' := { s with host := { s.host with cause := s.host.cause ||| BitVec.ofNat 4 (2 ^ i) } }
    if s.host.mask.getLsbD i then s' else s'.sendVector (60 + i)

end State

/-! ## Rings (02 R38-R48) -/

/-- Entries of a ring. -/
def Ring.size (r : Ring) : Nat := 2 ^ r.sizeLog2.toNat

/-- Fill level (R38). -/
def Ring.fill (r : Ring) : Nat := (r.tail.toNat + 2 * r.size - r.head.toNat) % (2 * r.size)

/-- RNG_STATUS.RUNNING. -/
def Ring.running (r : Ring) : Bool := r.enable && !r.stopped

/-- RNG_STATUS.FULL. -/
def Ring.isFull (r : Ring) : Bool := r.fill == r.size

/-- The index after one more entry. -/
def Ring.after (r : Ring) (i : Nat) : Nat := (i + 1) % (2 * r.size)

/-- A ring that can take another entry of the part. -/
def Ring.room (r : Ring) (type : BitVec 2) : Bool := r.running && r.type == type && !r.isFull

namespace State

/-- Entries become visible on a ring: its vector goes when COUNT of them are unsignalled (02 R41). -/
def signalRing (s : State) (n : Nat) : State :=
  let r := s.ring n
  if r.unsig + 1 ≥ max 1 r.imodCount.toNat then
    (s.modRing n fun r => { r with unsig := 0 }).sendVector r.vector.toNat
  else s.modRing n fun r => { r with unsig := r.unsig + 1 }

/-- The producer index of ring n advances by one entry, and the entry is signalled. -/
def advanceTail (s : State) (n : Nat) : State :=
  (s.modRing n fun r => { r with tail := BitVec.ofNat 13 (r.after r.tail.toNat) }).signalRing n

/-- An event entry is written to an EVT ring that has room (02 R46, R47). The last 512 entries posted are the store's fault log
(14 R406). -/
def writeEvent (s : State) (n : Nat) (e : Evt) : State :=
  let r := s.ring n
  let phase := decide (r.tail.toNat < r.size)
  let s := s.emit (.event n (r.tail.toNat % r.size) phase e)
  ({ s with spw := { s.spw with log := ((phase, e) :: s.spw.log).take 512 } }).advanceTail n

/-- An event discarded on a ring is counted, and EVT_OVERFLOW is owed (02 R48, R49). -/
def discardEvent (s : State) (n : Nat) (e : Evt) : State :=
  s.modRing n fun r => { r with
    evtLost := satInc r.evtLost
    owedCycle := if r.owedCount = 0 then e.cycle else r.owedCycle
    owedCount := satInc r.owedCount }

/-- The owed EVT_OVERFLOW of a ring is posted once the ring runs and has space (02 R48, R49). -/
def flushOwed (s : State) (n : Nat) : State :=
  let r := s.ring n
  if r.owedCount ≠ 0 ∧ r.room 2 = true then
    let e : Evt := { code := 0x0002, target := 0, cycle := BitVec.ofNat 32 s.k, time := s.now32
                     data := leBytes 2 r.owedCount.toNat ++ leBytes 2 0 ++ leBytes 4 r.owedCycle.toNat }
    (s.writeEvent n e).modRing n fun r => { r with owedCount := 0, owedCycle := 0 }
  else s

/-- The ring events go to, when GLB_EVT_ROUTE names an enabled EVT ring (02 R48). -/
def evtTarget (s : State) : Option Nat :=
  let n := s.host.evtRing.toNat
  if s.host.evtEn && (s.ring n).enable && (s.ring n).type == 2 then some n else none

/-- A BOOT_SCRIPT_DONE held for want of a ring is posted ahead of any later event (02 R65). -/
def flushHeld (s : State) : State :=
  match s.host.heldBootDone, s.evtTarget with
  | some e, some n =>
    if (s.ring n).running then
      let s := s.flushOwed n
      let s := { s with host := { s.host with heldBootDone := none } }
      if (s.ring n).room 2 then s.writeEvent n e else s.discardEvent n e
    else s
  | _, _ => s

/-- An event is posted, lost or dropped (02 R48). -/
def postEvt (s : State) (e : Evt) : State :=
  match s.evtTarget with
  | none => { s with host := { s.host with evtDropped := satInc s.host.evtDropped } }
  | some n =>
    let s := (s.flushHeld).flushOwed n
    if (s.ring n).room 2 then s.writeEvent n e else s.discardEvent n e

/-- An event of the part's own units, from its code, its source unit and its data at byte 20 on (02 R47). -/
def event (s : State) (code : Nat) (target : Nat) (data : List Byte) : State :=
  s.postEvt { code := code, target := BitVec.ofNat 16 target, cycle := BitVec.ofNat 32 s.k, time := s.now32, data := data }

/-- BOOT_SCRIPT_DONE is posted, or held until a ring can take it (02 R65). -/
def postBootDone (s : State) (data : List Byte) : State :=
  let e : Evt := { code := 0x0001, target := 0, cycle := BitVec.ofNat 32 s.k, time := s.now32, data := data }
  match s.evtTarget with
  | some n => if (s.ring n).running then s.postEvt e else { s with host := { s.host with heldBootDone := some e } }
  | none => { s with host := { s.host with heldBootDone := some e } }

/-- A ring stops under 02 R42. -/
def stopRing (s : State) (n : Nat) : State :=
  (s.modRing n fun r => { r with stopped := true, dmaErr := true }).raiseCause 0

/-- Every event names a unit by its target short form (02 R52). -/
def tAxis (i : Nat) : Nat := 0x1000 + i
def tPort (i : Nat) : Nat := 0x2000 + i
def tNode (i : Nat) : Nat := 0x3000 + i
def tLocal (i : Nat) : Nat := 0x6000 + i

end State

end Sys2Proof.Machine
end

