-- ==== Sys2Proof/Machine/Operands.lean ====
section
/-! DEFINITION. The operand forms of a command packet: header fields, parameter words, target short form and unit
path (02 R44, R51-R53). -/
namespace Sys2Proof.Machine

/-! ## Status codes (02 R56) -/

def stOk : Half := 0x0000
def stAccepted : Half := 0x0001
def stBadOpcode : Half := 0x0101
def stBadLength : Half := 0x0102
def stBadParam : Half := 0x0103
def stBadTarget : Half := 0x0104
def stBusy : Half := 0x0201
def stNotReady : Half := 0x0202
def stDenied : Half := 0x0301
def stTimeout : Half := 0x0401
def stAborted : Half := 0x0501
def stBudget : Half := 0x0601
def stCapacity : Half := 0x0701
def stLate : Half := 0x0801

/-- Detail of a fault in no single parameter word (02 R444). -/
def noWord : Half := 0xFFFF

end Sys2Proof.Machine

namespace Sys2Proof
open Sys2Proof.Machine

/-! ## Header (02 R51) -/

def Pkt.hasPath (p : Pkt) : Bool := p.flags.getLsbD 0
def Pkt.ind (p : Pkt) : Bool := p.flags.getLsbD 1
def Pkt.rbuf (p : Pkt) : Bool := p.flags.getLsbD 2
def Pkt.fence (p : Pkt) : Bool := p.flags.getLsbD 3
def Pkt.silent (p : Pkt) : Bool := p.flags.getLsbD 4

/-- Bytes of the command's own parameters, without any path word. -/
def Pkt.own (p : Pkt) : Nat := if p.hasPath then p.plen - 4 else p.plen

/-- Parameter word i, as a number; words are counted from the first byte after any path word. -/
def Pkt.w (p : Pkt) (i : Nat) : Nat := (p.words.getD i 0).toNat

/-- A 64-bit parameter whose low half is word i. -/
def Pkt.w64 (p : Pkt) (i : Nat) : Nat := p.w i + 2 ^ 32 * p.w (i + 1)

/-- A field of a parameter word. -/
def Pkt.fld (p : Pkt) (i lo n : Nat) : Nat := field (p.w i) lo n

/-- Unit kind and index of the target short form (02 R52). -/
def Pkt.kind (p : Pkt) : Nat := p.target.toNat / 4096
def Pkt.unit (p : Pkt) : Nat := p.target.toNat % 4096

/-- The four fields of the unit path (02 R53). -/
def Pkt.pathFields (p : Pkt) : List Nat :=
  let v := p.path.toNat
  [v / 2 ^ 36, field v 24 12, field v 12 12, field v 0 12]

end Sys2Proof

namespace Sys2Proof.Machine

/-- Where a packet is carried out (02 R53). -/
inductive Route where
  /-- at this head, with its target short form -/
  | here
  /-- at this head, with this node as target -/
  | atNode (n : Nat)
  /-- at the nested head that is this node, with the rest of the path -/
  | nested (n : Nat) (rest : BitVec 48)
  /-- through or to a node that is marked lost -/
  | lost
  | bad
  deriving DecidableEq, Repr

/-- Every field is 0x000 to 0x3FF or 0xFFF, and only 0xFFF follows a 0xFFF (02 R53). -/
def pathShape : List Nat → Bool
  | [] => true
  | f :: t => if f = 0xFFF then t.all (fun x => x == 0xFFF) else decide (f < 1024) && pathShape t

namespace State

/-- Number of units of each kind on this ordering code (02 R52, 00 R2). -/
def unitCount (s : State) (kind : Nat) : Nat :=
  match kind with
  | 0 => 1
  | 1 => s.nAxes
  | 2 => s.nPorts
  | 3 => s.nNodes
  | 4 => s.nCores
  | 5 => 1024
  | 6 => s.nLocal
  | 7 => s.nLats
  | 8 => 64
  | _ => 0

/-- Resolution of a unit path at this head (02 R53). Deeper fields are resolved by the heads that own them. -/
def route (s : State) (p : Pkt) : Route :=
  if !p.hasPath then .here
  else
    match p.pathFields with
    | f0 :: rest =>
      if !pathShape (f0 :: rest) then .bad
      else if f0 = 0xFFF then .here
      else
        let n := s.node f0
        if f0 ≥ s.nNodes || !n.used then .bad
        else if n.cls = 3 then
          if n.lost then .lost
          else .nested f0 (BitVec.ofNat 48 (p.path.toNat % 2 ^ 36 * 4096 + 0xFFF))
        else if rest.any (fun x => x != 0xFFF) then .bad
        else if p.target ≠ 0 then .bad
        else if n.lost then .lost
        else .atNode f0
    | [] => .bad

end State

end Sys2Proof.Machine
end

