-- ==== Sys2Proof/Machine/Packets.lean ====
section
/-! DEFINITION. Carrying out a command packet: the checks of 02 R441 in their order, forwarding to a nested head and
to a twin partner, replies and commitment (02 R44-R60, 13 R372, R373). -/
namespace Sys2Proof.Machine

/-- What a command's own checks and effect come to. -/
inductive Verdict where
  /-- refused, with status and detail; no effect -/
  | fail (status detail : Half)
  /-- carried out: the result and the new state -/
  | done (result : List Word) (s : State)
  /-- answered with ACCEPTED; the final completion comes later -/
  | accept (s : State)
  /-- no reply yet; the completion comes when the effect is committed -/
  | later (s : State)
  /-- refused, with a change of state that the manual gives the refusal -/
  | refuse (status detail : Half) (s : State)

/-- How a command is carried out: with the LATE test of R59 or, for one a twin partner checked, without it; and with the D_X
at which it is committed, when the twin rules fix it (13 R373). -/
structure Ctx where
  late : Bool := true
  due : Option Nat := none

/-- A row of the opcode table (02 R60): opcode, target kind, length rule, result length in bytes, the cycle it names, and
its checks from step 5 on with its effect. -/
structure Op where
  opcode : Half
  kind : Nat := 0
  /-- detail of BAD_LENGTH when the parameter length is wrong -/
  len : Pkt → Option Half
  res : Pkt → State → Nat := fun _ _ => 0
  cycle : Pkt → State → Option Nat := fun _ _ => none
  body : Ctx → Pkt → State → Verdict

/-- A parameter length that must be `n` bytes (02 R60). -/
def lenIs (n : Nat) (p : Pkt) : Option Half := if p.own = n then none else some noWord

/-- A parameter length of `base` bytes and as many data bytes as word `i` says (02 R444). -/
def lenVar (base i : Nat) (p : Pkt) : Option Half :=
  if p.own < base then some noWord else if p.own = base + p.w i then none else some (BitVec.ofNat 16 i)

/-- Opcodes that a twin pair forwards (13 R372). -/
def twinForwarded (op : Half) : Bool :=
  let o := op.toNat
  (decide (0x100 ≤ o) && decide (o ≤ 0x105)) || (decide (0x200 ≤ o) && decide (o ≤ 0x204)) || o == 0x302
    || (decide (0x400 ≤ o) && decide (o ≤ 0x405)) || (decide (0x600 ≤ o) && decide (o ≤ 0x603)) || o == 0x800

/-- Opcodes the boot loader serves when no image runs (14 R398). -/
def romServes (op : Half) : Bool := [0x0001, 0x0002, 0x0003, 0x0010, 0x0020, 0x0021, 0x0022].contains op.toNat

namespace State

/-- Headwater serves this opcode now: where only the boot loader runs, it knows seven opcodes (14 R391, R398). -/
def serves (s : State) (op : Half) : Bool := !s.boot.romOnly || romServes op

/-! ## Replies (02 R45, R55, R58) -/

/-- The status reply's four words (02 R55), with its result. -/
def replyWords (s : State) (p : Pkt) (status detail : Half) (res : List Word) : List Word :=
  [BitVec.ofNat 32 (p.tag.toNat + 65536 * status.toNat), BitVec.ofNat 32 (4 * res.length), s.now32, BitVec.ofNat 32 detail.toNat] ++ res

/-- A completion entry is written to a CPL ring with room. -/
def writeCpl (s : State) (n : Nat) (c : Cpl) : State :=
  let r := s.ring n
  (s.emit (.completion n (r.tail.toNat % r.size) (decide (r.tail.toNat < r.size)) c)).advanceTail n

/-- A completion is posted; it waits while its CPL ring is full, and is discarded when that ring does not run (02 R43, R48). -/
def postCpl (s : State) (n : Nat) (c : Cpl) : State :=
  let r := s.ring n
  if !(r.running && r.type == 1) then s
  else if r.isFull || s.host.cplWait.any (fun x => x.1 == n) then
    { s with host := { s.host with cplWait := s.host.cplWait ++ [(n, c)] } }
  else s.writeCpl n c

/-- Completions that waited for room on a CPL ring are posted, oldest first (02 R48). -/
def flushCpl (s : State) (n : Nat) : Nat → State
  | 0 => s
  | fuel + 1 =>
    match s.host.cplWait.find? (fun x => x.1 == n) with
    | none => s
    | some x =>
      if (s.ring n).room 1 then
        let s := { s with host := { s.host with cplWait := s.host.cplWait.erase x } }
        (s.writeCpl n x.2).flushCpl n fuel
      else s

/-- Bytes of BOOT_SCRIPT_DONE (02 R49). -/
def bootDoneData (s : State) : List Byte :=
  leBytes 2 s.boot.scriptState ++ leBytes 2 s.boot.scriptFailStatus.toNat ++ leBytes 2 s.boot.scriptFail.toNat
    ++ leBytes 2 0 ++ leBytes 4 s.boot.scriptRun

/-- The boot script ends in a state, and BOOT_SCRIPT_DONE is posted or held (02 R65). -/
def endScript (s : State) (state : Nat) : State :=
  let s := { s with boot := { s.boot with scriptState := state, scriptIdx := none, scriptWait := false, scriptDone := true } }
  s.postBootDone s.bootDoneData

/-- A final completion of the script's packet: the next follows, or the script ends (02 R65; log entry 15). -/
def scriptReply (s : State) (status : Half) : State :=
  if status = stAccepted then s
  else
    match s.boot.scriptIdx with
    | none => s
    | some i =>
      let s := { s with boot := { s.boot with scriptRun := s.boot.scriptRun + 1, scriptWait := false } }
      if status ≠ stOk then
        ({ s with boot := { s.boot with scriptFail := BitVec.ofNat 16 i, scriptFailStatus := status } }).endScript 3
      else if i + 1 ≥ s.boot.script.packets.length then s.endScript 2
      else { s with boot := { s.boot with scriptIdx := some (i + 1) } }

/-- A reply goes back the way its packet came (02 R45, R46, R51; 05 R162; 13 R373). -/
def reply (s : State) (p : Pkt) (status detail : Half) (res : List Word) : State :=
  match p.src with
  | .ring n =>
    if p.silent && (status == stOk || status == stAccepted) then s
    else
      let c := (s.ring n).cplRing.toNat
      let r := s.ring c
      if !(r.running && r.type == 1) then s
      else
        let useBuf := p.rbuf && status == stOk && !res.isEmpty
        let s := if useBuf then s.emit (.result p.rbufAddr res) else s
        s.postCpl c { cmdRing := n, tag := p.tag, status := status, detail := detail, len := 4 * res.length
                      time := s.now32, result := if useBuf then [] else res, inline := !useBuf }
  | .script => s.scriptReply status
  | .upstream =>
    { s with net := { s.net with conf := { s.net.conf with upq := s.net.conf.upq ++ [(0x0004, s.replyWords p status detail res)] } } }
  | .twin _ => s

/-- The commit log takes the tag of a command whose effect is committed (14 R401, 13 R386). -/
def commitTag (s : State) (p : Pkt) : State :=
  match p.src with
  | .ring n => { s with spw := { s.spw with tags := updAt s.spw.tags n fun _ => p.tag } }
  | .twin (some n) => { s with twn := { s.twn with tags := updAt s.twn.tags n fun _ => p.tag } }
  | _ => s

/-- A command's effect is committed and its final OK posted (02 R58). -/
def finish (s : State) (p : Pkt) (res : List Word) : State := (s.commitTag p).reply p stOk 0 res

/-- What a verdict does. -/
def settle (s : State) (p : Pkt) : Verdict → State
  | .fail st d => s.reply p st d []
  | .done res s' => s'.finish p res
  | .accept s' => s'.reply p stAccepted 0 []
  | .later s' => s'
  | .refuse st d s' => s'.reply p st d []

/-! ## Checks of the header, entry and lengths (02 R441, steps 1 to 3) -/

/-- Steps 1 and 2, and the part of step 3 that concerns the header and the entry. -/
def headerCheck (p : Pkt) : Option (Half × Half) :=
  let ringed := match p.src with | .ring _ => true | _ => false
  let scripted := match p.src with | .script => true | _ => false
  if p.version ≠ 1 then some (stBadOpcode, 0)
  else if p.flags.toNat ≥ 0x20 then some (stBadParam, noWord)
  else if scripted && p.rbuf then some (stBadParam, noWord)
  else if ringed && p.rbuf && !p.ind then some (stBadParam, noWord)
  else if ringed && p.ind && p.paramAddr.toNat % 8 != 0 then some (stBadParam, noWord)
  else if ringed && p.rbuf && p.rbufAddr.toNat % 8 != 0 then some (stBadParam, noWord)
  else if p.plen % 4 ≠ 0 ∨ p.plen > 4080 then some (stBadLength, noWord)
  else if p.hasPath && p.plen < 4 then some (stBadLength, noWord)
  else if ringed && !p.ind && p.plen > 48 then some (stBadLength, noWord)
  else none

/-- The rest of step 3: the opcode's own length and the room for its result. -/
def lengthCheck (op : Op) (p : Pkt) (s : State) : Option (Half × Half) :=
  match op.len p with
  | some d => some (stBadLength, d)
  | none =>
    match p.src with
    | .ring _ =>
      if p.rbuf then (if op.res p s > p.rbufLen then some (stBadLength, noWord) else none)
      else if op.res p s > 48 then some (stBadLength, noWord) else none
    | .upstream => if op.res p s > 4080 then some (stBadLength, noWord) else none
    | _ => none

/-! ## Forwarding -/

/-- A command for a nested head leaves for it, and its reply is awaited for 50 ms (02 R54, 05 R162). -/
def forwardTo (s : State) (opcode : Half) (p : Pkt) (n : Nat) (rest : BitVec 48) : State :=
  let id := s.host.nextFwd
  let s := { s with host := { s.host with nextFwd := id + 1, fwd := s.host.fwd ++ [({ id := id, node := n, pkt := p } : Fwd)] } }
  s.emit (.forward id n { opcode := opcode, pkt := { p with path := rest } })

/-- The active head of a pair sends a forwarded command with its target cycle (13 R373). -/
def enqueueTwin (s : State) (opcode : Half) (p : Pkt) (t : Nat) (held : Bool) : State :=
  let seq := s.twn.nextSeq
  let e : TFwd := { seq := seq, cmd := { opcode := opcode, pkt := p }, target := t, held := held }
  let s := { s with twn := { s.twn with nextSeq := seq + 1, fwds := s.twn.fwds ++ [e] } }
  let ringOf := match p.src with | .ring n => some n | _ => none
  s.emit (.oxbowForward seq { opcode := opcode, pkt := { p with src := .twin ringOf } } t)

/-- The command's own checks and effect, under the rules of a twin pair (13 R372, R373; log entry 16). -/
def dispatch (op : Op) (p : Pkt) (s : State) : State :=
  let foreign := match p.src with | .twin _ => true | _ => false
  if !twinForwarded op.opcode || foreign then s.settle p (op.body {} p s)
  else
    match s.twn.state with
    | .single | .alone => s.settle p (op.body {} p s)
    | .active =>
      let t := (op.cycle p s).getD (s.k + 2)
      match op.body { due := some t } p s with
      | .fail st d => s.reply p st d []
      | .done _ _ => s.enqueueTwin op.opcode p t true
      | .accept s' => (s'.reply p stAccepted 0 []).enqueueTwin op.opcode p t false
      | .later s' => s'.enqueueTwin op.opcode p t false
      | .refuse st d s' => s'.reply p st d []
    | _ => s.reply p stDenied 0 []

/-- A packet is checked and carried out (02 R441). -/
def carry (op : Op) (p : Pkt) (s : State) : State :=
  if !s.host.ready then s
  else if !s.serves op.opcode then s.reply p stBadOpcode 0 []
  else
    match headerCheck p with
    | some (st, d) => s.reply p st d []
    | none =>
      match s.route p with
      | .nested n rest => s.forwardTo op.opcode p n rest
      | r =>
        match lengthCheck op p s with
        | some (st, d) => s.reply p st d []
        | none =>
          match r with
          | .here =>
            if p.kind = op.kind ∧ p.unit < s.unitCount op.kind then dispatch op p s
            else s.reply p stBadTarget 0 []
          | .atNode n =>
            if op.kind = 3 then dispatch op { p with target := BitVec.ofNat 16 (0x3000 + n) } s
            else s.reply p stBadTarget 0 []
          | .lost => s.reply p stNotReady 0 []
          | _ => s.reply p stBadTarget 0 []

/-! ## Commands that name a cycle, and commands committed at D_X (02 R59, R442) -/

/-- The D_X at which a command checked now is committed (02 R442, 13 R373). -/
def dxDue (s : State) (c : Ctx) : Nat :=
  match c.due with
  | some t => t
  | none => if s.inCycle ≤ s.dX then s.k else s.k + 1

/-- A cycle is too near (02 R59). -/
def lateCycle (s : State) (c : Ctx) (cycle : Nat) : Bool := c.late && decide (cycle < s.k + 2)

/-- The 256 pending commands that name a cycle or a time are all taken (02 R59). -/
def cmdsFull (s : State) : Bool := decide (s.cmds.length ≥ 256)

/-- A command waits for D_X of its cycle. -/
def enqueueDx (s : State) (opcode : Half) (p : Pkt) (due : Nat) : State :=
  { s with dxq := s.dxq ++ [{ opcode := opcode, pkt := p, due := due }] }

/-- An accepted command waits for the cycle it names. -/
def enqueueCmd (s : State) (opcode : Half) (p : Pkt) (cycle : Nat) : State :=
  { s with cmds := s.cmds ++ [{ opcode := opcode, pkt := p, cycle := cycle }] }

end State

/-- A refusal in a parameter word (02 R444). -/
def badParam (i : Nat) : Verdict := .fail stBadParam (BitVec.ofNat 16 i)

/-- A refusal in no single word. -/
def badParamAll : Verdict := .fail stBadParam noWord

end Sys2Proof.Machine
end

