-- ==== Sys2Proof/Machine/Flags.lean ====
section
/-! DEFINITION. The flag words: the axis flags of AXR_FLAGS_NOW (04 R120), the causes of IRQ_CAUSE (02 R443), and the
stores of an accumulator that set SAT (03 R78). -/
namespace Sys2Proof.Machine

/-! ## Axis flags (04 R120) -/

def flagNodeLost : BitVec 20 := 0x00001
def flagFeedbackMiss : BitVec 20 := 0x00002
def flagDeadlineMiss : BitVec 20 := 0x00004
def flagContenderMiss : BitVec 20 := 0x00008
def flagSat : BitVec 20 := 0x00010
def flagTorqueLimited : BitVec 20 := 0x00020
def flagSpeedLimited : BitVec 20 := 0x00040
def flagVoltageLimited : BitVec 20 := 0x00080
def flagDclinkLow : BitVec 20 := 0x00100
def flagFeOver : BitVec 20 := 0x00200
def flagMbxStale : BitVec 20 := 0x00400
def flagMbxReject : BitVec 20 := 0x00800
def flagStopTimeout : BitVec 20 := 0x01000
def flagOvershoot : BitVec 20 := 0x02000
def flagBehind : BitVec 20 := 0x04000
def flagCmdMiss : BitVec 20 := 0x08000
def flagClaimTie : BitVec 20 := 0x10000
def flagIndexMismatch : BitVec 20 := 0x20000
def flagIllegal : BitVec 20 := 0x40000
def flagComputed : BitVec 20 := 0x80000

/-- A flag where a condition holds. -/
def flagIf (c : Bool) (f : BitVec 20) : BitVec 20 := if c then f else 0

/-! ## Accumulators and stores (03 R78-R80) -/

/-- A Q1.15 value and whether its store saturated. -/
structure Q15 where
  v : Int
  sat : Bool := false
  deriving DecidableEq, Repr

/-- A value held within Q1.15. -/
def sat16 (x : Int) : Q15 :=
  let c := clampI (-32768) 32767 x
  { v := c, sat := c != x }

/-- An accumulator held within Q9.31 (R78). -/
def satAcc (x : Int) : Int := clampI (-(2 ^ 39)) (2 ^ 39 - 1) x

/-- An integrator held within Q1.31 (R79). -/
def sat31 (x : Int) : Int := clampI (-(2 ^ 31)) (2 ^ 31 - 1) x

/-- A product of `f` fraction bits rounded to 31 of them, ties toward plus infinity (R78). -/
def rnd31 (x : Int) (f : Nat) : Int := (x + 2 ^ (f - 32)) / 2 ^ (f - 31)

/-- The store of an accumulator to Q1.15 (R78). -/
def store16 (acc : Int) : Q15 := sat16 ((satAcc acc + 2 ^ 15) / 2 ^ 16)

/-- A G16 gain times a Q1.15 signal, in Q9.31 (R80). -/
def mulG16 (w : Nat) (x : Int) : Int := signed 16 w * x * 2 ^ (1 + field w 16 3)

/-- An I32 gain times a Q1.15 signal, in Q9.31 (R78, R80). -/
def mulI32 (w : Nat) (x : Int) : Int := rnd31 (signed 32 w * x) 46

/-- A product of two Q1.15 values, in Q9.31. -/
def mulQ15 (a b : Int) : Int := 2 * a * b

/-- A signal as it stands in a record. -/
def half (x : Int) : Half := BitVec.ofInt 16 x

/-- A 16-bit field read as a signed signal. -/
def ofHalf (x : Half) : Int := signed 16 x.toNat

/-- An integrator as it stands in a record. -/
def word31 (x : Int) : Word := BitVec.ofInt 32 x

end Sys2Proof.Machine
end

