-- ==== Sys2Proof/Machine/HostIf.lean ====
section
/-! DEFINITION. The host interface: rings, doorbells, interrupts, the PCI Express link, forwarded commands and the
common commands NOP, GET_IDENTITY and GET_STATUS (02). -/
namespace Sys2Proof.Machine

/-- The outcome of a step of this machine. -/
abbrev Result := Host.Outcome State Fault Refusal

namespace State

/-! ## Doorbells (R39) -/

/-- A doorbell is rejected (R39). -/
def rejectDoorbell (s : State) (n : Nat) : State := (s.modRing n fun r => { r with idxErr := true }).raiseCause 0

/-- A write of RNG_TAIL: a doorbell on an enabled CMD ring, and otherwise ignored (R39, R40). -/
def writeTail (s : State) (n : Nat) (v : Word) : State :=
  let r := s.ring n
  let t := v.toNat % 8192
  if !(r.enable && r.type == 0) then s
  else if t ≥ 2 * r.size ∨ (t + 2 * r.size - r.head.toNat) % (2 * r.size) > r.size then s.rejectDoorbell n
  else s.modRing n fun r => { r with tail := BitVec.ofNat 13 t }

/-- A write of RNG_HEAD: a doorbell on an enabled CPL, EVT or ACQ ring, and otherwise ignored (R39, R40). It frees entries, so
waiting completions and an owed EVT_OVERFLOW are posted (R48). -/
def writeHead (s : State) (n : Nat) (v : Word) : State :=
  let r := s.ring n
  let h := v.toNat % 8192
  if !(r.enable && r.type != 0) then s
  else if h ≥ 2 * r.size ∨ (h + 2 * r.size - r.head.toNat) % (2 * r.size) > r.fill then s.rejectDoorbell n
  else
    let s := s.modRing n fun r => { r with head := BitVec.ofNat 13 h }
    if r.type = 1 then s.flushCpl n s.host.cplWait.length
    else if r.type = 2 then (s.flushHeld).flushOwed n
    else s

/-! ## Ring configuration (R40) -/

/-- The fields of a write to RNG_CTRL, but for ENABLE. -/
def Ctrl.fields (r : Ring) (v : Word) : Ring :=
  { r with
    prio := v.getLsbD 30
    cplRing := v.extractLsb' 18 6
    vector := v.extractLsb' 12 6
    sizeLog2 := v.extractLsb' 4 4
    type := v.extractLsb' 0 2 }

/-- The enable of R40 is refused. -/
def enableRefused (s : State) (v : Word) : Bool :=
  let size := field v.toNat 4 4
  let cpl := s.ring (field v.toNat 18 6)
  decide (size < 4) || decide (size > 12) || decide (field v.toNat 12 6 > 59)
    || (field v.toNat 0 2 == 0 && !(cpl.enable && cpl.type == 1))

/-- Things held for a ring that stops being enabled are dropped: completions that waited on it, a TASK_POST held at its head. -/
def dropHeldFor (s : State) (n : Nat) : State :=
  { s with
    host := { s.host with cplWait := s.host.cplWait.filter fun x => x.1 != n }
    sch := { s.sch with held := s.sch.held.filter fun h => match h with | .ring m _ => m != n | _ => true } }

/-- A write of RNG_CTRL (R40). -/
def writeRingCtrl (s : State) (n : Nat) (v : Word) : State :=
  let r := s.ring n
  if r.enable then
    if v.getLsbD 31 then s
    else
      (s.modRing n fun r => { Ctrl.fields r v with
        enable := false, stopped := false, tail := 0, head := 0, unsig := 0, heldPost := false }).dropHeldFor n
  else if !v.getLsbD 31 then s.modRing n fun r => Ctrl.fields r v
  else if s.enableRefused v then
    (s.modRing n fun r => { Ctrl.fields r v with cfgErr := true }).raiseCause 0
  else
    let s := s.modRing n fun r => { Ctrl.fields r v with
      enable := true, stopped := false, tail := 0, head := 0, unsig := 0 }
    if field v.toNat 0 2 = 2 then (s.flushHeld).flushOwed n else s

/-! ## Interrupts (R41, R63, R443) -/

/-- TIME has passed since the first unsignalled entry of a ring (R41). -/
def moderationTimeout (s : State) (n : Nat) : State :=
  let r := s.ring n
  if r.enable && r.unsig > 0 && r.imodTime != 0 then
    (s.modRing n fun r => { r with unsig := 0 }).sendVector r.vector.toNat
  else s

/-- A write of 1 re-arms causes (R443). -/
def clearCauses (s : State) (v : Word) : State :=
  { s with host := { s.host with cause := s.host.cause &&& ~~~(v.extractLsb' 0 4) } }

/-- The vector of a cause goes when its mask bit is cleared while the cause is set (R443). -/
def unmaskCause (old : BitVec 4) (i : Nat) (s : State) : State :=
  if old.getLsbD i && !s.host.mask.getLsbD i && s.host.cause.getLsbD i then s.sendVector (60 + i) else s

/-- A write of IRQ_MASK (R443). -/
def writeMask (s : State) (v : Word) : State :=
  let old := s.host.mask
  runAll (unmaskCause old) [0, 1, 2, 3] { s with host := { s.host with mask := v.extractLsb' 0 4 } }

/-- A write of IRQ_INTX_PEND0 or, with `high`, IRQ_INTX_PEND1 (R63). -/
def clearIntx (s : State) (high : Bool) (v : Word) : State :=
  let m : DWord := BitVec.ofNat 64 (v.toNat * (if high then 2 ^ 32 else 1))
  { s with host := { s.host with intx := s.host.intx &&& ~~~m } }

/-! ## Host interface reset (R35) -/

/-- The host interface is reset as a block: every RNG_ and IRQ_ register returns to its reset value, and nothing not yet taken
is carried out. -/
def resetHostIf (s : State) : State :=
  { s with
    host := { s.host with
      rings := List.replicate 64 {}, msix := [], pba := 0, cause := 0, mask := 0xF, intx := 0
      rrHigh := 0, rrLow := 0, cplWait := [] }
    sch := { s.sch with held := s.sch.held.filter fun h => match h with | .ring _ _ => false | _ => true } }

/-! ## Forwarded commands (R54) -/

/-- A reply to a forwarded command arrives and is posted; ACCEPTED keeps it awaited (R54, R58; log entry 17). -/
def forwardReply (s : State) (id : Nat) (status detail : Half) (result : List Word) : State :=
  match s.host.fwd.find? (fun f => f.id == id) with
  | none => s
  | some f =>
    if status = stAccepted then s.reply f.pkt stAccepted 0 []
    else
      let s := { s with host := { s.host with fwd := s.host.fwd.filter fun g => g.id != id } }
      let bytes := 4 * result.length
      let fits := match f.pkt.src with
        | .ring _ => if f.pkt.rbuf then decide (bytes ≤ f.pkt.rbufLen) else decide (bytes ≤ 48)
        | _ => true
      if status ≠ stOk then s.reply f.pkt status detail []
      else if fits then s.finish f.pkt result
      else s.reply f.pkt stBadLength noWord []

/-- No reply came within 50 ms (R54). -/
def forwardLate (s : State) (id : Nat) : State :=
  match s.host.fwd.find? (fun f => f.id == id) with
  | none => s
  | some f =>
    ({ s with host := { s.host with fwd := s.host.fwd.filter fun g => g.id != id } }).reply f.pkt stTimeout 0 []

/-! ## Event routing and the boot script (R48, R65) -/

/-- A write of GLB_EVT_ROUTE. -/
def writeRoute (s : State) (v : Word) : State :=
  ({ s with host := { s.host with evtEn := v.getLsbD 8, evtRing := v.extractLsb' 0 6 } }).flushHeld

/-- Headwater reads the script header once the host interface is ready (R65). -/
def startScript (s : State) : State :=
  if !s.host.ready || s.boot.romOnly || s.boot.scriptDone || s.boot.scriptIdx.isSome then s
  else if !s.boot.script.valid then s.endScript 0
  else if s.boot.script.hostSkip && s.host.linkUp then s.endScript 1
  else if s.boot.script.packets.isEmpty then s.endScript 2
  else { s with boot := { s.boot with scriptIdx := some 0, scriptWait := false } }

/-! ## Common commands (R60) -/

/-- RST_CAUSE (14). -/
def rstCause (s : State) : Nat := s.rst.reach.toNat * 2 ^ 30 + s.rst.last.toNat * 2 ^ 16 + s.rst.seen.toNat

/-- GLB_ID3 (15 R437, R438). -/
def glbId3 (s : State) : Nat := b2n s.fuse.crcFail * 2 ^ 31 + s.fuse.crc16.toNat

/-- Pairs of 16-bit values packed in words. -/
def packHalves : List Half → List Word
  | a :: b :: t => BitVec.ofNat 32 (a.toNat + 65536 * b.toNat) :: packHalves t
  | [a] => [BitVec.ofNat 32 a.toNat]
  | [] => []

/-- Axes in FAULT. -/
def faultCount (s : State) : Nat := (s.axes.filter fun a => a.state == .fault).length

/-- The result of GET_STATUS (R60). -/
def statusWords (s : State) : List Word :=
  leWords 2 s.k ++ [BitVec.ofNat 32 s.rstCause,
    BitVec.ofNat 32 (s.boot.scriptState + 65536 * s.boot.scriptFail.toNat),
    BitVec.ofNat 32 (s.boot.scriptFailStatus.toNat + 65536 * s.cmds.length),
    BitVec.ofNat 32 s.faultCount] ++ List.replicate 26 0 ++ packHalves s.spw.tags

/-- The result of GET_IDENTITY (R60, 00 R5). -/
def identityWords (s : State) : List Word :=
  [s.fuse.id0, s.fuse.id1, s.fuse.id2, BitVec.ofNat 32 s.glbId3,
   BitVec.ofNat 32 (s.fuse.digit.toNat + 256 * s.fuse.letter.toNat + 65536 * s.fuse.code.toNat), s.boot.version, 0, 0]

end State

/-- NOP (R60). -/
def opNop : Op := { opcode := 0x0001, len := lenIs 0, body := fun _ _ s => .done [] s }
/-- GET_IDENTITY (R60). -/
def opGetIdentity : Op :=
  { opcode := 0x0002, len := lenIs 0, res := fun _ _ => 32, body := fun _ _ s => .done s.identityWords s }
/-- GET_STATUS (R60). -/
def opGetStatus : Op :=
  { opcode := 0x0003, len := lenIs 0, res := fun _ _ => 256, body := fun _ _ s => .done s.statusWords s }

/-- NOP (R60). -/
def execNop (p : Pkt) (s : State) : Result := .next (State.carry opNop p s)
/-- GET_IDENTITY (R60). -/
def execGetIdentity (p : Pkt) (s : State) : Result := .next (State.carry opGetIdentity p s)
/-- GET_STATUS (R60). -/
def execGetStatus (p : Pkt) (s : State) : Result := .next (State.carry opGetStatus p s)
/-- CMD_TAIL_DOORBELL (R39). -/
def execCmdTailDoorbell (ring : Nat) (v : Word) (s : State) : Result := .next (s.writeTail ring v)
/-- CONSUMER_HEAD_DOORBELL (R39). -/
def execConsumerHeadDoorbell (ring : Nat) (v : Word) (s : State) : Result := .next (s.writeHead ring v)
/-- RING_ENABLE (R40). -/
def execRingEnable (ring : Nat) (v : Word) (s : State) : Result := .next (s.writeRingCtrl ring v)
/-- RING_DISABLE (R40). -/
def execRingDisable (ring : Nat) (v : Word) (s : State) : Result := .next (s.writeRingCtrl ring v)
/-- RING_CONFIG_WRITE (R40). -/
def execRingConfigWrite (ring : Nat) (v : Word) (s : State) : Result := .next (s.writeRingCtrl ring v)
/-- IRQ_MODERATION_TIMEOUT (R41). -/
def execIrqModerationTimeout (ring : Nat) (s : State) : Result := .next (s.moderationTimeout ring)
/-- IRQ_CAUSE_W1C (R443). -/
def execIrqCauseW1c (v : Word) (s : State) : Result := .next (s.clearCauses v)
/-- IRQ_MASK_WRITE (R443). -/
def execIrqMaskWrite (v : Word) (s : State) : Result := .next (s.writeMask v)
/-- INTX_PEND_W1C (R63). -/
def execIntxPendW1c (high : Bool) (v : Word) (s : State) : Result := .next (s.clearIntx high v)
/-- PCIE_LINK_DOWN (R35). -/
def execPcieLinkDown (s : State) : Result :=
  .next { s.resetHostIf with host := { s.resetHostIf.host with linkUp := false } }
/-- HOT_RESET (R35). -/
def execHotReset (s : State) : Result := .next s.resetHostIf
/-- FUNCTION_LEVEL_RESET (R35). -/
def execFunctionLevelReset (s : State) : Result := .next s.resetHostIf
/-- PCIE_LINK_UP (R33, R35): the link trains, at 2.5 GT/s or faster, with MSI-X enabled or not (log entry 5). -/
def execPcieLinkUp (gt25 msix : Bool) (s : State) : Result :=
  .next (State.flushHeld { s with host := { s.host with linkUp := true, gt25 := gt25, msixEn := msix } })
/-- FORWARDED_REPLY (R54). -/
def execForwardedReply (id : Nat) (status detail : Half) (result : List Word) (s : State) : Result :=
  .next (s.forwardReply id status detail result)
/-- FORWARD_TIMEOUT (R54). -/
def execForwardTimeout (id : Nat) (s : State) : Result := .next (s.forwardLate id)
/-- GLB_EVT_ROUTE_WRITE (R48, R65). -/
def execGlbEvtRouteWrite (v : Word) (s : State) : Result := .next (s.writeRoute v)
/-- BOOT_SCRIPT_START (R65). -/
def execBootScriptStart (s : State) : Result := .next s.startScript

end Sys2Proof.Machine
end

