-- ==== Sys2Proof/Machine/Plan.lean ====
section
/-! DEFINITION. Profile mathematics: plans of whole-cycle segments and one step of a plan (10 R282, R283, R285, R286, R446).
Positions, velocities, accelerations and jerks are integers in units of 2^-40 count. -/
namespace Sys2Proof.Machine

/-- One unit of velocity, 16.16 counts per cycle, in units of 2^-40. -/
def velUnit (v : Int) : Int := v * 2 ^ 24
/-- 8.24 counts per cycle squared, in units of 2^-40. -/
def accUnit (a : Nat) : Nat := a * 2 ^ 16
/-- 0.32 counts per cycle cubed, in units of 2^-40. -/
def jerkUnit (j : Nat) : Nat := j * 2 ^ 8
/-- A whole count. -/
def oneCount : Int := 2 ^ 40

/-- Quotient rounded up. -/
def ceilDiv (a d : Nat) : Nat := if d = 0 then 0 else (a + d - 1) / d

/-- Quotient rounded to nearest, ties toward plus infinity (R282). -/
def nearest (a : Int) (d : Nat) : Int := if d = 0 then 0 else (2 * a + d) / (2 * d)

/-- Smallest n with n * n * j at least d. -/
def ceilSqrtDiv (d j : Nat) : Nat :=
  let r := isqrt (d / (max j 1))
  if r * r * j ≥ d then r else if (r + 1) * (r + 1) * j ≥ d then r + 1 else r + 2

/-! ## Sides of a plan -/

/-- The limits of a side: acceleration, and jerk when the side is jerk-limited. -/
structure Lims where
  acc : Nat
  jerk : Option Nat
  deriving DecidableEq, Repr

/-- Segment counts of a side that changes the velocity by `dv`: jerk segments and the constant-acceleration segment (R283). -/
def sideCounts (dv : Nat) (l : Lims) : Nat × Nat :=
  match l.jerk with
  | none => (0, ceilDiv dv l.acc)
  | some j =>
    if dv * j ≥ l.acc * l.acc then (ceilDiv l.acc j, ceilDiv (dv * j - l.acc * l.acc) (l.acc * j))
    else (ceilSqrtDiv dv j, 0)

/-- Continuous duration of a side, in units of 2^-40 cycle. -/
def sideTime (dv : Nat) (l : Lims) : Nat :=
  match l.jerk with
  | none => dv * 2 ^ 40 / max l.acc 1
  | some j =>
    if dv * j ≥ l.acc * l.acc then dv * 2 ^ 40 / max l.acc 1 + l.acc * 2 ^ 40 / max j 1
    else 2 * isqrt (dv * 2 ^ 80 / max j 1)

/-- Continuous distance of a side between two speeds. -/
def sideDist (u v : Nat) (l : Lims) : Nat := (u + v) * sideTime (max u v - min u v) l / 2 ^ 41

/-- Largest speed from `lo` up, by bits below `2^k`, for which a test holds. -/
def searchUp (test : Nat → Bool) : Nat → Nat → Nat
  | 0, lo => lo
  | k + 1, lo => searchUp test k (if test (lo + 2 ^ k) then lo + 2 ^ k else lo)

/-- Limits of a whole plan, in units of 2^-40. -/
structure PlanLims where
  vel : Nat
  acc : Nat
  dec : Nat
  jerk : Option Nat
  deriving DecidableEq, Repr

def PlanLims.up (l : PlanLims) : Lims := { acc := l.acc, jerk := l.jerk }
def PlanLims.down (l : PlanLims) : Lims := { acc := l.dec, jerk := l.jerk }

/-- Continuous distance from speed u to a peak and to rest. -/
def peakDist (u : Nat) (l : PlanLims) (vp : Nat) : Nat :=
  sideDist u vp (if vp ≥ u then l.up else l.down) + sideDist vp 0 l.down

/-- The continuous peak: the commanded velocity where the distance has room for it, and otherwise the largest speed that has. -/
def peakSpeed (u d : Nat) (l : PlanLims) : Nat :=
  if peakDist u l l.vel ≤ d then l.vel
  else if l.vel ≤ u then u
  else searchUp (fun v => decide (v ≤ l.vel) && decide (peakDist u l v ≤ d)) 64 u

/-- Cycles of a pair of counts. -/
def sideLen (c : Nat × Nat) : Nat := 2 * c.1 + c.2

/-- Whether a change of velocity over some counts stays within the limits of a side. -/
def sideHolds (dv : Nat) (c : Nat × Nat) (l : Lims) : Bool :=
  decide (0 < c.1 + c.2) && decide (dv ≤ (c.1 + c.2) * l.acc)
    && (match l.jerk with | none => true | some j => decide (dv ≤ (c.1 + c.2) * c.1 * j))

/-- Peak velocity that makes the rounded segments cover the distance exactly (R283), as numerator and denominator. -/
def exactPeak (u d : Nat) (n1 nv n2 : Nat) : Int :=
  nearest (2 * (d : Int) - (u : Int) * n1) (max (n1 + 2 * nv + n2) 1)

/-- A side as segments: the ids of its jerk, constant and closing segments (R446). -/
def sideSegs (ids : Nat × Nat × Nat) (c : Nat × Nat) (dv : Int) : List PSeg :=
  if c.1 = 0 then (if c.2 = 0 then [] else [{ id := ids.2.1, n := c.2, acc := some (nearest dv c.2) }])
  else
    let den := (c.1 + c.2) * c.1
    [{ id := ids.1, n := c.1, jNum := dv, jDen := den }]
      ++ (if c.2 = 0 then [] else [{ id := ids.2.1, n := c.2 }])
      ++ [{ id := ids.2.2, n := c.1, jNum := -dv, jDen := den }]

/-- Ids of a side, by whether it raises the speed (R446). -/
def sideIds (rising : Bool) : Nat × Nat × Nat := if rising then (1, 2, 3) else (5, 6, 7)

/-- The sign of a plan's direction put on its segments. -/
def PSeg.scale (sgn : Int) (p : PSeg) : PSeg := { p with jNum := sgn * p.jNum, acc := p.acc.map fun a => sgn * a }

/-- The main plan over a distance d from a speed u with zero acceleration, both positive toward the target (R283). -/
def mainPlan (u d : Nat) (l : PlanLims) : List PSeg :=
  let vpc := peakSpeed u d l
  let c2 := sideCounts vpc l.down
  let cruise := d - peakDist u l vpc
  let nv := if peakDist u l l.vel ≤ d then ceilDiv cruise (max vpc 1) else 0
  let c1 := sideCounts (max u vpc - min u vpc) (if vpc ≥ u then l.up else l.down)
  let vp := exactPeak u d (sideLen c1) nv (sideLen c2)
  -- a first side that the rounded counts turn into a falling one has the cycles its fall needs (log entry 20)
  let falls := decide (vp < u) && decide (vpc ≥ u)
  let c1' := if falls && !(sideHolds (u - vp.toNat) c1 l.down) then
      let c := sideCounts (u - vp.toNat) l.down
      let c := if sideLen c = 0 then (match l.jerk with | none => (0, 1) | some _ => (1, 0)) else c
      (max c1.1 c.1, max c1.2 c.2)
    else c1
  let vp' := max 0 (if falls then exactPeak u d (sideLen c1') nv (sideLen c2) else vp)
  sideSegs (sideIds (decide (vp' ≥ u))) c1' (vp' - u)
    ++ (if nv = 0 then [] else [{ id := 4, n := nv, acc := some 0 }])
    ++ sideSegs (5, 6, 7) c2 (-vp')

/-- Segments that bring a speed to rest (R286). -/
def stopSegs (v : Int) (l : Lims) : List PSeg := sideSegs (5, 6, 7) (sideCounts v.natAbs l) (-v)

/-- The lead segment of a plan that begins with an acceleration, and the velocity and distance at its end (R283). -/
def leadSeg (v a : Int) (jerk : Option Nat) : List PSeg × Int × Int :=
  match jerk with
  | none => ([], v, 0)
  | some j =>
    if a = 0 then ([], v, 0)
    else
      let n := ceilDiv a.natAbs (max j 1)
      let raised := decide ((a > 0 ∧ v ≥ 0) ∨ (a < 0 ∧ v ≤ 0))
      ([{ id := if raised then 3 else 7, n := n, jNum := -a, jDen := n }],
       v + nearest (a * n) 2, v * n + nearest (a * (n * n : Nat)) 3)

/-- What a plan to a target comes to: its segments and, when the axis must first come to rest, that it does, whether it passes the
target, and where it rests. -/
structure PlanOut where
  segs : List PSeg
  restFirst : Bool := false
  passes : Bool := false
  rest : Int := 0
  deriving DecidableEq, Repr

/-- A plan from a present position, velocity and acceleration to a target (R283, R285). -/
def planTo (x v a target : Int) (l : PlanLims) : PlanOut :=
  let lead := leadSeg v a l.jerk
  let u := lead.2.1
  let d := target - (x + lead.2.2)
  let sgn : Int := if d < 0 then -1 else if d > 0 then 1 else if u < 0 then -1 else 1
  let us := sgn * u
  let len := sideLen (sideCounts us.natAbs l.down)
  if us < 0 ∨ us * len > 2 * d.natAbs then
    let stop := x + lead.2.2 + nearest (u * len) 2
    { segs := lead.1 ++ stopSegs u l.down, restFirst := true, rest := stop
      passes := decide ((target - x) * (stop - target) > 0) || (decide (target = x) && decide (stop ≠ x)) }
  else if d = 0 ∧ us = 0 then { segs := lead.1 }
  else { segs := lead.1 ++ (mainPlan us.toNat d.natAbs l).map (PSeg.scale sgn) }

/-- A trapezoidal change of velocity: the part that lowers the speed, then the part that raises it (R284). -/
def rampVel (v target : Int) (acc dec : Nat) : List PSeg :=
  let seg (id : Nat) (a b : Int) (lim : Nat) : List PSeg :=
    let n := ceilDiv (b - a).natAbs (max lim 1)
    if n = 0 then [] else [{ id := id, n := n, acc := some (nearest (b - a) n) }]
  if (v < 0 ∧ target > 0) ∨ (v > 0 ∧ target < 0) then seg 6 v 0 dec ++ seg 2 0 target acc
  else if target.natAbs ≥ v.natAbs then seg 2 v target acc
  else seg 6 v target dec

/-- A ramp stop: the lead segment where the ramp is jerk-limited, then the deceleration (R286). -/
def rampStop (v a : Int) (dec : Nat) (jerk : Option Nat) : List PSeg :=
  let lead := leadSeg v a jerk
  lead.1 ++ stopSegs lead.2.1 { acc := dec, jerk := jerk }

/-- The motion of one cycle. -/
structure Motion where
  x : Int
  v : Int
  a : Int
  deriving DecidableEq, Repr

/-- One cycle of a segment (R282). -/
def PSeg.step (p : PSeg) (m : Motion) : Motion :=
  match p.acc with
  | some a => { x := m.x + m.v + nearest a 2, v := m.v + a, a := a }
  | none =>
    { a := m.a + nearest p.jNum p.jDen
      v := m.v + m.a + nearest p.jNum (2 * p.jDen)
      x := m.x + m.v + nearest m.a 2 + nearest p.jNum (6 * p.jDen) }

/-- The plan after one cycle. -/
def planRest : List PSeg → List PSeg
  | [] => []
  | p :: t => if p.n ≤ 1 then t else { p with n := p.n - 1 } :: t

/-- Cycles a plan still takes. -/
def planLen (l : List PSeg) : Nat := (l.map PSeg.n).foldl (· + ·) 0

/-- Cycles of a whole move, with the plan that follows a rest. -/
def PlanOut.cycles (o : PlanOut) (target : Int) (l : PlanLims) : Nat :=
  planLen o.segs + (if o.restFirst then planLen (planTo o.rest 0 0 target l).segs else 0)

end Sys2Proof.Machine
end

