-- ==== Sys2Proof/Machine/Acquire.lean ====
section
/-! DEFINITION. The acquisition engine's settings and its trigger (12 R343-R354). Instants with a fraction are held in units of
2^-16 ns. -/
namespace Sys2Proof.Machine

/-! ## Settings (R361) -/

/-- A word of PART 0. -/
def Acq.set (a : Acq) (i : Nat) : Nat := match a.settings with | some ws => (ws.getD i 0).toNat | none => 0

def Acq.len (a : Acq) : Nat := a.set 1
def Acq.div (a : Acq) : Nat := field (a.set 2) 8 8 + 1
def Acq.nPre (a : Acq) : Nat := a.len * field (a.set 2) 0 7 / 100
def Acq.viewEn (a : Acq) : Bool := field (a.set 2) 16 1 == 1
def Acq.nSlots (a : Acq) : Nat := field (a.set 6) 0 16
def Acq.ringOf (a : Acq) : Option Nat := if field (a.set 7) 7 1 = 1 then some (field (a.set 7) 0 7) else none

/-- A signal's kind (R343). -/
def sigKind (w : Word) : Nat := field w.toNat 28 4

/-- Signals of a lane, in ascending index. -/
def Acq.sigs (a : Acq) (p : Nat → Bool) : List (Nat × Word) := a.signals.filter fun x => p (sigKind x.2)

/-- Edges that the mark lane takes (R343, R346). -/
def Acq.wantsEdge (a : Acq) (input : Nat) (rising : Bool) : Bool :=
  (a.sigs (· == 4)).any fun x => field x.2.toNat 0 4 == input && field x.2.toNat (if rising then 4 else 5) 1 == 1

/-- A word of a condition block (R361). -/
def Acq.cond (a : Acq) (c j : Nat) : Nat := (a.trigger.getD (2 + 6 * c + j) 0).toNat

def Acq.condKind (a : Acq) (c : Nat) : Nat := field (a.cond c 0) 0 3
def Acq.anded (a : Acq) : Bool := field (a.trigger.getD 0 0).toNat 8 1 == 1

/-- The engine captures (R352). -/
def Acq.armed (a : Acq) : Bool :=
  match a.state with
  | .filling | .ready | .recording | .waitSlot => true
  | _ => false

/-- Lowest slot not in use, at most as many tries as slots are used. -/
def freeSlot (used : List Nat) : Nat → Nat → Nat
  | 0, i => i
  | n + 1, i => if used.contains i then freeSlot used n (i + 1) else i

namespace State

/-- P, the period of the cycle lane, in ns (R344). -/
def acqP (s : State) : Nat := s.acq.div * s.tmb.tc

/-- Period of a sigma-delta channel's outputs, in ns (R345). -/
def sdPeriod (s : State) (port : Nat) : Nat :=
  let w := ((s.lport port).cfg.getD 7 0).toNat
  field w 0 5 * field w 8 9 * 4

/-- The first cycle-lane sample instant after a time (R353). -/
def nextFrameAfter (s : State) (ns : Nat) : Nat :=
  let base := s.tmb.epoch * 1000000000 + s.sampleOffset
  let d := s.acq.div
  if ns < base then base else base + ((ns - base) / s.tmb.tc / d + 1) * d * s.tmb.tc

/-- Capture of the next record begins at an instant; the engine will be READY from R (R353). -/
def fillFrom (s : State) (ta : Nat) : State :=
  { s with acq := { s.acq with state := .filling, tA := some ta, readyAt := ta + s.acq.nPre * s.acqP } }

/-- Mark lane capacity of a record (R347). -/
def markCap (s : State) : Nat :=
  let sum := ((s.acq.sigs (· == 4)).map fun x => 1000 * field x.2.toNat 8 16).foldl (· + ·) 0
  ceilDiv (sum * s.acq.len * s.acqP) 1000000000

/-- An accepted trigger opens a record (R353, R354). -/
def openRecord (s : State) (t c : Nat) : State :=
  let a := s.acq
  let dead := match a.lastT with
    | some l => (a.readyAt * 65536 - l) / 65536
    | none => a.readyAt - a.armedAt
  let r : QRec := {
    num := a.recNo, slot := freeSlot (a.slots.map QRec.slot) a.slots.length 0, tNs := t / 65536, tFrac := BitVec.ofNat 16 t
    cond := c, flags := if a.recNo = 0 then 1 else 0, dead := dead, ignored := a.ignoredRec, tag := BitVec.ofNat 32 (a.set 11)
    nPre := a.nPre, p := s.acqP, len := a.len, nSig := (a.sigs fun k => k == 1 || k == 2).length
    sdLanes := (a.sigs (· == 3)).map fun x => (x.1, s.sdPeriod (field x.2.toNat 16 4))
    markCap := s.markCap, gapMax := if s.full then 0 else field (a.set 3) 0 13 }
  { s with acq := { a with
    state := .recording, cur := some r, ignoredRec := 0, lastT := some t, dead := BitVec.ofNat 64 dead } }

/-- A trigger fires: it opens a record, or is counted (R353). One that fires while the engine is not armed is not counted. -/
def acqTrigger (s : State) (t c : Nat) : State :=
  let a := s.acq
  match a.state with
  | .recording | .waitSlot => { s with acq := { a with busy := satInc a.busy } }
  | .filling | .ready =>
    if a.tA.isSome && decide (a.readyAt * 65536 ≤ t) then s.openRecord t c
    else { s with acq := { a with ignored := satInc a.ignored, ignoredRec := a.ignoredRec + 1 } }
  | _ => s

/-- Every condition but one is true at an instant, and none of them is OFF alone (R351). -/
def othersTrue (a : Acq) (t c : Nat) : Bool := [0, 1, 2, 3].all fun d =>
  let x := a.conds.getD d {}
  d == c || a.condKind d == 0 || (x.isTrue && (match x.trueTill with | some e => decide (t < e * 65536) | none => true))

/-- Firings in the order of their instants, then of their conditions. -/
def insertFiring (x : Nat × Nat) : List (Nat × Nat) → List (Nat × Nat)
  | [] => [x]
  | y :: t => if x.1 < y.1 ∨ (x.1 = y.1 ∧ x.2 < y.2) then x :: y :: t else y :: insertFiring x t

/-- One firing (R351). `prev` is the instant of the firing taken before it at the same time. -/
def fireOne (s : State) (prev : Option Nat) (t c : Nat) : State :=
  let a := s.acq
  let level := a.condKind c == 1
  let till := s.cycleNs (s.cycleAt (t / 65536) + field (a.cond c 3) 0 16)
  let a := { a with conds := updAt a.conds c fun x => { x with isTrue := true, trueTill := if level then none else some till } }
  let s := { s with acq := a }
  if a.anded then (if othersTrue a t c then s.acqTrigger t c else s)
  else if prev = some t then s else s.acqTrigger t c

/-- Conditions fire together: the earlier instant first, and of equal instants the lower condition (R351). -/
def fireConds (s : State) (fs : List (Nat × Nat)) : State :=
  if !s.acq.armed then s
  else ((fs.foldl (fun l x => insertFiring x l) []).foldl (fun x y => (fireOne x.1 x.2 y.1 y.2, some y.1)) (s, none)).1

/-- Event conditions of a kind that a test accepts fire at an instant (R349). -/
def fireEvent (s : State) (kind t : Nat) (test : Nat → Bool) : State :=
  s.fireConds (([0, 1, 2, 3].filter fun c => s.acq.condKind c == kind && test c).map fun c => (t, c))

/-- An edge of a mark input (R349). -/
def acqMark (s : State) (input t : Nat) (rising : Bool) : State :=
  s.fireEvent 2 t fun c => field (s.acq.cond c 1) 0 4 == input && field (s.acq.cond c 0) (if rising then 4 else 5) 1 == 1

/-- A compare fires, at its crossing instant (R349, 10 R295). -/
def acqCompare (s : State) (axis n t : Nat) : State :=
  s.fireEvent 3 t fun c => field (s.acq.cond c 1) 0 8 == axis && field (s.acq.cond c 1) 16 2 == n

/-- A first cause on an axis, at S(k), or with `port` a fault of a port, at its latch time (R349). -/
def acqFault (s : State) (port : Bool) (unit t : Nat) : State :=
  s.fireEvent 4 t fun c =>
    let w := s.acq.cond c 0
    (field w 9 1 == 1) == port && (field w 8 1 == 1 || field (s.acq.cond c 1) 0 (if port then 4 else 8) == unit)

/-- The instant S(k) of the present cycle in 2^-16 ns. -/
def sampleFine (s : State) : Nat := (s.cycleNs s.k + s.sampleOffset) * 65536

end State

/-- A LEVEL condition takes a sample of its signal at an instant, with the lane's period: the new condition, and the crossing it
places (R350, R351). -/
def levelStep (slope : Nat) (lev : Int) (hyst : Nat) (period : Nat) (v : Int) (t : Nat) (c : Cond) : Cond × Option Nat :=
  let at_ (num den : Int) : Nat := c.prevT * 65536 + (65536 * num / den).toNat * period
  let up := match c.prev with
    | some p => if slope % 2 = 1 ∧ c.primedUp = true ∧ v ≥ lev ∧ p < lev then some (at_ (lev - p) (v - p)) else none
    | none => none
  let dn := match c.prev with
    | some p => if slope ≥ 2 ∧ c.primedDn = true ∧ v ≤ lev ∧ p > lev then some (at_ (p - lev) (p - v)) else none
    | none => none
  let low := decide (v ≤ lev - hyst)
  let high := decide (v ≥ lev + hyst)
  let back := c.isTrue && (if c.up then low else high)
  ({ c with
     primedUp := (c.primedUp && up.isNone) || low, primedDn := (c.primedDn && dn.isNone) || high
     prev := some v, prevT := t, isTrue := c.isTrue && !back
     up := if up.isSome then true else if dn.isSome then false else c.up }, up.or dn)

namespace State

/-- A captured sample of signal i is offered to the LEVEL conditions that name it: the firings, and the conditions after it. -/
def levelSample (a : Acq) (i period : Nat) (v : Half) (t : Nat) : Acq × List (Nat × Nat) :=
  [0, 1, 2, 3].foldl (fun x c =>
    let a := x.1
    if a.condKind c = 1 ∧ field (a.cond c 1) 0 12 = i then
      let w := a.cond c 2
      let r := levelStep (field (a.cond c 0) 4 2) (signed 16 (field w 0 16)) (field w 16 15) period (signed 16 v.toNat) t (a.conds.getD c {})
      ({ a with conds := updAt a.conds c fun _ => r.1 }, match r.2 with | some f => x.2 ++ [(f, c)] | none => x.2)
    else x) (a, [])

/-- A captured instant is no longer inside any window that a trigger could still open. -/
def stale (s : State) (ref inst : Nat) : Bool := decide (inst + (s.acq.nPre + 3) * s.acqP + 2 * s.tmb.tc < ref)

/-- Samples too old for any window are let go while no record is open. -/
def pruneSamples (s : State) (ref : Nat) : State :=
  if s.acq.state = .recording then s
  else { s with acq := { s.acq with
    frames := s.acq.frames.filter fun f => !s.stale ref f.inst
    sds := s.acq.sds.filter fun f => !s.stale ref f.inst
    edges := s.acq.edges.filter fun e => !s.stale ref e.ns } }

/-- A sample of this instant belongs to the record being filled or taken (R353). -/
def captures (s : State) (inst : Nat) : Bool :=
  s.acq.state != .waitSlot && s.acq.armed && (match s.acq.tA with | some t => decide (t ≤ inst) | none => false)

/-- Whether a sample is lost: never on the VHV-2561; on the VHV-1281 the shared channel may be late, which is a free value (R356). -/
def sampleLost (s : State) : Bool × State :=
  if s.full then (false, s)
  else
    let f := s.free 1
    let l := f.1 == 1
    (l, if l then { f.2 with acq := { f.2.acq with lost := satInc f.2.acq.lost } } else f.2)

end State

/-! ## Records (R347, R357) -/

/-- A length rounded up to a multiple. -/
def roundUp (n m : Nat) : Nat := ceilDiv n m * m

/-- Bytes of a frame (R344). -/
def frameLen (nSig : Nat) : Nat := roundUp (8 + 2 * nSig) 8

def QRec.frameLen (r : QRec) : Nat := Machine.frameLen r.nSig
def QRec.cycleOff (r : QRec) : Nat := 256 + roundUp (24 * r.sdLanes.length) 64

/-- Bytes of an SD lane at its full size. -/
def QRec.sdLen (r : QRec) (period : Nat) : Nat := roundUp (2 * ceilDiv (r.len * r.p) period) 64

/-- Offset of SD lane j; of the mark lane, when j is the number of SD lanes. -/
def QRec.sdOff (r : QRec) (j : Nat) : Nat :=
  r.cycleOff + roundUp (r.len * r.frameLen) 64 + ((r.sdLanes.take j).map fun x => r.sdLen x.2).foldl (· + ·) 0

def QRec.markOff (r : QRec) : Nat := r.sdOff r.sdLanes.length
def QRec.gapOff (r : QRec) : Nat := r.markOff + roundUp (16 * r.markCap) 64

/-- Bytes of a record at full lane sizes (R348). -/
def QRec.bytes (r : QRec) : Nat := r.gapOff + roundUp (24 * r.gapMax) 64

/-- A gap: instant and index of its first lost sample, its length, its lane (R356). -/
structure Gap where
  inst : Nat
  index : Nat
  len : Nat
  lane : Nat
  deriving DecidableEq, Repr

/-- Runs of lost samples of one lane, from (instant, lost) in order. -/
def gapsFrom (lane : Nat) : Nat → Option Gap → List (Nat × Bool) → List Gap
  | _, cur, [] => cur.toList
  | i, cur, (t, lost) :: rest =>
    if lost then
      let g := match cur with | some g => { g with len := g.len + 1 } | none => { inst := t, index := i, len := 1, lane := lane }
      gapsFrom lane (i + 1) (some g) rest
    else cur.toList ++ gapsFrom lane (i + 1) none rest

def insertGap (g : Gap) : List Gap → List Gap
  | [] => [g]
  | h :: t => if g.inst < h.inst then g :: h :: t else h :: insertGap g t

/-- The gaps of a record in the order of their instants (R356). -/
def QRec.gaps (r : QRec) : List Gap :=
  let sd := (mapI (fun j l => gapsFrom (j + 1) 0 none ((r.sds.filter fun x => x.signal == l.1).map fun x => (x.inst, x.lost))) r.sdLanes).flatten
  (gapsFrom 0 0 none (r.frames.map fun f => (f.inst, f.lost)) ++ sd ++ gapsFrom 0xFFFF 0 none (r.edges.map fun e => (e.ns, e.lost))).foldl
    (fun l g => insertGap g l) []

/-- Edges a record stores. -/
def QRec.stored (r : QRec) : List QEdge := r.edges.filter fun e => !e.lost

/-- Bytes padded with zeros to a length. -/
def padTo (n : Nat) (bs : List Byte) : List Byte := (bs ++ List.replicate (n - bs.length) 0).take n

/-- The header of R357. -/
def QRec.header (r : QRec) : List Byte :=
  let first := r.frames.headD { cycle := 0, inst := 0, vals := [] }
  let gaps := r.gaps
  let lostN := (gaps.map Gap.len).foldl (· + ·) 0
  padTo 256 (leBytes 4 0x52435141 ++ leBytes 4 r.num ++ leBytes 8 r.tNs ++ leBytes 2 r.tFrac.toNat ++ leBytes 1 r.cond ++ [r.flags]
    ++ leBytes 4 r.frames.length ++ leBytes 4 r.nPre ++ leBytes 4 r.p ++ leBytes 8 (if first.lost then 2 ^ 64 - 1 else first.cycle)
    ++ leBytes 8 first.inst ++ leBytes 8 r.dead ++ leBytes 4 r.ignored ++ leBytes 4 r.edgesOver ++ leBytes 2 r.nSig
    ++ leBytes 2 r.frameLen ++ leBytes 2 r.sdLanes.length ++ leBytes 2 (min gaps.length r.gapMax) ++ leBytes 4 (gaps.length - r.gapMax)
    ++ leBytes 4 lostN ++ leBytes 4 r.stored.length ++ leBytes 4 r.markOff ++ leBytes 4 r.cycleOff
    ++ leBytes 4 (if r.gapMax = 0 then 0 else r.gapOff) ++ leBytes 4 r.tag.toNat)

/-- An entry of the SD directory. -/
def QRec.sdEntry (r : QRec) (j : Nat) (l : Nat × Nat) : List Byte :=
  let xs := r.sds.filter fun x => x.signal == l.1
  leBytes 8 (match xs.head? with | some x => x.inst | none => 0) ++ leBytes 4 xs.length ++ leBytes 4 l.2 ++ leBytes 4 (r.sdOff j)
    ++ leBytes 2 l.1 ++ leBytes 2 0

/-- A frame as stored; a lost one has an impossible cycle number and zero values (R344, R356). -/
def QRec.frameBytes (r : QRec) (f : QFrame) : List Byte :=
  padTo r.frameLen (if f.lost then leBytes 8 (2 ^ 64 - 1) else leBytes 8 f.cycle ++ f.vals.flatMap fun v => leBytes 2 v.toNat)

/-- An edge as stored (R346). -/
def edgeBytes (e : QEdge) : List Byte :=
  leBytes 8 e.ns ++ leBytes 2 e.frac.toNat ++ leBytes 1 e.input ++ leBytes 1 (b2n e.rising) ++ leBytes 4 0

/-- The bytes of a record, at full lane sizes; what a lane does not fill reads zero (R357). -/
def QRec.image (r : QRec) : List Byte :=
  r.header
  ++ padTo (r.cycleOff - 256) (mapI r.sdEntry r.sdLanes).flatten
  ++ padTo (roundUp (r.len * r.frameLen) 64) (r.frames.flatMap r.frameBytes)
  ++ (r.sdLanes.flatMap fun l => padTo (r.sdLen l.2)
       ((r.sds.filter fun x => x.signal == l.1).flatMap fun x => leBytes 2 (if x.lost then 0x8000 else x.val.toNat)))
  ++ padTo (roundUp (16 * r.markCap) 64) (r.stored.flatMap edgeBytes)
  ++ padTo (roundUp (24 * r.gapMax) 64) ((r.gaps.take r.gapMax).flatMap fun g =>
       leBytes 8 g.inst ++ leBytes 4 g.index ++ leBytes 4 g.len ++ leBytes 2 g.lane ++ leBytes 6 0)

/-- Words of some bytes, little-endian; the length is a multiple of 4. -/
def wordsOf : List Byte → List Word
  | a :: b :: c :: d :: t => (d ++ c ++ b ++ a) :: wordsOf t
  | _ => []

/-- End of a record's window, in 2^-16 ns (R347). -/
def QRec.endFine (r : QRec) : Nat := (r.tNs + (r.len - r.nPre) * r.p) * 65536 + r.tFrac.toNat

/-- An instant lies in a record's window (R347). -/
def QRec.holds (r : QRec) (t : Nat) : Bool :=
  decide (r.tNs * 65536 + r.tFrac.toNat ≤ t + r.nPre * r.p * 65536) && decide (t < r.endFine)

namespace State

/-- A record's lanes take the captured samples of its window (R347). -/
def fillLanes (a : Acq) (r : QRec) : QRec :=
  let frames := a.frames.filter fun f => r.holds (f.inst * 65536)
  let edges := a.edges.filter fun e => r.holds (e.ns * 65536 + e.frac.toNat)
  let kept := edges.take r.markCap
  let excess := edges.length - kept.length
  let r := { r with
    frames := frames, edges := kept, edgesOver := excess
    sds := a.sds.filter fun x => r.holds (x.inst * 65536) }
  let gaps := r.gaps.length
  { r with flags := r.flags ||| BitVec.ofNat 8 (4 * b2n (decide (excess > 0)) + 8 * b2n (decide (gaps > 0))
      + 16 * b2n (decide (gaps > r.gapMax) && decide (r.gapMax > 0)) + 32 * b2n (frames.any QFrame.absent)) }

/-- The view copy of a record (R358). -/
def viewCopy (s : State) (r : QRec) : State :=
  if !s.acq.viewEn then s
  else
    let b := r.num % 2
    let ws := (wordsOf r.image).take 0x80000
    let n : Word := BitVec.ofNat 32 r.num
    { s with acq := { s.acq with
      sram := cellPuts s.acq.sram (0x100000 + 0x80000 * b) 1 ws
      view0 := if b = 0 then n else s.acq.view0, view1 := if b = 1 then n else s.acq.view1 } }

/-- A slot is free for the next record (R348). -/
def slotFree (s : State) : Bool := decide (s.acq.slots.length < s.acq.nSlots)

/-- A record is complete: its slot holds it, the view shows it, and ACQ_RECORD_DONE is posted (R353, R358, R363). -/
def closeRecord (s : State) (r : QRec) : State :=
  let r := fillLanes s.acq r
  let s := (s.viewCopy r).emit (.dramRecord r.slot r)
  let s := { s with acq := { s.acq with
    slots := s.acq.slots ++ [r], cur := none, taken := s.acq.taken + 1, recNo := s.acq.recNo + 1
    excess := BitVec.ofNat 16 (satNat 16 (s.acq.excess.toNat + r.edgesOver)) } }
  s.event 0x0501 0 (leBytes 4 r.num ++ leBytes 2 r.slot ++ [r.flags] ++ leBytes 1 r.cond ++ leBytes 8 r.tNs ++ leBytes 8 r.dead)

/-- Where the engine goes after a record (R353). -/
def afterRecord (s : State) (r : QRec) : State :=
  let a := s.acq
  if !a.loop || (a.nRec != 0 && decide (a.taken ≥ a.nRec)) then { s with acq := { a with state := .done, tA := none } }
  else if s.slotFree then
    let s := s.fillFrom (s.nextFrameAfter (ceilDiv r.endFine 65536 - 1))
    let keep (t : Nat) : Bool := match s.acq.tA with | some x => decide (x ≤ t) | none => false
    { s with acq := { s.acq with
      frames := s.acq.frames.filter fun f => keep f.inst, sds := s.acq.sds.filter fun f => keep f.inst
      edges := s.acq.edges.filter fun e => keep e.ns } }
  else { s with acq := { a with state := .waitSlot, tA := none, frames := [], sds := [], edges := [] } }

/-- A disarm: a record in RECORDING is closed as it stands, TRUNCATED, and the engine is IDLE (R355). -/
def disarm (s : State) : State :=
  let s := match s.acq.cur with
    | some r => s.closeRecord { r with flags := r.flags ||| 2 }
    | none => s
  { s with acq := { s.acq with state := .idle, cur := none, frames := [], sds := [], edges := [], tA := none } }

end State

end Sys2Proof.Machine
end

