-- ==== Sys2Proof/Machine/SchedOps.lean ====
section
/-! DEFINITION. Flows, descriptors, queues, ready lists and delay lists (09 R253-R262), and the SCH_ registers as they read. -/
namespace Sys2Proof.Machine

/-! ## Descriptors (R256) -/

/-- Descriptors a flow reserves. -/
def Flow.reserve (f : Flow) : Nat := if !f.exist then 0 else (if f.prio.toNat < 2 then f.depth.toNat else 0) + b2n f.periodic

/-- Waiting tasks, the periodic one apart. -/
def Flow.waiting (f : Flow) : Nat := (f.queue.filter fun t => !t.periodic).length

/-- A periodic task waits. -/
def Flow.perWait (f : Flow) : Bool := f.queue.any Task.periodic

/-- Descriptors of the shared pool that a flow holds. -/
def Flow.shared (f : Flow) : Nat := if f.prio.toNat < 2 then 0 else f.waiting + f.delayed

/-- The flow's queue is full. -/
def Flow.full (f : Flow) : Bool := decide (f.waiting + f.delayed ≥ f.depth.toNat)

namespace State

def sumFlows (s : State) (f : Flow → Nat) : Nat := s.sch.flows.foldl (fun n x => n + f x) 0

/-- Descriptors reserved. -/
def reserved (s : State) : Nat := s.sumFlows Flow.reserve

/-- No unreserved descriptor is free. -/
def poolEmpty (s : State) : Bool := decide (s.sumFlows Flow.shared + s.reserved ≥ 16384)

/-- There is a place and a descriptor for a task of a flow (R256, R257). -/
def flowRoom (s : State) (n : Nat) : Bool :=
  let f := s.flow n
  !f.full && (decide (f.prio.toNat < 2) || !s.poolEmpty)

/-! ## Queues and ready lists (R258, R259, R262) -/

/-- A flow enters its ready list at the tail. -/
def makeReady (s : State) (n : Nat) : State :=
  { s with sch := { s.sch with ready := updAt s.sch.ready (s.flow n).prio.toNat fun l => l ++ [n] } }

/-- A task enters a flow's queue (R262). -/
def enqueueTask (s : State) (n : Nat) (t : Task) : State :=
  let f := s.flow n
  let s := s.modFlow n fun f => { f with queue := f.queue ++ [t] }
  if f.queue.isEmpty && f.service.isNone then s.makeReady n else s

/-- Tick of a delay list, in ns. -/
def tickNs (s : State) (l : Nat) : Nat := 100 * max 1 (s.sch.dly.getD l {}).tick.toNat

/-- The boundary of a delay list at or before now, in ticks since the epoch (R259). -/
def boundaryNow (s : State) (l : Nat) : Nat := (s.now - s.tmb.epoch * 1000000000) / s.tickNs l

/-- A task is posted, at once or Dt ticks on (R259, R260). -/
def postTask (s : State) (n : Nat) (arg : BitVec 48) (dt : Option Nat) : State :=
  match dt with
  | some (d + 1) =>
    let l := (s.flow n).dlist.toNat
    let it : Delayed := { flow := n, due := s.boundaryNow l + d + 1, arg := arg }
    let s := s.modFlow n fun f => { f with delayed := f.delayed + 1 }
    { s with sch := { s.sch with dly := updAt s.sch.dly l fun x => { x with items := x.items ++ [it] } } }
  | _ => s.enqueueTask n { arg := arg }

/-- A held source is counted on its flow (R257). -/
def hold (s : State) (n : Nat) (h : Held) : State :=
  let s := s.modFlow n fun f => { f with holds := satInc f.holds }
  { s with sch := { s.sch with held := s.sch.held ++ [h] } }

/-- The flow that a TASK_POST names, its argument and its due ticks (R257). -/
def postArg (p : Pkt) : BitVec 48 := BitVec.ofNat 48 (p.w 0 + 2 ^ 32 * p.fld 1 0 16)
def postTicks (p : Pkt) : Option Nat := if p.fld 2 0 1 = 1 then some (p.fld 3 0 24) else none

/-- The part advances RNG_HEAD of a CMD ring (02 R38, R41). -/
def advanceHead (s : State) (n : Nat) : State :=
  (s.modRing n fun r => { r with head := BitVec.ofNat 13 (r.after r.head.toNat) }).signalRing n

/-- A TASK_POST that was held at the head of its ring leaves it (R257). -/
def leaveHead (s : State) (n : Nat) : State :=
  if (s.ring n).heldPost then (s.modRing n fun r => { r with heldPost := false }).advanceHead n else s

/-- One held source is retried: none is served past the room there is (R257). -/
def retryOne (h : Held) (s : State) : State :=
  let pkt (p : Pkt) (after : State → State) : State :=
    let n := p.unit
    if !(s.flow n).exist then after (s.reply p stNotReady 0 [])
    else if s.flowRoom n then after ((s.postTask n (postArg p) (postTicks p)).finish p [])
    else { s with sch := { s.sch with held := s.sch.held ++ [h] } }
  match h with
  | .ring n p => pkt p fun s => s.leaveHead n
  | .other p => pkt p id
  | .core c n arg dt =>
    if !(s.flow n).exist then s.modCore c fun x => { x with posted := some false }
    else if s.flowRoom n then (s.postTask n arg dt).modCore c fun x => { x with posted := some true }
    else { s with sch := { s.sch with held := s.sch.held ++ [h] } }

/-- Held sources are retried, oldest first, when a descriptor or a place has come free (R257). -/
def retryHeld (s : State) : State :=
  runAll retryOne s.sch.held { s with sch := { s.sch with held := [] } }

/-- A task in service ends, and its flow is freed (R254, R262). -/
def freeFlow (s : State) (n : Nat) : State :=
  let s := s.modFlow n fun f => { f with service := none }
  if (s.flow n).queue.isEmpty then s else s.makeReady n

/-! ## SCH_ registers -/

/-- Descriptors not held by any task. -/
def descFree (s : State) : Nat := 16384 - s.sumFlows fun f => f.queue.length + f.delayed

/-- A source is held back on a flow. -/
def flowHeld (s : State) (n : Nat) : Bool := s.sch.held.any fun h =>
  match h with
  | .ring _ p => p.unit == n
  | .other p => p.unit == n
  | .core _ m _ _ => m == n

/-- A mask of cores. -/
def coreMask (s : State) (p : Core → Bool) : Nat :=
  (mapI (fun i c => if i < s.nCores ∧ p c = true then 2 ^ i else 0) s.eddy.cores).foldl (· + ·) 0

/-- Admitted classes, as SCH_ADMIT reads (R261). -/
def admitMask (s : State) : Nat := 1 + 2 * b2n s.pwr.firm + 4 * b2n s.pwr.soft

/-- Word j of SCH_FLOW_n. -/
def flowWord (s : State) (n j : Nat) : Word :=
  let f := s.flow n
  match j with
  | 0 => BitVec.ofNat 32 (f.entry.toNat + 2 ^ 14 * f.prio.toNat + 2 ^ 18 * f.depth.toNat + 2 ^ 25 * f.dlist.toNat + 2 ^ 27 * f.event.toNat
      + 2 ^ 30 * b2n f.periodic + 2 ^ 31 * b2n f.exist)
  | 1 => BitVec.ofNat 32 (f.mask.toNat % 2 ^ s.nCores)
  | 2 => BitVec.ofNat 32 (f.waiting + 2 ^ 7 * f.delayed + 2 ^ 24 * b2n (s.flowHeld n) + 2 ^ 25 * b2n f.perWait
      + 2 ^ 26 * f.service.getD 0 + 2 ^ 31 * b2n f.service.isSome)
  | _ => f.coalesced ++ f.holds

/-- A word of the SCH_ block, at a multiple of 4. -/
def schWord (s : State) (off : Nat) : Word :=
  if off = 0x0000 then BitVec.ofNat 32 (s.descFree + 2 ^ 16 * s.reserved + 2 ^ 31 * b2n s.poolEmpty)
  else if off = 0x0004 then BitVec.ofNat 32 s.admitMask
  else if off = 0x0008 then BitVec.ofNat 32 (s.coreMask Core.hostPark)
  else if off = 0x000C then BitVec.ofNat 32 (s.coreMask fun c => c.govPark && !c.hostPark)
  else if 0x0010 ≤ off ∧ off < 0x0020 then
    let l := s.sch.dly.getD ((off - 0x10) / 4) {}
    BitVec.ofNat 32 (l.tick.toNat + 2 ^ 16 * l.items.length + 2 ^ 31 * b2n l.err)
  else if 0x0040 ≤ off ∧ off < 0x0060 then BitVec.ofNat 32 (s.sch.ready.getD ((off - 0x40) / 4) []).length
  else if 0x10000 ≤ off ∧ off < 0x14000 then s.flowWord ((off - 0x10000) / 16) (off % 16 / 4)
  else 0

end State

end Sys2Proof.Machine
end

