-- ==== Sys2Proof/Machine/EddyRegs.lean ====
section
/-! DEFINITION. The register file of an Eddy core: transfers, arithmetic, flags, moves of an accumulator, address arithmetic and loops
(07 R206-R215, 08 R236-R251). Accumulators are computed as integers and narrowed at the end. -/
namespace Sys2Proof.Machine

/-! ## Flags (07 SR, R210) -/

/-- The arithmetic flags of SR, but for the sticky ones. -/
structure EFlags where
  z : Bool
  n : Bool
  c : Bool
  v : Bool
  g : Bool
  h : Bool
  deriving DecidableEq, Repr

def ERegs.flag (r : ERegs) (i : Nat) : Bool := r.sr.getLsbD i

/-- The flags as SR holds them. -/
def ERegs.flags (r : ERegs) : EFlags :=
  { z := r.flag 0, n := r.flag 1, c := r.flag 2, v := r.flag 3, g := r.flag 5, h := r.flag 6 }

/-- The flags are written; V set also sets VS, which a move's limit sets too, and a move may set SC (R210, R211). -/
def ERegs.setFlags (r : ERegs) (f : EFlags) (vset vs sc : Bool) : ERegs :=
  { r with sr := BitVec.ofNat 24 (b2n f.z + 2 * b2n f.n + 4 * b2n f.c + 8 * b2n f.v + 16 * b2n (r.flag 4 || vset || vs)
      + 32 * b2n f.g + 64 * b2n f.h + 128 * b2n (r.flag 7 || sc)) }

/-- Integer value of an accumulator. -/
def accInt (a : Acc) : Int := signed 56 a.toNat

/-- The low 56 bits of an integer. -/
def toAcc (x : Int) : Acc := BitVec.ofNat 56 (wrap 56 x)

/-- Largest and smallest values of the Q1.47 range. -/
def qMax : Int := 2 ^ 47 - 1
def qMin : Int := -(2 ^ 47)

/-- Z, N, G and H of a 56-bit result (R210). -/
def resultFlags (old : EFlags) (a : Acc) : EFlags :=
  let x := accInt a
  let g := decide (x > qMax) || decide (x < qMin)
  { old with z := a == 0, n := a.getLsbD 55, g := g, h := !g && a.getLsbD 47 == a.getLsbD 46 }

/-- An exact result is narrowed to 56 bits, or limited with MR.SAT: the result and V (R210). -/
def narrow (sat : Bool) (x : Int) : Acc × Bool :=
  if sat then (toAcc (clampI qMin qMax x), decide (x > qMax) || decide (x < qMin))
  else (toAcc x, decide (x > 2 ^ 55 - 1) || decide (x < -(2 ^ 55)))

def ERegs.sat (r : ERegs) : Bool := r.mr.getLsbD 2

/-- Carry out of bit 55 of a sum, and borrow of a difference (R210). -/
def carryAdd (a b : Int) : Bool := decide (wrap 56 a + wrap 56 b ≥ 2 ^ 56)
def borrowSub (a b : Int) : Bool := decide (wrap 56 a < wrap 56 b)

/-! ## Registers (R207, 08 R234) -/

def ERegs.acc (r : ERegs) (n : Nat) : Acc := r.a.getD n 0
def ERegs.data (r : ERegs) (n : Nat) : Q23 := r.d.getD n 0
def ERegs.setAcc (r : ERegs) (n : Nat) (v : Acc) : ERegs := { r with a := updAt r.a n fun _ => v }
def ERegs.setData (r : ERegs) (n : Nat) (v : Q23) : ERegs := { r with d := updAt r.d n fun _ => v }
def ERegs.setPtr (r : ERegs) (n : Nat) (v : Half) : ERegs := { r with p := updAt r.p n fun _ => v }

/-- A 24-bit value as a whole accumulator (R207). -/
def wholeAcc (v : Q23) : Acc := toAcc (signed 24 v.toNat * 2 ^ 24)

/-- Two 24-bit values as the middle and tail of an accumulator. -/
def replaceBits {w : Nat} (x : BitVec w) (lo n v : Nat) : BitVec w :=
  BitVec.ofNat w (x.toNat - field x.toNat lo n * 2 ^ lo + v % 2 ^ n * 2 ^ lo)

/-- Rounding at bit 24 (R211 stage 2): the multiple of 2^24. -/
def roundAt24 (rnd : Bool) (x : Int) : Int :=
  let y := (x + 2 ^ 23) / 2 ^ 24
  if !rnd && decide (x % 2 ^ 24 = 2 ^ 23) && decide (y % 2 = 1) then y - 1 else y

/-- Moving An whole to a 24-bit place: the value, whether it limits, whether it sets SC (R211). -/
def moveAcc (mr : Q23) (a : Acc) : Q23 × Bool × Bool :=
  let s := field mr.toNat 0 2
  let x := accInt a
  let scaled := if s = 1 then x / 2 else if s = 2 then x * 2 else x
  let y := roundAt24 (mr.getLsbD 3) scaled
  let w := clampI (-(2 ^ 23)) (2 ^ 23 - 1) y
  let big := if s = 1 then decide (w.natAbs ≥ 2 ^ 22) else decide (w.natAbs ≥ 2 ^ 21)
  (BitVec.ofInt 24 w, decide (w ≠ y), big)

/-- SR as it reads. -/
def ERegs.srWord (r : ERegs) : Q23 := BitVec.ofNat 24 (r.sr.toNat % 256 + 256 * r.stack.length)

/-- A register by its 6-bit code as a 24-bit source, with what reading An whole does to VS and SC (R207, R211, 08 R234). -/
def ERegs.read (r : ERegs) (code : Nat) : Q23 × Bool × Bool :=
  let plain (v : Nat) : Q23 × Bool × Bool := (BitVec.ofNat 24 v, false, false)
  if code < 8 then plain (r.data code).toNat
  else if code < 20 then
    let a := (r.acc ((code - 8) / 3)).toNat
    match (code - 8) % 3 with
    | 0 => plain (wrap 24 (signed 8 (field a 48 8)))
    | 1 => plain (field a 24 24)
    | _ => plain (field a 0 24)
  else if code < 28 then plain (r.p.getD (code - 20) 0).toNat
  else if code < 36 then plain (r.b.getD (code - 28) 0).toNat
  else if code < 44 then plain (r.l.getD (code - 36) 0).toNat
  else if code < 52 then plain (wrap 24 (signed 16 (r.m.getD (code - 44) 0).toNat))
  else if code = 52 then plain r.i0.toNat
  else if code = 53 then plain r.i1.toNat
  else if code = 54 then plain r.lc.toNat
  else if code = 55 then plain r.srWord.toNat
  else if code = 56 then plain r.mr.toNat
  else moveAcc r.mr (r.acc (code - 57))

/-- A 24-bit value written to a register (R207). A write to SR leaves LD, and reserved bits of SR and MR stay 0 (08 R234). -/
def ERegs.write (r : ERegs) (code : Nat) (v : Q23) : ERegs :=
  let h : Half := v.setWidth 16
  if code < 8 then r.setData code v
  else if code < 20 then
    { r with a := updAt r.a ((code - 8) / 3) fun a =>
      match (code - 8) % 3 with
      | 0 => replaceBits a 48 8 v.toNat
      | 1 => replaceBits a 24 24 v.toNat
      | _ => replaceBits a 0 24 v.toNat }
  else if code < 28 then r.setPtr (code - 20) h
  else if code < 36 then { r with b := updAt r.b (code - 28) fun _ => h }
  else if code < 44 then { r with l := updAt r.l (code - 36) fun _ => v.setWidth 15 }
  else if code < 52 then { r with m := updAt r.m (code - 44) fun _ => h }
  else if code = 52 then { r with i0 := h }
  else if code = 53 then { r with i1 := h }
  else if code = 54 then { r with lc := h }
  else if code = 55 then { r with sr := v &&& 0xFF }
  else if code = 56 then { r with mr := v &&& 0xFF0F }
  else r.setAcc (code - 57) (wholeAcc v)

/-- The registers as EDY_REG_i reads them: right-aligned, unused upper bits zero (07 EDY_REG_i). -/
def ERegs.debugRead (r : ERegs) (i : Nat) : Word :=
  let v := (r.read i).1.toNat
  if i ≥ 57 then 0
  else if 8 ≤ i ∧ i < 20 ∧ (i - 8) % 3 = 0 then BitVec.ofNat 32 (v % 256)
  else if 44 ≤ i ∧ i < 52 then BitVec.ofNat 32 (v % 65536)
  else BitVec.ofNat 32 v

/-! ## Address arithmetic (R213-R215) -/

/-- The order of the low k bits reversed. -/
def revBits : Nat → Nat → Nat
  | 0, _ => 0
  | k + 1, v => v % 2 * 2 ^ k + revBits k (v / 2)

/-- k for a power of two 2^k from 2 to 16 384. -/
def log2Of (n : Nat) : Option Nat := (List.range 15).find? fun k => decide (1 ≤ k) && 2 ^ k == n

/-- Ln is not legal for an access through Pn (R214, R215). -/
def ERegs.ptrBad (r : ERegs) (n : Nat) : Bool :=
  let l := (r.l.getD n 0).toNat
  if r.mr.getLsbD (8 + n) then (log2Of l).isNone else decide (l > 16384)

/-- next(Pn, m) (R213-R215). -/
def ERegs.next (r : ERegs) (n : Nat) (m : Int) : Half :=
  let p : Int := (r.p.getD n 0).toNat
  let b : Int := (r.b.getD n 0).toNat
  let l := (r.l.getD n 0).toNat
  if r.mr.getLsbD (8 + n) then
    match log2Of l with
    | some k =>
      let o := revBits k ((p - b) % l).toNat + revBits k (m % l).toNat
      BitVec.ofNat 16 (wrap 16 (b + revBits k (o % l)))
    | none => r.p.getD n 0
  else if l = 0 then BitVec.ofNat 16 (wrap 16 (p + m))
  else BitVec.ofNat 16 (wrap 16 (b + (p - b + m) % l))

def ERegs.mod (r : ERegs) (n : Nat) : Int := signed 16 (r.m.getD n 0).toNat

/-- Pn after a parallel or single access in a mode (08 R235). -/
def ERegs.postMod (r : ERegs) (n : Nat) (mode : BitVec 2) : Half :=
  if mode = 0 then r.p.getD n 0 else if mode = 1 then r.next n 1 else if mode = 2 then r.next n (-1) else r.next n (r.mod n)

/-! ## Operations on accumulators (08 R236-R239, R242, R243, R251) -/

/-- The 56-bit source that a 4-bit code names: Dk as a whole write would form it, or Am (R236). -/
def ERegs.src (r : ERegs) (code : Nat) : Int := if code < 8 then signed 24 (r.data code).toNat * 2 ^ 24 else accInt (r.acc (code - 8))

/-- The exact product of two data registers, as Q1.47 (07 R209). -/
def ERegs.prod (r : ERegs) (i j : Nat) : Int := signed 24 (r.data i).toNat * signed 24 (r.data j).toNat * 2

/-- What an arithmetic operation does: new registers, and whether it set V. -/
abbrev Arith := ERegs × Bool

/-- An is written with an exact result; Z N V G H follow, and C as given (R210). -/
def putResult (r : ERegs) (n : Nat) (x : Int) (c : Bool) : Arith :=
  let y := narrow r.sat x
  ((r.setAcc n y.1).setFlags { resultFlags r.flags y.1 with c := c, v := y.2 } y.2 false false, y.2)

/-- As `putResult`, but An stays: a compare. -/
def cmpResult (r : ERegs) (x : Int) (c : Bool) : Arith :=
  let y := narrow r.sat x
  (r.setFlags { resultFlags r.flags y.1 with c := c, v := y.2 } y.2 false false, y.2)

/-- One of the two units of dmpy and dmac (R237): operand pairs by selection, for units 0 and 1. -/
def dualPair : Nat → (Nat × Nat) × (Nat × Nat)
  | 0 => ((0, 4), (1, 5))
  | 1 => ((2, 6), (3, 7))
  | 2 => ((0, 4), (0, 5))
  | 3 => ((0, 4), (1, 4))
  | 4 => ((0, 5), (1, 4))
  | 5 => ((2, 6), (2, 7))
  | 6 => ((2, 6), (3, 6))
  | _ => ((2, 7), (3, 6))

/-- dmpy, and with `add` dmac (R237). -/
def dual (r : ERegs) (add pair : Bool) (sel : Nat) (neg0 neg1 : Bool) : Arith :=
  let lo := if pair then 2 else 0
  let pr := dualPair sel
  let sg (neg : Bool) (x : Int) : Int := if neg then -x else x
  let p0 := sg neg0 (r.prod pr.1.1 pr.1.2)
  let p1 := sg neg1 (r.prod pr.2.1 pr.2.2)
  let a0 := if add then accInt (r.acc lo) else 0
  let a1 := if add then accInt (r.acc (lo + 1)) else 0
  let y0 := narrow r.sat (a0 + p0)
  let y1 := narrow r.sat (a1 + p1)
  let v := y0.2 || y1.2
  let c := add && (if neg0 then borrowSub a0 (-p0) else carryAdd a0 p0)
  (((r.setAcc lo y0.1).setAcc (lo + 1) y1.1).setFlags { resultFlags r.flags y0.1 with c := c, v := v } v false false, v)

/-- shl: C is the last bit shifted out, V is set when bit 55 changes on the way (R236). -/
def shiftLeft (r : ERegs) (n count : Nat) : Arith :=
  let x := accInt (r.acc n)
  let c := decide (count ≠ 0) && (r.acc n).getLsbD (56 - count)
  let exact := x * 2 ^ count
  let outside := decide (exact > 2 ^ 55 - 1) || decide (exact < -(2 ^ 55))
  let y := narrow r.sat exact
  let v := if r.sat then y.2 else outside
  ((r.setAcc n y.1).setFlags { resultFlags r.flags y.1 with c := c, v := v } v false false, v)

/-- shr, arithmetic (R236). -/
def shiftRight (r : ERegs) (n count : Nat) : Arith :=
  let a := toAcc (accInt (r.acc n) / 2 ^ count)
  let c := decide (count ≠ 0) && (r.acc n).getLsbD (count - 1)
  ((r.setAcc n a).setFlags { resultFlags r.flags a with c := c, v := false } false false false, false)

/-- A logical operation on the main word (R236). -/
def logical (r : ERegs) (n : Nat) (f : Q23 → Q23) : Arith :=
  let w := f ((r.acc n).extractLsb' 24 24)
  let r' := r.setAcc n (replaceBits (r.acc n) 24 24 w.toNat)
  (r'.setFlags { r.flags with z := w == 0, n := w.getLsbD 23 } false false false, false)

/-- maxi, and with `minimum` mini: An and Ij take a strictly better value and its index (R239). -/
def extreme (r : ERegs) (minimum : Bool) (n k : Nat) (j : Bool) (index : Half) : Arith :=
  let x := r.src k
  let a := accInt (r.acc n)
  if (if minimum then decide (x < a) else decide (x > a)) then
    let r := r.setAcc n (toAcc x)
    (if j then { r with i1 := index } else { r with i0 := index }, false)
  else (r, false)

/-- The shift that brings a value to normal form, searched from the largest left shift down (R243). -/
def normCount (x : Int) : Nat → Nat
  | 0 => 0
  | k + 1 => if (x * 2 ^ (k + 1)) ≤ qMax ∧ qMin ≤ x * 2 ^ (k + 1) then k + 1 else normCount x k

/-- The right shift that brings a value into the Q1.47 range. -/
def normRight (x : Int) : Nat → Nat → Nat
  | 0, k => k
  | fuel + 1, k => if x / 2 ^ k ≤ qMax ∧ qMin ≤ x / 2 ^ k then k else normRight x fuel (k + 1)

/-- norm (R243). -/
def normalForm (r : ERegs) (n k : Nat) : Arith :=
  let x := accInt (r.acc n)
  let right := normRight x 8 0
  let left := if right = 0 ∧ x ≠ 0 then normCount x 47 else 0
  let a := if right > 0 then toAcc (x / 2 ^ right) else toAcc (x * 2 ^ left)
  let cnt : Int := if right > 0 then -(right : Int) else left
  ((((r.setAcc n a).setData k (BitVec.ofInt 24 cnt))).setFlags { resultFlags r.flags a with v := false } false false false, false)

/-! ## Conditions and loops (08 R244-R248) -/

/-- Whether a condition holds (R248). -/
def ERegs.holds (r : ERegs) (cond : Nat) : Bool :=
  let f := r.flags
  match cond with
  | 0 => true
  | 1 => f.z
  | 2 => !f.z
  | 3 => f.n
  | 4 => !f.n
  | 5 => f.n != f.v
  | 6 => f.n == f.v
  | 7 => f.z || f.n != f.v
  | 8 => !f.z && f.n == f.v
  | 9 => f.c
  | 10 => !f.c
  | 11 => f.v
  | 12 => !f.v
  | 13 => f.g
  | 14 => !f.g
  | _ => false

/-- A loop is pushed; the enclosing loop's count is saved (R245). -/
def ERegs.pushLoop (r : ERegs) (start last : BitVec 14) (n : Half) : ERegs :=
  let saved := match r.stack with | (s, e, _) :: t => (s, e, r.lc) :: t | [] => []
  { r with stack := (start, last, n) :: saved, lc := n }

/-- The innermost loop is popped (R246). -/
def ERegs.popLoop (r : ERegs) : ERegs :=
  match r.stack with
  | _ :: (s, e, n) :: t => { r with stack := (s, e, n) :: t, lc := n }
  | _ => { r with stack := [], lc := 0 }

/-- The address after an instruction at `pc` that does not jump, with the loop ends evaluated there (R246). -/
def ERegs.loopEnd (r : ERegs) (pc : Nat) : Nat → ERegs × Nat
  | 0 => (r, pc + 1)
  | fuel + 1 =>
    match r.stack with
    | (s, e, _) :: _ =>
      if pc ≠ e.toNat then (r, pc + 1)
      else if r.lc.toNat > 1 then ({ r with lc := r.lc - 1 }, s.toNat)
      else r.popLoop.loopEnd pc fuel
    | [] => (r, pc + 1)

end Sys2Proof.Machine
end

