-- ==== Sys2Proof/Machine/EddyDecode.lean ====
section
/-! DEFINITION. Eddy instruction words: the formats of 08, and which instructions are illegal (08 R233-R251). -/
namespace Sys2Proof.Machine

/-! ## Legality (08 R233, R238; 07 R208) -/

/-- A register code that names a register (08 R234). -/
def okReg (r : BitVec 6) : Bool := decide (r.toNat ≤ 60)

/-- A read move's register, where the move is a read. -/
def PMove.dest (m : Option PMove) : Option (BitVec 4) := match m with | some x => if x.write then none else some x.reg | none => none

/-- Moves name existing registers (codes 0 to 11) and no destination twice; `accs` are accumulators the arithmetic writes, `d` a
data register. -/
def movesOk (accs : List Nat) (mv : PMoves) : Bool :=
  let regOk (m : Option PMove) : Bool := match m with | some x => decide (x.reg.toNat < 12) | none => true
  let free (r : Option (BitVec 4)) : Bool := match r with | some x => !(accs.map (· + 8)).contains x.toNat | none => true
  let dx := PMove.dest mv.x
  let dy := PMove.dest mv.y
  regOk mv.x && regOk mv.y && free dx && free dy && (dx.isNone || dx != dy)

/-- A 4-bit source code names a register. -/
def okSrc (r : BitVec 4) : Bool := decide (r.toNat < 12)

/-- A pointer operand of a single move: with IDX the mode is 0 (08 R240). -/
def okPtr (a : PtrRef) : Bool := !a.idx || a.mode == 0

/-- An instruction that stops its task with ILLEGAL whatever the state (08 R233, R238). -/
def EIns.legal : EIns → Bool
  | .nop mv => movesOk [] mv
  | .mpy n _ _ mv | .mac n _ _ mv | .msu n _ _ mv => movesOk [n.val] mv
  | .dmpy p _ _ _ mv | .dmac p _ _ _ mv => movesOk (if p then [2, 3] else [0, 1]) mv
  | .add n s mv | .sub n s mv | .cpy n s mv => okSrc s && movesOk [n.val] mv
  | .cmp _ s mv => okSrc s && movesOk [] mv
  | .zero n mv | .neg n mv | .abs n mv | .round n mv | .lim n mv => movesOk [n.val] mv
  | .shl n _ mv | .shr n _ mv => movesOk [n.val] mv
  | .and n _ mv | .or n _ mv | .xor n _ mv => movesOk [n.val] mv
  | .maxi n _ _ _ mv | .mini n _ _ _ mv => movesOk [n.val] mv
  | .ldp a r | .stp a r => okPtr a && okReg r
  | .mov rd rs => okReg rd && okReg rs
  | .lda _ r _ | .sta _ r _ => okReg r
  | .ldi r _ | .ldis r _ => okReg r
  | .ldif r _ => decide (r.toNat < 8) || (decide (57 ≤ r.toNat) && decide (r.toNat ≤ 60))
  | .loopr r _ => okReg r
  | .gotoc c _ => c != 15
  | .waitcy e => decide (e.toNat < 6)
  | .post r _ _ _ => okReg r
  | .illegal => false
  | _ => true

/-! ## Words (08 R235-R251) -/

/-- A move of a PA word, from its eight control bits and its register field; `none` when absent, and not legal when an absent move's
field is not zero. -/
def decodeMove (w : Nat) (at_ : Nat) : Option (Option PMove) :=
  let v := field w at_ 10
  if field v 9 1 = 1 then
    some (some { write := field v 8 1 == 1, ptr := Fin.ofNat 4 (field v 6 2), mode := BitVec.ofNat 2 (field v 4 2), reg := BitVec.ofNat 4 (field v 0 4) })
  else if v = 0 then some none
  else none

/-- The moves of a PA word; in the .p forms XPTR stands whether XP is 1 or 0. -/
def decodeMoves (byPtr : Bool) (w : Nat) : Option PMoves :=
  let x := field w 10 10
  let wx := if byPtr ∧ field x 9 1 = 0 then w - field w 16 2 * 2 ^ 16 else w
  match decodeMove wx 10, decodeMove w 0 with
  | some mx, some my => some { x := mx, y := my, xptr := Fin.ofNat 4 (field w 16 2) }
  | _, _ => none

/-- A PA word (R235-R239). -/
def decodePA (w : Nat) : EIns :=
  let op := field w 26 5
  let o (lo n : Nat) : Nat := field w (20 + lo) n
  let n := Fin.ofNat 4 (o 4 2)
  let k := Fin.ofNat 8 (o 1 3)
  match decodeMoves (op == 21 || op == 23) w with
  | none => .illegal
  | some mv =>
    let need (c : Bool) (i : EIns) : EIns := if c then i else .illegal
    let src : BitVec 4 := BitVec.ofNat 4 (o 0 4)
    let i := Fin.ofNat 4 (o 2 2)
    let j := Fin.ofNat 4 (o 0 2)
    match op with
    | 0 => need (o 0 6 == 0) (.nop mv)
    | 1 => .mpy n i j mv
    | 2 => .mac n i j mv
    | 3 => .msu n i j mv
    | 4 => .dmpy (o 5 1 == 1) (BitVec.ofNat 3 (o 2 3)) (o 1 1 == 1) (o 0 1 == 1) mv
    | 5 => .dmac (o 5 1 == 1) (BitVec.ofNat 3 (o 2 3)) (o 1 1 == 1) (o 0 1 == 1) mv
    | 6 => .add n src mv
    | 7 => .sub n src mv
    | 8 => .cmp n src mv
    | 9 => .cpy n src mv
    | 10 => need (o 0 4 == 0) (.zero n mv)
    | 11 => need (o 0 4 == 0) (.neg n mv)
    | 12 => need (o 0 4 == 0) (.abs n mv)
    | 13 => need (o 0 4 == 0) (.round n mv)
    | 14 => need (o 0 4 == 0) (.lim n mv)
    | 15 => .shl n (Fin.ofNat 16 (o 0 4)) mv
    | 16 => .shr n (Fin.ofNat 16 (o 0 4)) mv
    | 17 => need (o 0 1 == 0) (.and n k mv)
    | 18 => need (o 0 1 == 0) (.or n k mv)
    | 19 => need (o 0 1 == 0) (.xor n k mv)
    | 20 => .maxi n k (o 0 1 == 1) false mv
    | 21 => .maxi n k (o 0 1 == 1) true mv
    | 22 => .mini n k (o 0 1 == 1) false mv
    | 23 => .mini n k (o 0 1 == 1) true mv
    | _ => .illegal

/-- An MV word (R240). -/
def decodeMV (w : Nat) : EIns :=
  let need (c : Bool) (i : EIns) : EIns := if c then i else .illegal
  let y := field w 23 1 == 1
  let a : PtrRef := { spaceY := y, ptr := Fin.ofNat 8 (field w 20 3), mode := BitVec.ofNat 2 (field w 18 2), idx := field w 17 1 == 1 }
  match field w 24 4 with
  | 0 => need (field w 0 11 == 0) (.ldp a (BitVec.ofNat 6 (field w 11 6)))
  | 1 => need (field w 0 11 == 0) (.stp a (BitVec.ofNat 6 (field w 11 6)))
  | 2 => need (field w 0 5 == 0 && field w 17 7 == 0) (.mov (BitVec.ofNat 6 (field w 11 6)) (BitVec.ofNat 6 (field w 5 6)))
  | 3 => need (field w 16 1 == 0) (.lda y (BitVec.ofNat 6 (field w 17 6)) (BitVec.ofNat 16 w))
  | 4 => need (field w 16 1 == 0) (.sta y (BitVec.ofNat 6 (field w 17 6)) (BitVec.ofNat 16 w))
  | _ => .illegal

/-- An AI word (R242). -/
def decodeAI (w : Nat) : EIns :=
  let need (c : Bool) (i : EIns) : EIns := if c then i else .illegal
  let n := Fin.ofNat 4 (field w 22 2)
  let k := Fin.ofNat 8 (field w 16 3)
  let v : Half := BitVec.ofNat 16 w
  let r : BitVec 6 := BitVec.ofNat 6 (field w 16 6)
  match field w 24 4 with
  | 0 => need (field w 16 6 == 0) (.addi n v)
  | 1 => need (field w 16 6 == 0) (.cmpi n v)
  | 2 => need (field w 22 2 == 0) (.ldis r v)
  | 3 => need (field w 22 2 == 0) (.ldif r v)
  | 4 => need (field w 19 5 == 0) (.padd k v)
  | 5 => need (field w 19 5 == 0 && field w 0 16 == 0) (.pmod k)
  | 6 => need (field w 19 5 == 0) (.andi k v)
  | 7 => need (field w 19 5 == 0) (.ori k v)
  | 8 => need (field w 19 3 == 0 && field w 0 16 == 0) (.norm n k)
  | _ => .illegal

/-- A CTL word (R244). -/
def decodeCTL (w : Nat) : EIns :=
  let need (c : Bool) (i : EIns) : EIns := if c then i else .illegal
  let addr : BitVec 14 := BitVec.ofNat 14 w
  match field w 24 4 with
  | 0 => .loop (BitVec.ofNat 10 (field w 14 10)) addr
  | 1 => need (field w 22 2 == 0 && field w 14 2 == 0) (.loopr (BitVec.ofNat 6 (field w 16 6)) addr)
  | 2 => need (field w 0 24 == 0) .lexit
  | 3 => need (field w 14 10 == 0) (.goto addr)
  | 4 => need (field w 20 4 == 0 && field w 14 2 == 0) (.gotoc (BitVec.ofNat 4 (field w 16 4)) addr)
  | 5 => need (field w 19 5 == 0 && field w 14 2 == 0) (.link addr (Fin.ofNat 8 (field w 16 3)))
  | 6 => need (field w 19 5 == 0 && field w 0 16 == 0) (.ret (Fin.ofNat 8 (field w 16 3)))
  | _ => .illegal

/-- A SYS word (R250, R251). -/
def decodeSYS (w : Nat) : EIns :=
  let need (c : Bool) (i : EIns) : EIns := if c then i else .illegal
  let sem := Fin.ofNat 64 (field w 0 6)
  let v (minimum : Bool) : EIns :=
    need (field w 14 3 == 0) (.vext minimum (Fin.ofNat 4 (field w 22 2)) (field w 21 1 == 1) (Fin.ofNat 8 (field w 18 3)) (field w 17 1 == 1)
      (BitVec.ofNat 14 w))
  match field w 24 4 with
  | 0 => need (field w 0 24 == 0) .done
  | 1 => need (field w 3 21 == 0) (.waitcy (BitVec.ofNat 3 w))
  | 2 => need (field w 22 2 == 0 && field w 0 10 == 0)
      (.post (BitVec.ofNat 6 (field w 16 6)) (BitVec.ofNat 2 (field w 14 2)) (field w 13 1 == 1) (BitVec.ofNat 3 (field w 10 3)))
  | 3 => need (field w 18 6 == 0 && field w 6 11 == 0)
      (match field w 16 2 with | 0 => .semAcquire sem | 1 => .semTry sem | 2 => .semRelease sem | _ => .illegal)
  | 4 => v false
  | 5 => v true
  | _ => .illegal

/-- An instruction word; one that the encodings do not allow is `illegal` (R233). -/
def decodeIns (word : Word) : EIns :=
  let w := word.toNat
  let f := field w 28 4
  let i := if f < 8 then decodePA w
    else if f = 8 then decodeMV w
    else if f = 9 then decodeAI w
    else if f = 10 then decodeCTL w
    else if f = 11 then decodeSYS w
    else .ldi (BitVec.ofNat 6 (field w 24 6)) (BitVec.ofNat 24 w)
  if i.legal then i else .illegal

end Sys2Proof.Machine
end

