-- ==== Sys2Proof/Machine/AxisOps.lean ====
section
/-! DEFINITION. Shared operations on an axis: its parameter set in force, its profile generator, fault causes and
actions, and state transitions (03 R89-R101, 04 R106, R123, 10 R280-R288). -/
namespace Sys2Proof.Machine

/-! ## Parameters in force (04 R106) -/

/-- The active set. -/
def Axis.set (a : Axis) : Cells 32 := if a.hdr.activeSet then a.setB else a.setA

/-- A word of the active set. -/
def Axis.par (a : Axis) (off : Nat) : Nat := (cellGet a.set off).toNat

/-- A signed 16-bit parameter, at an even byte offset. -/
def Axis.parH (a : Axis) (off : Nat) : Int := signed 16 (field (a.par (off / 4 * 4)) (8 * (off % 4)) 16)

/-! ## Codes (03 R71, R97; 10 PRF_STATUS) -/

def AState.code : AState → Nat
  | .disabled => 0
  | .ready => 1
  | .enabled => 2
  | .stopping => 3
  | .fault => 4

def Mode.code : Mode → Nat
  | .c => 0
  | .t => 1
  | .v => 2
  | .p => 3

def Drive.code : Drive → Nat
  | .off => 0
  | .run => 1
  | .short => 2

def GState.code : GState → Nat
  | .idle => 0
  | .move => 1
  | .velocity => 2
  | .gear => 3
  | .cam => 4
  | .homing => 5
  | .ramp => 6

/-! ## The axis coordinate (R280) -/

/-- A count continued from EXT_POS (04 R119). -/
def Axis.extend (a : Axis) (p : Word) : Int :=
  if a.extValid then a.extPos + signed 32 (wrap 32 ((p.toNat : Int) - a.extPos)) else signed 32 p.toNat

/-- A count in the axis coordinate. -/
def Axis.coord (a : Axis) (p : Word) : Int := a.extend p + a.prof.origin

/-- X of the latest sample. -/
def Axis.xNow (a : Axis) : Int := a.extPos + a.prof.origin

/-- The reference count and fraction of a position (R280). -/
def Axis.refCount (a : Axis) (x : Int) : Word := BitVec.ofNat 32 (wrap 32 (x / oneCount - a.prof.origin))
def refFrac (x : Int) : Half := BitVec.ofNat 16 (wrap 40 x / 2 ^ 24)

/-- v_ref and a_ref of a motion (R280). -/
def Axis.vRef (a : Axis) (v : Int) : Half := BitVec.ofNat 16 (wrap 16 (clampI (-32768) 32767 (nearest v (a.hdr.spdFs * 512))))
def Axis.aRef (a : Axis) (acc : Int) : Half := BitVec.ofNat 16 (wrap 16 (clampI (-32768) 32767 (nearest acc (a.hdr.accFs * 2))))

/-! ## The generator -/

def Prof.motion (p : Prof) : Motion := { x := p.x, v := p.v, a := p.a }
def Prof.setMotion (p : Prof) (m : Motion) : Prof := { p with x := m.x, v := m.v, a := m.a }
/-- The jerk limit in force, when the last MOVE was jerk-limited. -/
def Prof.jerkOpt (p : Prof) : Option Nat := if p.jerkLim then some (jerkUnit p.jerk) else none

/-- The limits in force, with a deceleration. -/
def Prof.lims (p : Prof) (dec : Nat) : PlanLims :=
  { vel := (velUnit p.vmax).toNat, acc := accUnit p.accl, dec := accUnit dec, jerk := p.jerkOpt }

/-- The generator at rest, with a result to report when its last reference is in use (R299). -/
def Prof.finished (p : Prof) (result : Nat) : Prof :=
  { p with
    v := 0, a := 0, plan := [], state := .idle, final := some (result, p.state), returning := false, retTarget := none
    retOver := false, seg := 0 }

/-- A plan to a target begins from the present motion (R283, R285). -/
def Prof.planMove (p : Prof) (target : Int) (dec : Nat) : Prof :=
  let o := planTo p.x p.v p.a target (p.lims dec)
  let p := { p with
    state := .move, target := target, plan := o.segs, planDec := dec, returning := false
    retTarget := if o.restFirst then some target else none, retOver := o.passes }
  if o.segs.isEmpty then (if o.restFirst then p else { p with x := target }.finished 0) else p

/-- Cycles from the present motion to the end of a plan that was just begun (log entry 96). -/
def Prof.cyclesLeft (p : Prof) : Nat :=
  match p.state, p.retTarget with
  | .move, some t => (planTo p.x p.v p.a t (p.lims p.planDec)).cycles t (p.lims p.planDec)
  | _, _ => planLen p.plan

/-- The present reference is in the deceleration side of a position move. -/
def Prof.decelerating (p : Prof) : Bool :=
  p.state == .move && p.retTarget.isNone && decide (5 ≤ p.seg) && !p.plan.isEmpty && p.plan.all fun q => decide (5 ≤ q.id)

/-- A MOVE changes nothing of the move in progress but its deceleration. -/
def Prof.onlyDec (p : Prof) (m : MovePar) (target : Int) : Bool :=
  decide (target = p.target) && m.acc == p.accl && m.velocity.toNat == p.vmax && (m.profile == 0) == p.jerkLim
    && (m.profile != 0 || m.jerk == p.jerk)

/-- A MOVE is committed (R284, R285). The flag says that the plan passes its target. -/
def Prof.applyMove (p : Prof) (m : MovePar) : Prof × Bool :=
  let inDecel := p.decelerating
  let base := if m.relative then (if p.state = .move then p.target else p.x) else 0
  let target := base + m.target
  let latched := p.decelLatch && inDecel && m.dec != p.planDec
  if m.profile = 2 then
    let vt := velUnit m.velocity
    let dec := m.dec
    let q := { p with
      state := .velocity, accl := m.acc, dec := dec, vmax := m.velocity.natAbs, jerkLim := false, jerk := m.jerk
      vCmd := vt, vDone := false, returning := false, retTarget := none, retOver := false, planDec := dec
      plan := rampVel p.v vt (accUnit m.acc) (accUnit dec) }
    (q, false)
  else if latched && p.onlyDec m target then ({ p with dec := m.dec }, false)
  else
    let q := { p with accl := m.acc, dec := m.dec, vmax := m.velocity.toNat, jerkLim := m.profile == 0, jerk := m.jerk }
    let r := q.planMove target (if latched then p.planDec else m.dec)
    (r, r.retOver)

/-- A ramp stop begins from the present motion (R286). -/
def Prof.beginRamp (p : Prof) (dec : Nat) : Prof :=
  let p := { p with state := .ramp, final := none, planDec := dec, returning := false, retTarget := none, retOver := false }
  let segs := rampStop p.v p.a (accUnit dec) p.jerkOpt
  if segs.isEmpty then p.finished 1 else { p with plan := segs }

/-- A STOP that leaves the ramp of the present move as it is: the ramp ends at the target, as a ramp stop (R285). -/
def Prof.holdRamp (p : Prof) : Prof := { p with state := .ramp, retTarget := some p.target }

/-- What the generator does when a plan has run out (R282, R284, R285, R286). -/
def Prof.planDone (p : Prof) : Prof :=
  match p.state with
  | .move =>
    match p.retTarget with
    | some t =>
      let passes := p.retOver
      let q := { p with v := 0, a := 0 }.planMove t p.planDec
      { q with retOver := passes && q.state == .move }
    | none => { p with x := p.target }.finished 0
  | .velocity => { p with v := p.vCmd, a := 0, seg := 4, vDone := true, final := some (2, .velocity) }
  | .ramp => { p with x := p.retTarget.getD p.x }.finished 1
  | .homing => { p with v := p.vCmd, a := 0, seg := if p.vCmd = 0 then 0 else 4 }
  | _ => { p with v := 0, a := 0 }

/-- One step of a plan: the reference of the next cycle (R281, R282). -/
def Prof.advance (p : Prof) : Prof :=
  let p := { p with px := p.x, pv := p.v, pa := p.a }
  match p.plan with
  | [] =>
    match p.state with
    | .velocity => { p with
        x := p.x + p.v, a := 0, seg := 4, vDone := true, final := if p.vDone then p.final else some (2, .velocity) }
    | .homing => { p with x := p.x + p.v, a := 0, seg := if p.v = 0 then 0 else 4 }
    | _ => { p with v := 0, a := 0, seg := 0 }
  | q :: _ =>
    let p := { p.setMotion (q.step p.motion) with
      plan := planRest p.plan, seg := q.id
      returning := p.returning || (p.state == GState.move && p.retTarget.isNone && p.retOver) }
    if p.plan.isEmpty then p.planDone else p

/-- PRF_STATUS.SEGMENT (R446). -/
def Prof.segment (p : Prof) : Nat :=
  match p.state with
  | .idle | .gear | .cam => 0
  | _ => p.seg

/-! ## Fault causes and actions (03 R89-R95) -/

/-- The action carried out for a cause, from FAULT_ACTION (R91). -/
def actionFor (code faultAction : Nat) : Nat :=
  if code = 3 ∨ code = 6 then (if faultAction = 4 then 4 else 2) else faultAction

/-- The drive command of a state (R89, R97). -/
def driveOf (st : AState) (action : Option Nat) : Drive :=
  match st with
  | .enabled | .stopping => .run
  | .fault => if action = some 3 then .run else if action = some 4 then .short else .off
  | _ => .off

/-- The loop memory with integrators and filter histories zero (R97). -/
def Loop.cleared (l : Loop) : Loop :=
  { l with
    iP := 0, iS := 0, iD := 0, iQ := 0, iC := [0, 0, 0]
    bq := l.bq.map fun b => { b with x1 := 0, x2 := 0, y1 := 0, y2 := 0 } }

/-- The microstep position at an instant (11 R335): from the last step on at the mean of the last two intervals, short of the next
step; at rest after a change of direction until two steps have been taken. -/
def StepIn.micro (x : StepIn) (log2 ns : Nat) : Int :=
  let m := 2 ^ log2
  match x.t with
  | t0 :: _ :: t2 :: _ =>
    if x.stopped || decide (x.same < 2) || decide (t0 ≤ t2) then x.sn
    else
      let adv : Int := (min (2 * m * (ns - t0) / (t0 - t2)) (m - 1) : Nat)
      if x.dirNeg then x.sn - adv else x.sn + adv
  | _ => x.sn

namespace State

/-- AXIS_STATE (R101). -/
def eventAxisState (s : State) (i : Nat) (new old : AState) (reason : Nat) : State :=
  s.event 0x0101 (tAxis i) ([BitVec.ofNat 8 new.code, BitVec.ofNat 8 old.code] ++ leBytes 2 reason)

/-- A transition of an axis, with its event; nothing happens when the state stays (R98). -/
def setAState (s : State) (i : Nat) (new : AState) (reason : Nat) : State :=
  let old := (s.axis i).state
  if new = old then s
  else
    let clear := match new with | .disabled | .ready => true | _ => false
    (s.modAxis i fun a => { a with
      state := new
      action := match new with | .fault | .stopping => a.action | _ => none
      drive := driveOf new a.action
      rampDue := match new with | .stopping => a.rampDue | _ => false
      loop := if clear then a.loop.cleared else a.loop }).eventAxisState i new old reason

/-- MOVE_DONE (10 R299). -/
def moveDone (s : State) (i result : Nat) (g : GState) (x : Int) (cycle : Nat) : State :=
  s.event 0x0401 (tAxis i) ([BitVec.ofNat 8 result, BitVec.ofNat 8 g.code, 0, 0] ++ leBytes 8 (wrap 64 (x / oneCount)) ++ leBytes 8 cycle)

/-- The local port an axis is bound to. -/
def localPort (s : State) (i : Nat) : Option Nat :=
  let a := s.axis i
  if a.hdr.bound && a.hdr.binding.getLsbD 31 then some (field a.hdr.binding.toNat 0 4) else none

/-- The node and the axis within it that an axis is bound to. -/
def boundNode (s : State) (i : Nat) : Option (Nat × Nat) :=
  let a := s.axis i
  if a.hdr.bound && !a.hdr.binding.getLsbD 31 then
    some (field a.hdr.binding.toNat 0 10, field a.hdr.binding.toNat 16 4)
  else none

/-- Step pins that an axis drives stop at once, and so does its microstep advance (11 R337). -/
def stopSteps (s : State) (i : Nat) : State :=
  let s := match s.localPort i with
    | some n => s.modLPort n fun p => { p with step := { p.step with
        sn := p.step.micro (field (p.cfg.getD 1 0).toNat 16 4) s.now, stopped := true } }
    | none => s
  { s with ports := s.ports.map fun p =>
      let w := (p.emu.cfg.getD 0 0).toNat
      if p.emu.en && field w 1 2 == 3 && field w 8 8 == i then { p with emu := { p.emu with path := none, halted := true } } else p }

/-- MOVE_DONE of a profile whose final reference is in use (R299). -/
def reportDone (s : State) (i : Nat) : State :=
  let p := (s.axis i).prof
  match p.final with
  | some (r, g) => (s.modAxis i fun a => { a with prof := { a.prof with final := none } }).moveDone i r g p.x p.refCycle
  | none => s

/-- The generator ends at once (10 R286, R299). -/
def endMotion (s : State) (i : Nat) : State :=
  let s := s.reportDone i
  let p := (s.axis i).prof
  let s := s.modAxis i fun a => { a with
    hdr := { a.hdr with refSrc := false }
    prof := { a.prof.finished 5 with final := none, pendMove := none, pendGear := none } }
  if p.state = .idle then s else s.moveDone i 5 p.state p.x p.refCycle

/-- The motion a ramp starts from: that of the generator, or from a cam the REF values in use (10 R286). -/
def rampSource (a : Axis) : Prof :=
  if a.prof.state = .cam then
    let x := a.coord a.use.pRef * oneCount + (a.use.pFrac.toNat : Int) * 2 ^ 24
    { a.prof with
      x := x, v := signed 16 a.use.vRef.toNat * (a.hdr.spdFs * 512 : Nat), a := signed 16 a.use.aRef.toNat * (a.hdr.accFs * 2 : Nat)
      px := x, pv := signed 16 a.use.vRef.toNat * (a.hdr.spdFs * 512 : Nat), pa := signed 16 a.use.aRef.toNat * (a.hdr.accFs * 2 : Nat) }
  else a.prof

/-- The values of a motion taken in place of a REF entry. -/
def useMotion (a : Axis) (m : Motion) : InUse :=
  { a.use with pRef := a.refCount m.x, pFrac := refFrac m.x, vRef := a.vRef m.v, aRef := a.aRef m.a }

/-- A ramp stop of the generator begins. In a computation its first step is evaluated at once from the motion of cycle k - 1
and replaces the REF values taken for cycle k (10 R286). -/
def startRamp (s : State) (i : Nat) (dec : Nat) (inComp : Bool) : State :=
  let k := s.k
  (if inComp then s else s.reportDone i).modAxis i fun a =>
    let p := rampSource a
    if inComp then
      let p := { p with x := p.px, v := p.pv, a := p.pa }.beginRamp dec
      let p := { p with endCycle := k - 1 + p.cyclesLeft }.advance
      { a with prof := p, use := useMotion a p.motion, hdr := { a.hdr with refSrc := false } }
    else
      let p := p.beginRamp dec
      { a with prof := { p with endCycle := k + p.cyclesLeft }, hdr := { a.hdr with refSrc := false } }

/-- A fault action is carried out (03 R89, R93, R98). The ramp of a cause that D_X finds in a cycle without computation begins with
the next computation. -/
def takeAction (s : State) (i code action : Nat) (inComp : Bool) : State :=
  let st := (s.axis i).state
  if action = 0 then s
  else
    let s := s.modAxis i fun a => { a with action := some action, missAgain := 0, stopToDisabled := false }
    let s := s.stopSteps i
    if action = 1 then
      if st = .enabled then
        let s := if code = 2 then s.modAxis i fun a => { a with rampDue := true } else s.startRamp i (s.axis i).prof.dec inComp
        (s.modAxis i fun a => { a with stopCycles := 0, still := 0 }).setAState i .stopping (0x8000 + code)
      else s.setAState i .fault (0x8000 + code)
    else
      let s := s.endMotion i
      let s := if action = 3 then
          s.modAxis i fun a => { a with
            holdPos := a.live.pFb
            prof := { a.prof with x := a.coord a.live.pFb * oneCount, v := 0, a := 0 } }
        else s
      (s.setAState i .fault (0x8000 + code)).modAxis i fun a => { a with drive := driveOf a.state a.action }

/-- AXIS_FAULT (R101). -/
def eventAxisFault (s : State) (i code action : Nat) : State :=
  let a := s.axis i
  s.event 0x0102 (tAxis i) (leBytes 2 code ++ leBytes 2 a.cnt.causes.toNat
    ++ [BitVec.ofNat 8 action, BitVec.ofNat 8 a.hdr.faultAction, 0, 0]
    ++ leBytes 4 a.live.eInt.toNat ++ leBytes 2 a.cnt.dlMiss.toNat ++ leBytes 2 a.cnt.fbMiss.toNat)

/-- A cause is recorded; the first one freezes the history ring and may trigger acquisition (03 R94, 04 R123, 12 R349). -/
def recordCause (s : State) (i code : Nat) : State :=
  let k := s.k
  let first := (s.axis i).cnt.first = 0
  let s := s.modAxis i fun a => { a with
    live6 := a.live6 ||| BitVec.ofNat 7 (2 ^ code)
    cnt := { a.cnt with
      freezeLeft := if a.cnt.first = 0 ∧ a.cnt.freezeEn = true ∧ a.cnt.frozen = false ∧ a.cnt.freezeLeft.isNone then some (k, none)
        else a.cnt.freezeLeft
      first := if a.cnt.first = 0 then BitVec.ofNat 8 code else a.cnt.first
      causes := a.cnt.causes ||| BitVec.ofNat 7 (2 ^ code) } }
  if first then s.acqFault false i s.sampleFine else s

/-- A fault cause is raised on an axis: recorded, reported, and acted on by the axis's state (03 R89-R95). A cause
whose condition has not cleared since it was raised is not raised again. -/
def faultCause (s : State) (i code : Nat) (inComp : Bool) : State :=
  let a := s.axis i
  if a.state = .disabled || a.live6.getLsbD code then s
  else
    let s := s.recordCause i code
    let act := actionFor code a.hdr.faultAction
    match a.state with
    | .stopping | .fault =>
      let replace := decide (code = 3) && (a.state == .stopping || a.action == some 1 || a.action == some 3)
      let eff := if replace then 2 else a.action.getD act
      let s := s.eventAxisFault i code eff
      if replace then s.takeAction i code 2 inComp else s
    | _ => (s.eventAxisFault i code act).takeAction i code act inComp

/-- A cause's condition has cleared, so the cause may be raised again (03 R95). -/
def causeClear (s : State) (i code : Nat) : State :=
  s.modAxis i fun a => { a with live6 := a.live6 &&& ~~~(BitVec.ofNat 7 (2 ^ code)) }

/-- STOPPING ends, at standstill or after STOP_TIMEOUT (03 R96). -/
def endStopping (s : State) (i reason : Nat) : State :=
  let a := s.axis i
  let dest := if a.stopToDisabled then AState.disabled else .fault
  (if a.prof.state = .idle then s else s.endMotion i).setAState i dest reason

/-- Standstill has lasted 16 computed cycles (03 R96). -/
def standstill (s : State) (i : Nat) : State :=
  let a := s.axis i
  if a.state = .stopping ∧ a.still ≥ 16 then s.endStopping i 0x8100 else s

/-- STOP_TIMEOUT cycles have passed in STOPPING (03 R96). -/
def stopTimeout (s : State) (i : Nat) : State :=
  let a := s.axis i
  if a.state = .stopping ∧ a.hdr.stopTimeout ≠ 0 ∧ a.stopCycles ≥ a.hdr.stopTimeout then
    (s.modAxis i fun a => { a with flags := a.flags ||| flagStopTimeout }).endStopping i 0x8101
  else s

/-- DEADLINE_MISS_RUN has reached MISS_LIMIT (01 R27, R29). -/
def missLimit (s : State) (i : Nat) : State :=
  let a := s.axis i
  if a.hdr.missLimit = 0 then s
  else
    let s := if a.cnt.missRun.toNat ≥ a.hdr.missLimit then s.faultCause i 2 false else s
    let a := s.axis i
    if (a.state = .stopping ∨ a.state = .fault) ∧ (a.action = some 1 ∨ a.action = some 3) ∧ a.missAgain ≥ a.hdr.missLimit then
      s.takeAction i 2 2 false
    else s

/-- FE_TIMER has reached FE_TIME (03 R92). -/
def followingError (s : State) (i : Nat) (inComp : Bool) : State :=
  let a := s.axis i
  let supervised := match a.state with | .enabled | .stopping | .fault => true | _ => false
  if supervised && a.hdr.feLimit != 0 && decide (a.cnt.feTimer.toNat ≥ a.hdr.feTime) && decide (a.cnt.feTimer ≠ 0) then
    s.faultCause i 1 inComp
  else s

end State

end Sys2Proof.Machine
end

