-- ==== Sys2Proof/Machine/Law.lean ====
section
/-! DEFINITION. The arithmetic of the stages: sine table, laws, selector, filters and the current stages (03 R77-R88). -/
namespace Sys2Proof.Machine

/-! ## Sine (03 R83) -/

/-- sin(2 pi i / 1024) in units of 2^-15 for the first quarter, i = 0 to 256, before the limit. -/
def sineQuarter : List Nat :=
  [0, 201, 402, 603, 804, 1005, 1206, 1407, 1608, 1809, 2009, 2210, 2411, 2611, 2811, 3012,
   3212, 3412, 3612, 3812, 4011, 4211, 4410, 4609, 4808, 5007, 5205, 5404, 5602, 5800, 5998, 6195,
   6393, 6590, 6787, 6983, 7180, 7376, 7571, 7767, 7962, 8157, 8351, 8546, 8740, 8933, 9127, 9319,
   9512, 9704, 9896, 10088, 10279, 10469, 10660, 10850, 11039, 11228, 11417, 11605, 11793, 11980, 12167, 12354]
  ++ [12540, 12725, 12910, 13095, 13279, 13463, 13646, 13828, 14010, 14192, 14373, 14553, 14733, 14912, 15091, 15269,
   15447, 15624, 15800, 15976, 16151, 16326, 16500, 16673, 16846, 17018, 17190, 17361, 17531, 17700, 17869, 18037,
   18205, 18372, 18538, 18703, 18868, 19032, 19195, 19358, 19520, 19681, 19841, 20001, 20160, 20318, 20475, 20632,
   20788, 20943, 21097, 21251, 21403, 21555, 21706, 21856, 22006, 22154, 22302, 22449, 22595, 22740, 22884, 23028]
  ++ [23170, 23312, 23453, 23593, 23732, 23870, 24008, 24144, 24279, 24414, 24548, 24680, 24812, 24943, 25073, 25202,
   25330, 25457, 25583, 25708, 25833, 25956, 26078, 26199, 26320, 26439, 26557, 26674, 26791, 26906, 27020, 27133,
   27246, 27357, 27467, 27576, 27684, 27791, 27897, 28002, 28106, 28209, 28311, 28411, 28511, 28610, 28707, 28803,
   28899, 28993, 29086, 29178, 29269, 29359, 29448, 29535, 29622, 29707, 29792, 29875, 29957, 30038, 30118, 30196]
  ++ [30274, 30350, 30425, 30499, 30572, 30644, 30715, 30784, 30853, 30920, 30986, 31050, 31114, 31177, 31238, 31298,
   31357, 31415, 31471, 31527, 31581, 31634, 31686, 31737, 31786, 31834, 31881, 31927, 31972, 32015, 32058, 32099,
   32138, 32177, 32214, 32251, 32286, 32319, 32352, 32383, 32413, 32442, 32470, 32496, 32522, 32546, 32568, 32590,
   32610, 32629, 32647, 32664, 32679, 32693, 32706, 32718, 32729, 32738, 32746, 32753, 32758, 32762, 32766, 32767]
  ++ [32768]

/-- Entry i of the sine table (R83). -/
def sineEntry (i : Nat) : Int :=
  let i := i % 1024
  let q : Nat := if i ≤ 256 then i else if i ≤ 512 then 512 - i else if i ≤ 768 then i - 512 else 1024 - i
  let v : Int := (sineQuarter.getD q 0 : Nat)
  clampI (-32768) 32767 (if i ≤ 512 then v else -v)

/-- sin of a 16-bit angle (R83). -/
def sinA (a : Nat) : Int :=
  let a := a % 65536
  let i := a / 64
  sineEntry i + ((sineEntry (i + 1) - sineEntry i) * (a % 64 : Nat) + 32) / 64

/-- cos of a 16-bit angle (R83). -/
def cosA (a : Nat) : Int := sinA (a + 0x4000)

/-! ## A computation under way -/

/-- The feedback of a cycle as IN reads it: raw values of the payload, and a local port's microstep position (R82, 05 R137). -/
structure Fb where
  p : Word
  iU : Int := 0
  iV : Int := 0
  vDc : Int := 0
  status : Half := 0
  micro : Int := 0
  deriving DecidableEq, Repr

/-- What a computation carries from stage to stage. -/
structure Work where
  loop : Loop
  h : Hist
  fl : BitVec 20 := 0
  /-- speed estimate, errors of the present cycle -/
  v : Int := 0
  eS : Int := 0
  eP : Int := 0
  /-- selected demand and winning index -/
  y : Int := 0
  win : Nat := 0
  /-- the demand that XC, BQ and LM pass on -/
  sig : Int := 0
  tauIn : Int := 0
  tauLm : Int := 0
  iq : Int := 0
  /-- candidates and errors of the contenders; one whose measurement is missing has none -/
  us : List (Option Int) := []
  es : List Int := []
  deriving DecidableEq, Repr

/-- A store whose saturation sets SAT. -/
def Work.note (w : Work) (q : Q15) : Work := { w with fl := w.fl ||| flagIf q.sat flagSat }

/-! ## IN and SE (R81-R83) -/

/-- The integer position error (R81). -/
def eIntOf (pRef pFb : Word) : Int := signed 32 (wrap 32 ((pRef.toNat : Int) - pFb.toNat))

/-- The scaled position error (R81; its saturation counts for SAT, log entry 23). -/
def ePOf (eInt : Int) (frac : Half) (gain : Nat) : Q15 := sat16 ((eInt * 65536 + frac.toNat) * gain / 2 ^ 32)

/-- COUNTS_PER_REV, of which 0 stands for 2^32 (R83). -/
def countsPerRev (a : Axis) : Nat := if a.par 0x100 = 0 then 2 ^ 32 else a.par 0x100

/-- The position difference of this cycle; none in the first with valid feedback (R82). -/
def deltaP (l : Loop) (p : Word) : Option Int := l.pPrev.map fun q => signed 32 (wrap 32 ((p.toNat : Int) - q.toNat))

/-- p_rev of this cycle (R83). -/
def pRevOf (a : Axis) (p : Word) : Nat :=
  let cpr := countsPerRev a
  match deltaP a.loop p with
  | some d => (((a.loop.pRev : Int) + d) % (cpr : Int)).toNat
  | none => p.toNat % cpr

/-- The electrical angle of a p_rev (R83). -/
def thetaOf (a : Axis) (pRev : Nat) : Nat := (pRev * a.par 0x0F0 / 65536 + field (a.par 0x0F4) 0 16) % 65536

/-- The angle of a step input: MICRO microsteps a quarter turn (11 R335). -/
def thetaStep (micro : Int) (microLog2 : Nat) : Nat := wrap 16 (micro * 2 ^ 14 / 2 ^ microLog2)

/-- The unfiltered speed d (R82; its saturation counts for SAT, log entry 23). -/
def speedD (dp : Int) (spdFs : Nat) : Q15 := sat16 (nearest (dp * 2 ^ 31) spdFs)

/-- SE: v from d (R82). -/
def speedV (kvf v d : Int) : Q15 := store16 (v * 65536 + mulQ15 kvf (d - v))

/-- The angle of this cycle and its change since the last, formed in every cycle in which IN runs (R83, R84). -/
def stageAngle (a : Axis) (r : Recipe) (f : Fb) (microLog2 k : Nat) (w : Work) : Work :=
  let t := if r.stages.contains .cu2 then thetaStep f.micro microLog2 else thetaOf a w.loop.pRev
  let follows := w.loop.thetaCycle.map (· + 1) == some k
  { w with
    loop := { w.loop with
      thetaPrev := BitVec.ofNat 16 t, thetaCycle := some k
      dTheta := if follows then signed 16 (wrap 16 ((t : Int) - w.loop.thetaPrev.toNat)) else w.loop.dTheta }
    h := { w.h with theta := BitVec.ofNat 16 t } }

/-- IN and SE: scaled signals, revolution count and speed. A recipe without SE forms d, and has v = 0 (log entry 26). -/
def stageIn (a : Axis) (r : Recipe) (f : Fb) (k : Nat) : Work :=
  let iu := store16 (mulG16 a.hdr.kinCur.toNat f.iU)
  let iv := store16 (mulG16 a.hdr.kinCur.toNat f.iV)
  let vd := store16 (mulG16 a.hdr.kinVdc.toNat f.vDc)
  let dp := deltaP a.loop f.p
  let kvf := a.parH 0x00C
  let d := match dp with
    | some x => speedD x a.hdr.spdFs
    | none => { v := 0 }
  let v := match r.stages.contains .se, dp with
    | true, some _ => if kvf = 0 then { v := d.v } else speedV kvf a.loop.v d.v
    | _, _ => { v := 0 }
  let w : Work := {
    loop := { a.loop with pPrev := some f.p, pRev := pRevOf a f.p, v := v.v }
    h := { a.live with
      cycle := BitVec.ofNat 64 k, pFb := f.p, iU := half iu.v, iV := half iv.v, vDc := half vd.v
      d := half d.v, v := half v.v }
    v := v.v }
  ((((w.note iu).note iv).note vd).note d).note v

/-- The references in use and the position errors they give (R81). -/
def stageRef (a : Axis) (w : Work) : Work :=
  let e := eIntOf a.use.pRef w.h.pFb
  let ep := ePOf e a.use.pFrac a.hdr.posGain
  { w.note ep with
    eP := ep.v
    h := { w.h with
      pRef := a.use.pRef, pFrac := a.use.pFrac, eP := half ep.v, eInt := BitVec.ofInt 32 e
      vRef := a.use.vRef, aRef := a.use.aRef, r := a.use.r
      refTag := BitVec.ofNat 32 a.use.refTag.toNat, setptTag := BitVec.ofNat 32 a.use.setptTag.toNat } }

/-! ## Contenders and selector (R85-R88) -/

/-- Whether contender j (from 1) is enabled. -/
def ctEnabled (a : Axis) (j : Nat) : Bool := field (a.par 0x020) (3 + j) 1 == 1

/-- Its error sign. -/
def ctSign (a : Axis) (j : Nat) : Int := if field (a.par 0x020) (7 + j) 1 = 1 then -1 else 1

/-- The number of contender loops of a recipe. -/
def ctCount (r : Recipe) : Nat := min 3 (r.stages.count .ct)

/-- Contender j of a measurement: its demand and error (R86). -/
def contender (a : Axis) (j : Nat) (m : Int) : Q15 × Q15 :=
  let e := sat16 (ctSign a j * (ofHalf (a.use.r.getD (j - 1) 0) - m))
  (store16 (mulG16 (a.par (0x024 + 0x10 * j)) e.v + a.loop.iC.getD (j - 1) 0), e)

/-- The contenders compute their demands; one whose measurement is missing is left out and repeats its u (R86, 04 R121). -/
def stageCt (a : Axis) (r : Recipe) (ms : List (Option Int)) (w : Work) : Work :=
  let n := ctCount r
  let rs := (List.range n).map fun i => (ms.getD i none).map (contender a (i + 1))
  { w with
    us := rs.map fun x => x.map fun c => c.1.v
    es := rs.map fun x => match x with | some c => c.2.v | none => 0
    fl := w.fl ||| flagIf (rs.any Option.isNone) flagContenderMiss
      ||| flagIf (rs.any fun x => match x with | some c => c.1.sat || c.2.sat | none => false) flagSat
    h := { w.h with
      m := (List.range 3).map fun i => if n ≤ i then 0 else match ms.getD i none with
        | some m => half m
        | none => a.live.m.getD i 0
      u := (List.range 4).map fun j => if j = 0 ∨ n < j then 0 else match rs.getD (j - 1) none with
        | some c => half c.1.v
        | none => a.live.u.getD j 0 } }

/-- The candidates, with their indices: index 0, and each contender that is enabled and has its measurement; a held axis has
none but index 0 (R85, R86, R89). -/
def candidates (a : Axis) (hold : Bool) (w : Work) : List (Nat × Int) :=
  if hold then []
  else (mapI (fun i u => (i + 1, u)) w.us).filterMap fun x =>
    match x.2 with
    | some u => if ctEnabled a x.1 then some (x.1, u) else none
    | none => none

/-- The least of some candidates under a key; the earlier of equals. -/
def leastBy (key : Int → Int) : Nat × Int → List (Nat × Int) → Nat × Int
  | b, [] => b
  | b, c :: t => leastBy key (if key c.2 < key b.2 then c else b) t

/-- The selected index and demand (R87); index 7 is none. -/
def selectDemand (magmin : Bool) (c : Nat × Int) (t : List (Nat × Int)) : Nat × Int :=
  if !magmin then leastBy id c t
  else if (c :: t).all (fun x => decide (x.2 ≥ 0)) || (c :: t).all (fun x => decide (x.2 ≤ 0)) then
    leastBy (fun x => (x.natAbs : Int)) c t
  else (7, 0)

/-- The selector (R85, R87); without contenders y is the demand of index 0. -/
def stageSl (a : Axis) (hold : Bool) (u0 : Int) (w : Work) : Work :=
  let c := selectDemand (field (a.par 0x020) 0 1 == 1) (0, u0) (candidates a hold w)
  { w with y := c.2, win := c.1, h := { w.h with u := half u0 :: w.h.u.drop 1 } }

/-- Tracking gain of candidate j. -/
def ktGain (a : Axis) (j : Nat) : Int := a.parH (0x024 + 2 * j)

/-- The back-calculation term of candidate j (R88). -/
def trackTerm (a : Axis) (w : Work) (j : Nat) (u : Int) : Int := if w.win = j then 0 else mulQ15 (ktGain a j) (w.y - u)

/-- The contenders' integrators after the selection and the limit (R88). `aw` is the anti-windup term of a winner at the
torque point. -/
def trackContenders (a : Axis) (aw : Int) (w : Work) : Work :=
  { w with loop := { w.loop with iC := mapI (fun i old =>
      match w.us.getD i none with
      | none => old
      | some u =>
        sat31 (satAcc (old + mulI32 (a.par (0x038 + 0x10 * i)) (w.es.getD i 0) + trackTerm a w (i + 1) u
          + (if w.win = i + 1 then aw else 0)))) w.loop.iC } }

/-! ## PE and SP (R82) -/

/-- The recipe has a selector at its selector point. -/
def selects (r : Recipe) : Bool := decide (ctCount r ≠ 0)

/-- PE: the speed demand (R82), or the set-point that stands in for it (R75). -/
def stagePe (a : Axis) (r : Recipe) (w : Work) : Work × Int :=
  if r.stages.contains .pe then
    let u := store16 (mulG16 (a.par 0x000) w.eP + mulG16 (a.par 0x004) (ofHalf a.use.vRef) + w.loop.iP)
    ({ w.note u with h := { w.h with sStar := half u.v } }, u.v)
  else ({ w with h := { w.h with sStar := a.use.spdSp } }, ofHalf a.use.spdSp)

/-- The update of I_p (R82, R88). -/
def trackP (a : Axis) (r : Recipe) (u0 : Int) (w : Work) : Work :=
  if !r.stages.contains .pe then w
  else
    let sel := selects r && !r.selPoint
    let n := sat31 (satAcc (w.loop.iP + mulI32 (a.par 0x008) w.eP + (if sel then trackTerm a w 0 u0 else 0)))
    { w with loop := { w.loop with iP := if sel && a.par 0x008 == 0 then 0 else n } }

/-- SP: the torque demand (R82), or the set-point that stands in for it (R75). -/
def stageSp (a : Axis) (r : Recipe) (sSel : Int) (w : Work) : Work × Int :=
  if r.stages.contains .sp then
    let e := sat16 (sSel - w.v)
    let u := store16 (mulG16 (a.par 0x010) e.v + w.loop.iS + mulG16 (a.par 0x014) (ofHalf a.use.aRef))
    ({ (w.note e).note u with eS := e.v }, u.v)
  else (w, ofHalf a.use.trqSp)

/-- The anti-windup term of LM (R82). -/
def awTerm (a : Axis) (w : Work) : Int := mulQ15 (a.parH 0x01C) (w.tauLm - w.tauIn)

/-- The update of I_s (R82, R88). -/
def trackS (a : Axis) (r : Recipe) (u0 : Int) (w : Work) : Work :=
  if !r.stages.contains .sp then w
  else
    let extra := if selects r && r.selPoint && w.win != 0 then trackTerm a w 0 u0 else awTerm a w
    { w with loop := { w.loop with iS := sat31 (satAcc (w.loop.iS + mulI32 (a.par 0x018) w.eS + extra)) } }

/-! ## XC, BQ and LM (R82) -/

/-- The cross-coupling terms (R82); `xs` are their signals. -/
def stageXc (a : Axis) (xs : List Int) (w : Work) : Work :=
  let sum := (mapI (fun i x => mulG16 (a.par (0x064 + 8 * i)) x) xs).foldl (· + ·) 0
  let st := store16 sum
  let u := store16 (w.sig * 65536 + sum)
  { (w.note st).note u with sig := u.v, h := { w.h with xcSum := half st.v } }

/-- The coefficients of a section in use: the override's, or the active set's (04 R113). -/
def bqCoeffs (a : Axis) (s : Nat) (b : Bq) : Bq :=
  if b.ovr then b
  else { b with
    b0 := half (a.parH (0x080 + 16 * s)), b1 := half (a.parH (0x082 + 16 * s)), b2 := half (a.parH (0x084 + 16 * s))
    a1 := half (a.parH (0x086 + 16 * s)), a2 := half (a.parH (0x088 + 16 * s)) }

/-- One filter section (R82): its output in Q1.31. -/
def bqOut (b : Bq) (x : Int) : Int :=
  sat31 (satAcc (4 * (ofHalf b.b0 * x + ofHalf b.b1 * ofHalf b.x1 + ofHalf b.b2 * ofHalf b.x2)
    - rnd31 (ofHalf b.a1 * signed 32 b.y1.toNat) 45 - rnd31 (ofHalf b.a2 * signed 32 b.y2.toNat) 45))

/-- One section on the demand passed on. -/
def stageBq (a : Axis) (s : Nat) (w : Work) : Work :=
  let b := bqCoeffs a s (w.loop.bq.getD s {})
  let y := bqOut b w.sig
  let q := store16 y
  { w.note q with
    sig := q.v
    loop := { w.loop with bq := updAt w.loop.bq s fun _ => { b with x1 := half w.sig, x2 := b.x1, y1 := word31 y, y2 := b.y1 } } }

/-- The sections of a recipe, in order. -/
def stageBqs (a : Axis) (r : Recipe) (w : Work) : Work :=
  (List.range (min 4 (r.stages.count .bq))).foldl (fun w s => stageBq a s w) w

/-- LM, torque form (R82). -/
def stageLmT (a : Axis) (w : Work) : Work :=
  let t := min (a.parH 0x0C0) (max (-(a.parH 0x0C2)) w.sig)
  let iq := store16 (mulG16 (a.par 0x0C8) t)
  let w := w.note iq
  { w with
    tauIn := w.sig, tauLm := t, iq := iq.v
    fl := w.fl ||| flagIf (decide (t ≠ w.sig)) flagTorqueLimited
    h := { w.h with tauIn := half w.sig, tauLm := half t, iqRef := half iq.v } }

/-- LM, velocity form (R82). -/
def stageLmV (a : Axis) (w : Work) : Work :=
  let s := min (a.parH 0x0C4) (max (-(a.parH 0x0C4)) w.sig)
  { w with sig := s, fl := w.fl ||| flagIf (decide (s ≠ w.sig)) flagSpeedLimited
           h := { w.h with tauIn := 0, tauLm := 0, iqRef := 0 } }

/-! ## The current stages (R83, R84) -/

/-- 1 / sqrt 3 in Q1.15. -/
def invSqrt3 : Int := 0x49E7

/-- The exponent of the reciprocal of R83 step 5: the largest s with 2^s q at most 32768. -/
def recipExp (q : Nat) : Nat → Nat
  | 0 => 0
  | s + 1 => if 2 ^ (s + 1) * q ≤ 32768 then s + 1 else recipExp q s

/-- Mantissa and exponent of the reciprocal (R83 step 5). -/
def recip (q : Nat) : Nat × Nat :=
  let s := recipExp q 15
  let m := (2 * (2 ^ (15 - s) * 32768) + q) / (2 * q)
  if m = 0x10000 then (0x8000, s + 1) else (m, s)

/-- A value times the reciprocal, rounded and held in Q1.15 (R83 step 5). -/
def normalise (m : Nat × Nat) (u : Int) : Q15 := sat16 (roundShr (u * m.1) (15 - m.2))

/-- Floor and ceiling of the root of a quotient. -/
def sqrtFloor (n d : Nat) : Nat := isqrt (n / max d 1)
def sqrtCeil (n d : Nat) : Nat :=
  let r := sqrtFloor n d
  if r * r * d ≥ n then r else r + 1

/-- u times UMAX over the magnitude, rounded to nearest with ties toward plus infinity (R83 step 6, R78; log entry 24). -/
def scaleTo (u : Int) (umax magSq : Nat) : Int :=
  let n := 4 * u.natAbs * u.natAbs * umax * umax
  if u ≥ 0 then (((sqrtFloor n magSq + 1) / 2 : Nat) : Int) else -((sqrtCeil n magSq / 2 : Nat) : Int)

/-- The vector limit (R83 step 6): limited values, and whether it acted. -/
def vectorLimit (umax : Nat) (ud uq : Int) : Int × Int × Bool :=
  let m := ud.natAbs * ud.natAbs + uq.natAbs * uq.natAbs
  if m > umax * umax then (scaleTo ud umax m, scaleTo uq umax m, true) else (ud, uq, false)

/-- A rotation of a pair by an angle, each stored to Q1.15. -/
def rotate (x y : Int) (a : Nat) (back : Bool) : Q15 × Q15 :=
  let c := cosA a
  let s := sinA a
  if back then (store16 (mulQ15 x c - mulQ15 y s), store16 (mulQ15 x s + mulQ15 y c))
  else (store16 (mulQ15 x c + mulQ15 y s), store16 (mulQ15 y c - mulQ15 x s))

/-- The lead of the applied angle (R83 step 1). -/
def leadOf (a : Axis) (dTheta : Int) : Int := (signed 16 (field (a.par 0x0F4) 16 16) * dTheta + 2 ^ 11) / 2 ^ 12

/-- Steps 3 to 7 for a measured vector: the demands u_alpha and u_beta (R83). -/
def currentLaw (a : Axis) (iA iB : Int) (w : Work) : Work × Int × Int :=
  let theta := w.h.theta.toNat
  let i := rotate iA iB theta false
  let ed := sat16 (a.parH 0x0CC - i.1.v)
  let eq := sat16 (w.iq - i.2.v)
  let wq := store16 (mulQ15 w.v i.2.v)
  let wd := store16 (mulQ15 w.v i.1.v)
  let ud := store16 (mulG16 (a.par 0x0D0) ed.v + w.loop.iD - mulG16 (a.par 0x0E8) wq.v)
  let uq := store16 (mulG16 (a.par 0x0D4) eq.v + w.loop.iQ + mulG16 (a.par 0x0E4) wd.v + mulG16 (a.par 0x0EC) w.v)
  let vdc := ofHalf w.h.vDc
  let vmin := a.parH 0x0FC
  let q := (max (max vdc vmin) 1).toNat
  let m := recip q
  let nd := normalise m ud.v
  let nq := normalise m uq.v
  let lim := vectorLimit (a.parH 0x0F8).toNat nd.v nq.v
  let rd := store16 (mulQ15 (lim.1 - nd.v) q)
  let rq := store16 (mulQ15 (lim.2.1 - nq.v) q)
  let kawc := a.parH 0x0E0
  let ab := rotate lim.1 lim.2.1 (wrap 16 ((theta : Int) + leadOf a w.loop.dTheta)) true
  let sats := [i.1, i.2, ed, eq, wq, wd, ud, uq, nd, nq, rd, rq, ab.1, ab.2].any Q15.sat
  ({ w with
      fl := w.fl ||| flagIf sats flagSat ||| flagIf lim.2.2 flagVoltageLimited
        ||| flagIf (decide (vdc < vmin) || decide (max vdc vmin ≤ 0)) flagDclinkLow
      loop := { w.loop with
        iD := sat31 (satAcc (w.loop.iD + mulI32 (a.par 0x0D8) ed.v + mulQ15 kawc rd.v))
        iQ := sat31 (satAcc (w.loop.iQ + mulI32 (a.par 0x0DC) eq.v + mulQ15 kawc rq.v)) }
      h := { w.h with iD := half i.1.v, iQ := half i.2.v, uD := half lim.1, uQ := half lim.2.1 } },
   ab.1.v, ab.2.v)

/-- The store of half of an exact value. -/
def storeHalf (x2 : Int) : Q15 := sat16 ((x2 + 2 ^ 16) / 2 ^ 17)

/-- Step 8: the phase demands (R83). -/
def phases (zseq : Bool) (uA uB : Int) : List Q15 :=
  let x := [4 * invSqrt3 * uA, -(2 * invSqrt3 * uA) + uB * 65536, -(2 * invSqrt3 * uA) - uB * 65536]
  if zseq then
    let hi := x.foldl max (x.headD 0)
    let lo := x.foldl min (x.headD 0)
    x.map fun v => storeHalf (2 * v - (hi + lo))
  else x.map store16

/-- CU3 (R83). -/
def stageCu3 (a : Axis) (w : Work) : Work :=
  let iU := ofHalf w.h.iU
  let beta := store16 (mulQ15 (iU + 2 * ofHalf w.h.iV) invSqrt3)
  let c := currentLaw a iU beta.v (w.note beta)
  let us := phases (field (a.par 0x0F8) 16 1 == 1) c.2.1 c.2.2
  let o (i : Nat) : Half := half (us.getD i { v := 0 }).v
  { c.1 with fl := c.1.fl ||| flagIf (us.any Q15.sat) flagSat
             h := { c.1.h with out0 := o 0, out1 := o 1, out2 := o 2 } }

/-- CU2, the two-phase form (R84, 11 R322; log entry 25). -/
def stageCu2 (a : Axis) (w : Work) : Work :=
  let c := currentLaw a (ofHalf w.h.iU) (ofHalf w.h.iV) w
  { c.1 with h := { c.1.h with out0 := half c.2.1, out1 := half c.2.2, out2 := 0 } }

/-! ## A whole recipe (R74) -/

/-- The demand loops up to the torque or speed demand that XC, BQ and LM take. -/
def demandLoops (a : Axis) (r : Recipe) (hold : Bool) (w : Work) : Work :=
  let pe := stagePe a r w
  if r.selPoint then
    let sp := stageSp a r pe.2 (trackP a r pe.2 pe.1)
    let w := stageSl a hold sp.2 sp.1
    { w with sig := w.y }
  else
    let w := trackP a r pe.2 (stageSl a hold pe.2 pe.1)
    if r.mode = .v then { w with sig := w.y }
    else
      let sp := stageSp a r w.y w
      { sp.1 with sig := sp.2 }

/-- WIN and y as they are recorded. -/
def Work.recordSel (w : Work) : Work := { w with h := { w.h with win := BitVec.ofNat 3 w.win, y := half w.y } }

/-- The outputs of a mode that has one (R71). -/
def Work.output1 (w : Work) (v : Int) : Work := { w with h := { w.h with out0 := half v, out1 := 0, out2 := 0 } }

/-- Everything after IN, for an axis whose full recipe runs. -/
def runRecipe (a : Axis) (r : Recipe) (hold : Bool) (ms : List (Option Int)) (xs : List Int) (w : Work) : Work :=
  match r.mode with
  | .p => w.output1 0
  | .v =>
    let w := stageLmV a (stageBqs a r (demandLoops a r hold (stageCt a r ms w)))
    ((trackContenders a 0 w).recordSel).output1 w.sig
  | _ =>
    let w := demandLoops a r hold (stageCt a r ms w)
    let u0 := ofHalf (w.h.u.getD 0 0)
    let w := stageLmT a (stageBqs a r (stageXc a xs w))
    let w := (trackContenders a (if r.selPoint then awTerm a w else 0) (trackS a r u0 w)).recordSel
    if r.mode = .t then w.output1 w.tauLm
    else if r.stages.contains .cu2 then stageCu2 a w
    else stageCu3 a w

/-- READY, and FAULT but under action 3: IN, SE and OUT only, with integrators and histories zero (R97). -/
def idleRecipe (w : Work) : Work := { w with loop := w.loop.cleared }

end Sys2Proof.Machine
end

