-- ==== Sys2Proof/Machine/Feedback.lean ====
section
/-! DEFINITION. Lines of the active generation, the feedback of an axis, history entries as words, and source words (01 R13, R20, R31;
03 R70; 04 R107, R121; 05 R137). -/
namespace Sys2Proof.Machine

/-! ## History entries as words (04 R121) -/

/-- The 32 words of a history entry. -/
def Hist.words (h : Hist) : List Word :=
  let two (a b : Half) : Word := b ++ a
  leWords 2 h.cycle.toNat
  ++ [h.flags, BitVec.ofNat 32 (h.state.toNat + 256 * h.win.toNat + 65536 * (h.drive.toNat + 16 * b2n h.activeSet)),
      h.pFb, h.pRef, two h.pFrac h.eP, h.eInt, two h.v h.sStar, two h.y h.tauIn, two h.tauLm h.iqRef, two h.iU h.iV,
      two h.vDc h.theta, two h.iD h.iQ, two h.uD h.uQ, two h.out0 h.out1,
      two h.out2 (h.u.getD 0 0), two (h.u.getD 1 0) (h.u.getD 2 0), two (h.u.getD 3 0) 0, h.done,
      two (h.m.getD 0 0) (h.m.getD 1 0), two (h.m.getD 2 0) (h.r.getD 0 0), two (h.r.getD 1 0) (h.r.getD 2 0),
      two h.vRef h.aRef, two h.d h.xcSum, 0, h.refTag, h.setptTag, h.iP, h.iS, h.iDint, h.iQint]

/-- A 16-bit field of some words, at an even byte offset. -/
def halfAt (ws : List Word) (off : Nat) : Half := (ws.getD (off / 4) 0).extractLsb' (8 * (off % 4)) 16

namespace State

/-! ## Lines (01 R20, R31) -/

/-- The line of a port in the active generation; a ring's second end belongs to the line of the first. -/
def lineOf (s : State) (port : Nat) : Option Line :=
  match s.net.active with
  | none => none
  | some g => g.lines.find? fun l => l.port == port || (l.topo == 1 && l.ringPort == port)

/-- Divider of a port's line. -/
def divider (s : State) (port : Nat) : Nat := match s.lineOf port with | some l => max 1 l.divider | none => 1

/-- A line cycle of the port begins in this cycle. -/
def lineBegins (s : State) (port : Nat) : Bool := s.k % s.divider port == 0

/-- This cycle is the compute cycle of the port's line. -/
def lineComputes (s : State) (port : Nat) : Bool :=
  match s.lineOf port with
  | some l => s.k % max 1 l.divider == l.cOffset
  | none => true

/-- The cycle in which the present line cycle of a port began (05 R132). -/
def lineCycle (s : State) (port : Nat) : Nat := s.k / s.divider port * s.divider port

/-- Sample instant of the feedback an axis computes from in this cycle. -/
def sampleNs (s : State) (port : Nat) : Nat := s.cycleNs (s.lineCycle port) + s.sampleOffset

/-! ## Feedback (05 R137, 11 R305) -/

/-- Bytes of an axis's share of an F payload and of a C payload, by mode (05 R137). -/
def fBytes : Mode → Nat
  | .c => 12
  | _ => 8

def cBytes : Mode → Nat
  | .c => 8
  | .t => 4
  | .v => 4
  | .p => 8

/-- The node as the active generation names it. -/
def gnode (s : State) (n : Nat) : Option GNode :=
  match s.net.active with
  | none => none
  | some g => g.nodes.find? fun x => x.index == n

/-- A 16-bit field of a payload. -/
def payHalf (p : List Byte) (off : Nat) : Nat := leNat ((p.drop off).take 2)

/-- Fields of an axis's share of an F payload (05 R137). -/
def fbOf (p : List Byte) (off : Nat) : Mode → Fb
  | .c => { iU := signed 16 (payHalf p off), iV := signed 16 (payHalf p (off + 2)), p := BitVec.ofNat 32 (leNat ((p.drop (off + 4)).take 4))
            vDc := signed 16 (payHalf p (off + 8)), status := BitVec.ofNat 16 (payHalf p (off + 10)) }
  | .v => { p := BitVec.ofNat 32 (leNat ((p.drop off).take 4)), vDc := signed 16 (payHalf p (off + 4))
            status := BitVec.ofNat 16 (payHalf p (off + 6)) }
  | _ => { p := BitVec.ofNat 32 (leNat ((p.drop off).take 4)), status := BitVec.ofNat 16 (payHalf p (off + 6)) }

/-- The feedback of an axis in this cycle, when it is not missing (01 R26, 05 R137, 11 R305, R306). -/
def feedback (s : State) (i : Nat) : Option Fb :=
  match s.localPort i with
  | some n =>
    let q := (s.lport n).sample
    if q.missing then none
    else some { p := q.p, iU := ofHalf q.iU, iV := ofHalf q.iV, vDc := ofHalf q.vDc, status := q.status, micro := q.micro }
  | none =>
    match s.boundNode i with
    | none => none
    | some (n, sub) =>
      match (s.node n).slotNow, s.gnode n with
      | some f, some g => some (fbOf f.payload ((g.modes.take sub).foldl (fun t m => t + fBytes m) 0) (g.modes.getD sub .p))
      | _, _ => none

/-- The port whose line carries an axis, if any does. -/
def axisPort (s : State) (i : Nat) : Option Nat := (s.boundNode i).map fun x => (s.node x.1).port.toNat

/-- The axis is of a divided line in a cycle that is not its compute cycle (01 R31). -/
def offCycle (s : State) (i : Nat) : Bool := match s.axisPort i with | some p => !s.lineComputes p | none => false

/-! ## What a lattice waits for (01 R13, 03 R70) -/

/-- The F-frames of a node's line have come, or its own slot has. -/
def nodeArrived (s : State) (n : Nat) : Bool :=
  let nd := s.node n
  let p := s.mport nd.port.toNat
  nd.slotNow.isSome || (p.fSeen && (p.topo != 1 || (s.mport p.ringPort.toNat).fSeen))

/-- The axis of a lattice slot, and its recipe. -/
def slotAxis (s : State) (l pos : Nat) : Option (Nat × Recipe) :=
  match s.net.active with
  | none => none
  | some g =>
    match g.slots.find? fun x => x.lattice == l && x.slot == pos with
    | none => none
    | some sl => (g.recipes.find? fun r => r.id == sl.recipe).map fun r => (sl.axis, r)

/-- The axes of a lattice. -/
def latAxes (s : State) (l : Nat) : List (Nat × Recipe) := (List.range 16).filterMap (s.slotAxis l)

/-- The source words a recipe uses: of its contenders and of its cross-coupling terms. -/
def sourceWords (a : Axis) (r : Recipe) : List Nat :=
  (List.range (ctCount r)).map (fun i => a.par (0x030 + 0x10 * i)) ++ (List.range (min 4 (r.stages.count .xc))).map fun i => a.par (0x060 + 8 * i)

/-- The node whose feedback a source word needs in this cycle; none for a demand of the cycle before (04 R107, 03 R82). -/
def sourceNode (s : State) (w : Nat) : Option Nat :=
  if field w 28 1 = 1 then none
  else if field w 30 2 = 0 then some (field w 16 10)
  else (s.boundNode (field w 16 10)).map Prod.fst

/-- The feedback an axis's lattice waits for has arrived (01 R13, 03 R70). -/
def axisReady (s : State) (i : Nat) (r : Recipe) : Bool :=
  let a := s.axis i
  let own := (s.boundNode i).map Prod.fst
  let lost := match own with | some n => (s.node n).lost | none => false
  if a.state = .disabled ∨ (a.state = .fault ∧ lost = true) ∨ s.offCycle i = true then true
  else
    (own.toList ++ (sourceWords a r).filterMap s.sourceNode).all fun n =>
      s.nodeArrived n || !s.lineComputes (s.node n).port.toNat || (s.gnode n).isNone

/-! ## Source words (04 R107, 03 R82, R86) -/

/-- The word of a node's F payload that a source word names. -/
def nodeWord (s : State) (n off : Nat) : Option Int :=
  match (s.node n).slotNow with
  | none => none
  | some f => if off + 2 ≤ f.payload.length then some (signed 16 (payHalf f.payload off)) else none

/-- A field of the named axis's history entry: a feedback signal is that of this cycle, any other that of the latest entry
(log entry 28). `fuel` bounds a chain of axes that name each other. -/
def axisField (s : State) (off : Nat) : Nat → Nat → Option Int
  | 0, i => some (ofHalf (halfAt (s.axis i).live.words off))
  | fuel + 1, i =>
    let a := s.axis i
    match s.feedback i with
    | none => none
    | some f =>
      if a.computed then some (ofHalf (halfAt a.live.words off))
      else if off = 16 then some (signed 16 f.p.toNat)
      else if off = 18 then some (signed 16 (f.p.toNat / 65536))
      else if off = 44 then some (store16 (mulG16 a.hdr.kinCur.toNat f.iU)).v
      else if off = 46 then some (store16 (mulG16 a.hdr.kinCur.toNat f.iV)).v
      else if off = 48 then some (store16 (mulG16 a.hdr.kinVdc.toNat f.vDc)).v
      else if off = 96 then some (match deltaP a.loop f.p with | some d => (speedD d a.hdr.spdFs).v | none => 0)
      else if off = 80 ∨ off = 82 ∨ off = 84 then
        let w := a.par (0x030 + 0x10 * ((off - 80) / 2))
        if field w 30 2 = 0 then s.nodeWord (field w 16 10) (field w 0 12) else s.axisField (field w 0 12) fuel (field w 16 10)
      else some (ofHalf (halfAt a.live.words off))

/-- The signal of a source word; none when its feedback is missing. -/
def sourceValue (s : State) (w : Nat) : Option Int :=
  let n := field w 16 10
  if field w 28 1 = 1 then
    let a := s.axis n
    some (if a.hdr.mode = .v ∨ a.hdr.mode = .p then 0
      else ofHalf (if a.computed then a.tauPrev else a.live.tauLm))
  else if field w 30 2 = 0 then s.nodeWord n (field w 0 12)
  else s.axisField (field w 0 12) 4 n

end State

end Sys2Proof.Machine
end

