-- ==== Sys2Proof/Machine/NetOps.lean ====
section
/-! DEFINITION. The Millrace network: lines and their transit times, hop delays, node configuration records, the node table and its
registers (05 R128-R146, 01 R17-R20, 06 R194). -/
namespace Sys2Proof.Machine

/-! ## Measured delays, in 1/16 ns (R141, R194; log entry 33) -/

/-- Difference of two 32-bit stamps in ns. -/
def stampDiff (a b : Word) : Nat := (a - b).toNat

/-- Turn time of a position: looped at the last one, through and back elsewhere (R140, R141). -/
def turnOf (last : Bool) (x : Stamps) : Nat := if last then stampDiff x.a x.b else stampDiff x.c x.b

/-- Half of a value in 1/16 ns, rounded to nearest with ties up. -/
def half16 (x : Int) : Int := (x + 1) / 2

/-- Delay of hop 0 (R141). -/
def hop0 (aH16 dH16 : Nat) (turn : Nat) : Int := half16 ((dH16 : Int) - aH16 - 16 * turn) - 4800

/-- Delays of the hops after a position (R141). -/
def hopsFrom : Stamps → List Stamps → List Int
  | _, [] => []
  | x, y :: t => 8 * ((stampDiff x.d x.a : Int) - turnOf t.isEmpty y) :: hopsFrom y t

/-- Delays of all the hops of a looped frame (R141). -/
def hopDelays (aH16 dH16 : Nat) : List Stamps → List Int
  | [] => []
  | x :: t => hop0 aH16 dH16 (turnOf t.isEmpty x) :: hopsFrom x t

/-- Forwarding latency of a position (R141). -/
def fwdDelay (x : Stamps) : Int := 16 * (stampDiff x.a x.b : Int)

/-- Stamps of a record. -/
def recStamps (r : NodeRec) : Stamps := { b := r.b, a := r.a, d := r.d, c := r.c }

/-- The first values of a list replaced. -/
def overlay {α : Type} : List α → List α → List α
  | _ :: l, b :: m => b :: overlay l m
  | [], _ => []
  | l, [] => l

def sumNat (l : List Nat) : Nat := l.foldl (· + ·) 0

/-- Sum of the link delays of the first `n` hops. -/
def MPort.links (p : MPort) (n : Nat) : Nat := sumNat ((p.linkDly.take n).map BitVec.toNat)

/-- Sum of the forwarding latencies of the first `n` positions. -/
def MPort.fwds (p : MPort) (n : Nat) : Nat := sumNat ((p.fwd.take n).map BitVec.toNat)

/-- DOWN_DELAY_0 of a position (06 R194). -/
def MPort.down0 (p : MPort) (i : Nat) : Nat := 4800 + p.links (i + 1) + p.fwds i

/-- DOWN_DELAY_1 of a position of a ring of `h` nodes (06 R194); 0 on a line (R146). -/
def MPort.down1 (p : MPort) (h i : Nat) : Nat :=
  if p.topo = 0 then 0
  else 4800 + p.closeDly.toNat + (p.links h - p.links (i + 1)) + (p.fwds h - p.fwds (i + 1))

/-! ## The budget of a line, in 1/80 ns (01 R17, R19, R20; 05 R126, R134) -/

/-- t_fwd in ns and t_byte in 1/80 ns (01 R17). -/
def genTimes (gen : Nat) : Nat × Nat := if gen = 3 then (160, 256) else if gen = 2 then (400, 640) else (2000, 6400)

/-- Bytes of a frame with slots of these payload lengths, from preamble to gap (01 R17; 05 R126). -/
def frameBytes (lens : List Nat) : Nat := max 84 (62 + sumNat (lens.map (· + 4)))

/-- Insertion by position. -/
def insertPos (x : GNode) : List GNode → List GNode
  | [] => [x]
  | y :: t => if x.pos < y.pos then x :: y :: t else y :: insertPos x t

/-- Nodes of a line in ascending position. -/
def lineNodes (g : GenImage) (port : Nat) : List GNode := (g.nodes.filter fun n => n.port == port).foldl (fun l x => insertPos x l) []

/-- T_F with measured delays. -/
def transitF (gen h links bytes : Nat) : Nat := 48000 + 160 * h * (genTimes gen).1 + 10 * links + bytes * (genTimes gen).2

/-- T_C with measured delays. -/
def transitC (gen h links bytes : Nat) : Nat := 24000 + 80 * (h - 1) * (genTimes gen).1 + 5 * links + bytes * (genTimes gen).2

/-- The largest service frame of a line (R134). -/
def serviceBytes (sMax h : Nat) : Nat := max 142 (max (62 + sMax) (66 + 16 * h + 40 * (32 - h)))

/-- A line of a generation meets 01 R14, R17, R19, R20 and 05 R126, R134. -/
def lineFits (g : GenImage) (links : Nat) (l : Line) : Bool :=
  let ns := lineNodes g l.port
  let h := ns.length
  let bF := frameBytes (ns.map GNode.fLen)
  let bC := frameBytes (ns.map GNode.cLen)
  let n := l.divider
  let m := l.cOffset
  let limit := if l.gen = 3 then (defaultInstants g.tc).2.2.2 else 32
  let tByte := (genTimes l.gen).2
  [1, 4, 8, 16].contains n && (l.gen == 1 || n == 1) && (l.gen != 1 || decide (n * g.tc ≥ 125000)) && decide (m < n)
    && decide (h ≤ limit) && decide (h ≤ 32)
    && decide (bF ≤ 2068) && decide (bC ≤ 2068)
    && decide (80 * g.fDepart + transitF l.gen h links bF ≤ 80 * (m * g.tc + g.dU))
    && decide (80 * (g.dX + g.guardNs) + transitC l.gen h links bC ≤ 80 * (n - m) * g.tc)
    && decide (16 ≤ l.sMax) && decide (l.sMax ≤ 1024) && l.sMax % 8 == 0
    && decide (80 * (m * g.tc + g.dX) + (bC + serviceBytes l.sMax h) * tByte ≤ 80 * (n * g.tc + g.fDepart))

/-- The instants of a generation meet 01 R8 and R14. -/
def instantsFit (g : GenImage) : Bool :=
  legalPeriods.contains g.tc && decide (g.sampleOffset ≤ 8000) && decide (g.sampleOffset + 500 ≤ g.fDepart)
    && decide (500 ≤ g.fDepart) && decide (g.fDepart < g.dU) && decide (g.dU + 1000 ≤ g.dX) && decide (1000 ≤ g.guardNs)
    && decide (g.dX + g.guardNs ≤ g.tc) && decide (g.applyOffset ≤ 8000) && decide (g.applyOffset ≤ g.dX)

/-- Place of a stage in the order of R74 (03). -/
def stageRank (selPoint : Bool) : Stage → Nat
  | .inn => 0
  | .pe => 1
  | .se => 3
  | .sp => 4
  | .ct => if selPoint then 5 else 2
  | .sl => if selPoint then 6 else 2
  | .xc => 7
  | .bq => 8
  | .lmT => 9
  | .lmV => 9
  | .cu3 => 10
  | .cu2 => 10
  | .out => 11

/-- Ranks never fall. -/
def rising : List Nat → Bool
  | a :: b :: t => decide (a ≤ b) && rising (b :: t)
  | _ => true

/-- A stage of which a recipe holds at most `n`. -/
def atMost (r : Recipe) (s : Stage) (n : Nat) : Bool := decide (r.stages.count s ≤ n)

/-- A recipe meets 03 R73 and R74. -/
def recipeFits (r : Recipe) : Bool :=
  let has (s : Stage) : Bool := r.stages.contains s
  let cts := r.stages.count .ct
  let slAfter := match r.stages.dropWhile fun s => s != .sl with | _ :: t => !t.contains .ct | [] => true
  let shape := r.stages.head? == some .inn && r.stages.getLast? == some .out && rising (r.stages.map (stageRank r.selPoint))
    && atMost r .inn 1 && atMost r .out 1 && atMost r .pe 1 && atMost r .se 1 && atMost r .sp 1 && decide (cts ≤ 3) && slAfter
    && r.stages.count .sl == (if cts = 0 then 0 else 1) && atMost r .xc 4 && atMost r .bq 4
    && decide (r.stages.count .lmT + r.stages.count .lmV ≤ 1) && decide (r.stages.count .cu3 + r.stages.count .cu2 ≤ 1)
  shape && match r.mode with
    | .c => has .lmT && (has .cu3 || has .cu2)
    | .t => has .lmT && !has .cu3 && !has .cu2
    | .v => has .lmV && !has .se && !has .sp && !has .xc && !has .cu3 && !has .cu2 && !r.selPoint
    | .p => r.stages == [.inn, .out]

/-! ## The node configuration record (R146) -/

/-- The 16 words of a record. -/
def cfgWords (c : NodeCfg) : List Word :=
  [BitVec.ofNat 32 (c.index + 65536 * c.genFirst.toNat),
   BitVec.ofNat 32 (b2n c.endLoop + 2 * b2n c.ring + 2 ^ 8 * c.nSafe + 2 ^ 16 * c.divider + 2 ^ 24 * c.cOffset),
   BitVec.ofNat 32 c.tc] ++ leWords 2 c.epoch
  ++ [BitVec.ofNat 32 c.sampleOffset, BitVec.ofNat 32 c.applyOffset, BitVec.ofNat 32 c.guardNs, BitVec.ofNat 32 c.dX,
      BitVec.ofNat 32 c.downDelay0, BitVec.ofNat 32 c.downDelay1,
      BitVec.ofNat 32 (c.fOffset + 65536 * c.fLen), BitVec.ofNat 32 (c.cOff + 65536 * c.cLen),
      BitVec.ofNat 32 (c.modes.toNat + 256 * c.safeAction.toNat), 0, 0]

/-- The record of some words. -/
def cfgOfWords (ws : List Word) : NodeCfg :=
  let w (i : Nat) : Nat := (ws.getD i 0).toNat
  { index := field (w 0) 0 16, genFirst := BitVec.ofNat 16 (field (w 0) 16 16), endLoop := field (w 1) 0 1 == 1
    ring := field (w 1) 1 1 == 1, nSafe := field (w 1) 8 8, divider := field (w 1) 16 8, cOffset := field (w 1) 24 8
    tc := w 2, epoch := w 3 + 2 ^ 32 * w 4, sampleOffset := w 5, applyOffset := w 6, guardNs := w 7, dX := w 8
    downDelay0 := w 9, downDelay1 := w 10, fOffset := field (w 11) 0 16, fLen := field (w 11) 16 16
    cOff := field (w 12) 0 16, cLen := field (w 12) 16 16, modes := BitVec.ofNat 8 (field (w 13) 0 8)
    safeAction := BitVec.ofNat 8 (field (w 13) 8 8) }

/-- The axis modes as a record packs them. -/
def packModes (ms : List Mode) : Nat := (mapI (fun i m => Mode.code m * 4 ^ i) ms).foldl (· + ·) 0

/-- The record of generation g differs at most in the generation from which it applies. -/
def sameCfg (a b : NodeCfg) : Bool := { a with genFirst := 0 } == { b with genFirst := 0 }

namespace State

/-- The live nodes of a port, by index (R144 LIVE). -/
def liveNodes (s : State) (port : Nat) : List Nat := (List.range s.nNodes).filter fun i =>
  let n := s.node i
  n.used && !n.lost && n.port.toNat == port

/-- Default D_X of the period (R143). -/
def defaultDX (s : State) : Nat := (defaultInstants s.tmb.tc).2.2.1

/-- The record of discovery: GEN_FIRST 0 and no slot (R143, R146). -/
def walkCfg (s : State) (p : MPort) (n h i : Nat) : NodeCfg :=
  { index := n, genFirst := 0, endLoop := p.topo == 0 && i + 1 == h, ring := p.topo != 0
    tc := s.tmb.tc, epoch := s.tmb.epoch, sampleOffset := s.sampleOffset, applyOffset := s.applyOffset, guardNs := s.guardNs
    dX := s.defaultDX, downDelay0 := p.down0 i, downDelay1 := p.down1 h i }

/-- The record of a node under a generation that names it (R145, R146). -/
def genCfg (s : State) (g : GenImage) (x : GNode) : NodeCfg :=
  let p := s.mport x.port
  let line := (g.lines.find? fun l => l.port == x.port).getD { port := x.port }
  let ns := lineNodes g x.port
  let before := ns.takeWhile fun y => decide (y.pos < x.pos)
  { index := x.index, genFirst := BitVec.ofNat 16 g.gen, endLoop := line.topo == 0 && x.pos + 1 == ns.length, ring := line.topo != 0
    nSafe := x.nSafe, divider := line.divider, cOffset := line.cOffset, tc := g.tc, epoch := g.epoch
    sampleOffset := g.sampleOffset, applyOffset := g.applyOffset, guardNs := g.guardNs, dX := g.dX
    downDelay0 := p.down0 x.pos, downDelay1 := p.down1 ns.length x.pos
    fOffset := 24 + sumNat (before.map fun y => 4 + y.fLen), fLen := x.fLen
    cOff := 24 + sumNat (before.map fun y => 4 + y.cLen), cLen := x.cLen
    modes := BitVec.ofNat 8 (packModes x.modes), safeAction := x.safeAction }

/-- A message for a node is put into its line's service mailbox (R160). -/
def sendSvc (s : State) (n : Nat) (kind : Half) (words : List Word) : State :=
  s.modMPort (s.node n).port.toNat fun p => { p with
    svc := p.svc ++ [{ node := n, kind := kind, words := words, msg := p.nextMsg }], nextMsg := p.nextMsg + 1 }

/-- A record is sent to a node, and its acknowledgement awaited (R146, R147). -/
def sendCfg (s : State) (n : Nat) (c : NodeCfg) : State :=
  (s.modNode n fun x => { x with unacked := some c.genFirst, sentCfg := some c }).sendSvc n 0x0001 (cfgWords c)

/-- Every record of the pending generation has been acknowledged: it is loaded (R147). -/
def checkLoaded (s : State) : State :=
  match s.net.pending with
  | none => s
  | some g =>
    if s.net.pendState = 2 ∧ s.net.joinGen = false ∧ (g.nodes.all fun x => (s.node x.index).unacked.isNone) = true then
      { s with net := { s.net with pendState := 3 } }
    else s

/-- The identity `n` is the last one a join waits for: the old last node or the turned positions are told the cycle (R151,
R156). -/
def joinAcked (s : State) (port : Nat) : State :=
  match (s.mport port).join with
  | none => s
  | some j =>
    if !j.waiting.isEmpty then s
    else
      let s := if j.gen.isSome then { s with net := { s.net with pendState := 3 } } else s
      s.modMPort port fun p =>
        let c : DWord := BitVec.ofNat 64 j.cycle
        match j.reclose, j.oldLast with
        | some (a, b), _ => { p with dq := p.dq ++ [.reclose c a b], reclose := some (j.cycle, a, b) }
        | none, some _ => { p with dq := p.dq ++ [.resume c (j.base - 1) 0xFF] }
        | none, none => p

/-- A join stops waiting for an identity. -/
def joinAck (s : State) (port : Nat) (id : DWord) : State :=
  match (s.mport port).join with
  | none => s
  | some j =>
    if j.waiting.contains id then
      (s.modMPort port fun p => { p with join := some { j with waiting := j.waiting.filter fun x => x != id } }).joinAcked port
    else s

/-- A node acknowledges a record (R143, R147, R160). -/
def recordAck (s : State) (n : Nat) (genFirst : Half) : State :=
  let x := s.node n
  if x.unacked = some genFirst then
    ((s.modNode n fun x => { x with unacked := none, cfg := x.sentCfg, sentCfg := none }).checkLoaded).joinAck x.port.toNat x.identity
  else s

/-! ## The table and its registers -/

/-- NODE_LOST (R158). -/
def eventNodeLost (s : State) (n reason : Nat) : State :=
  let x := s.node n
  s.event 0x0201 (tNode n) (leBytes 2 n ++ [BitVec.ofNat 8 x.port.toNat, BitVec.ofNat 8 x.pos.toNat, BitVec.ofNat 8 reason, 0, 0, 0]
    ++ leBytes 8 x.identity.toNat)

/-- NODE_JOINED (R158). `n` is none for a node without an index. -/
def eventNodeJoined (s : State) (n : Option Nat) (port pos kind reason gen : Nat) (id : DWord) (c : Nat) : State :=
  s.event 0x0202 (match n with | some i => tNode i | none => tPort port)
    (leBytes 2 (n.getD 0xFFFF) ++ [BitVec.ofNat 8 port, BitVec.ofNat 8 pos, BitVec.ofNat 8 kind, BitVec.ofNat 8 reason] ++ leBytes 2 gen
      ++ leBytes 8 id.toNat ++ leBytes 8 c)

/-- RING_TURNED (R158). -/
def eventRingTurned (s : State) (port : Nat) (turned : Bool) (lo hi : Option Nat) : State :=
  s.event 0x0204 (tPort port) ([BitVec.ofNat 8 port, BitVec.ofNat 8 (b2n turned), BitVec.ofNat 8 (lo.getD 0xFF),
    BitVec.ofNat 8 (hi.getD 0xFF)] ++ leBytes 8 s.k)

/-- A table entry is freed. -/
def freeNode (s : State) (n : Nat) : State := s.modNode n fun x => { mailx := x.mailx }

/-- A sticky bit of NET_STAT is set. -/
def setStat (s : State) (port : Nat) (bit : Nat) : State :=
  s.modMPort port fun p => { p with stat := p.stat ||| BitVec.ofNat 6 (2 ^ bit) }

def PState.code : PState → Nat
  | .dark => 0
  | .walking => 1
  | .linked => 2
  | .run => 3

/-- NET_STATE. -/
def netState (s : State) (port : Nat) : Word :=
  let p := s.mport port
  BitVec.ofNat 32 (PState.code p.state + 2 ^ 4 * p.gen.toNat + 2 ^ 8 * b2n p.link + 2 ^ 9 * b2n p.turned + 2 ^ 10 * p.topo.toNat
    + 2 ^ 16 * p.ringPort.toNat + 2 ^ 24 * ((s.liveNodes port).length % 64))

/-- NET_CNT. -/
def netCnt (s : State) (port : Nat) : Word :=
  let p := s.mport port
  BitVec.ofNat 32 (p.lateCount.toNat + 65536 * p.fcsCount.toNat)

/-- The lowest free index of the table, apart from some. -/
def freeIndex (s : State) (taken : List Nat) : Option Nat :=
  (List.range s.nNodes).find? fun i => !(s.node i).used && !taken.contains i

/-- The index of an identity in the table. -/
def indexOf (s : State) (id : DWord) : Option Nat :=
  (List.range s.nNodes).find? fun i => (s.node i).used && (s.node i).identity == id

/-- Nodes of a port that stay in the table get the first free indices in walk order; none if the table overflows (R143, R151).
`free` lists entries about to be freed. -/
def assignIndices (s : State) (free taken : List Nat) : List NodeRec → Option (List (Nat × Bool × NodeRec))
  | [] => some []
  | r :: t =>
    match s.indexOf r.identity with
    | some i => (s.assignIndices free taken t).map fun l => (i, true, r) :: l
    | none =>
      match (List.range s.nNodes).find? fun i => (!(s.node i).used || free.contains i) && !taken.contains i with
      | none => none
      | some i => (s.assignIndices free (i :: taken) t).map fun l => (i, false, r) :: l

/-- The table entry of a found node (R140, R143). -/
def nodeEntry (port pos : Nat) (r : NodeRec) (old : Node) : Node :=
  { old with
    used := true, lost := false, port := BitVec.ofNat 6 port, pos := BitVec.ofNat 5 pos, cls := r.cls, axes := BitVec.ofNat 4 r.axes
    identity := r.identity, caps := r.caps, gens := r.gens, fLen := r.fLen, cLen := r.cLen, lsb := r.lsb, invalidRun := 0 }

/-- Heads, nodes and levels within the limits of R163, when these records are found. -/
def nestingFits (s : State) (found : List NodeRec) (ids : List DWord) : Bool :=
  let old := s.net.nodes.filter fun n => n.used && n.cls == 3 && !ids.contains n.identity
  let ws := (old.map fun n => n.lsb.toNat) ++ (found.filter fun r => r.cls == 3).map fun r => r.lsb.toNat
  let own := (s.net.nodes.filter fun n => n.used && !ids.contains n.identity).length + found.length
  decide (1 + sumNat (ws.map fun w => 1 + field w 24 8) ≤ 16) && ws.all (fun w => decide (s.net.conf.level.toNat + 1 + field w 16 8 ≤ 3))
    && decide (own + sumNat (ws.map fun w => field w 0 16) ≤ 8192)

end State

end Sys2Proof.Machine
end

