-- ==== Sys2Proof/Machine/Snapshot.lean ====
section
/-! DEFINITION. Snapshots (06 R196-R201). -/
namespace Sys2Proof.Machine

namespace State

def snap (s : State) (id : Nat) : Snap := s.tmb.snaps.getD id {}
def modSnap (s : State) (id : Nat) (f : Snap → Snap) : State := { s with tmb := { s.tmb with snaps := updAt s.tmb.snaps id f } }

/-- The first cycle at or after a time. -/
def cycleFrom (s : State) (t : Nat) : Nat := ceilDiv (t - s.tmb.epoch * 1000000000) s.tmb.tc

/-- Time base data of a snapshot (R199). -/
def timeData (s : State) (t : Nat) : List Byte :=
  leBytes 8 (s.cycleAt t) ++ leBytes 4 (t - s.cycleNs (s.cycleAt t)) ++ leBytes 4 0
    ++ leBytes 8 s.tmb.domP.cnt.toNs ++ leBytes 8 s.tmb.domS.cnt.toNs

/-- AXR_CNT0 to AXR_CNT2 (04). -/
def cntWords (c : Cnts) : List Word := [c.dlMiss ++ c.fbMiss, c.sat ++ c.ctMiss, c.mbxRej ++ c.mbxStale]

/-- Data of an axis (R199). -/
def axisData (a : Axis) : List Byte :=
  leBytes 8 (wrap 64 a.extPos) ++ leBytes 8 a.extCycle ++ wordsBytes (cntWords a.cnt) ++ leBytes 4 a.cnt.sticky.toNat

/-- Data of a Millrace port (R199). -/
def portData (s : State) (p : Nat) : List Byte :=
  wordsBytes [s.netCnt p, BitVec.ofNat 32 (s.mport p).fArrive.toNat, s.netState p]

/-- Data of a local axis port (R199). -/
def localData (p : LPort) : List Byte := leBytes 4 p.fbk.raw.toNat ++ leBytes 4 p.fbk.filt.toNat ++ leBytes 2 p.fbk.illegal.toNat

/-- The entries of the internal units, as they latch now (R196, R199). -/
def internalEntries (s : State) (t : Nat) : List SnapEntry :=
  let e (target : Nat) (data : List Byte) : SnapEntry :=
    { target := BitVec.ofNat 16 target, status := 0, latch := BitVec.ofNat 64 s.now, data := data }
  [e 0 (s.timeData t)] ++ (List.range s.nAxes).map (fun i => e (tAxis i) (axisData (s.axis i)))
    ++ (List.range s.nPorts).map (fun i => e (tPort i) (s.portData i))
    ++ (List.range s.nLocal).map fun i => e (tLocal i) (localData (s.lport i))

/-- The nodes in scope (R200). -/
def snapNodes (s : State) (scope : Nat) : List Nat := (List.range s.nNodes).filter fun i =>
  let n := s.node i
  n.used && (if n.cls = 3 then field scope 2 1 == 1 else field scope 1 1 == 1)

/-- A snapshot begins: nodes in scope are asked by service message, those without the mailbox are reported as not supported
(R196-R198). -/
def snapStart (s : State) (id t scope : Nat) (pkt : Option Pkt) : State :=
  let ns := s.snapNodes scope
  let asked := ns.filter fun i => (s.node i).caps.getLsbD 6
  let entry (i : Nat) : SnapEntry :=
    { target := BitVec.ofNat 16 (tNode i), index := i, status := if asked.contains i then 3 else 2 }
  let s := s.modSnap id fun _ =>
    { time := t, state := 1, scope := BitVec.ofNat 3 scope, entries := ns.map entry, waiting := asked, pkt := pkt }
  runAll (fun i s => (s.sendSvc i 0x0005 (BitVec.ofNat 32 id :: leWords 2 t)).emit (.snapRequest i id t)) asked s

/-- A snapshot completes once every unit in scope has reported (R200). -/
def snapCheck (s : State) (id : Nat) : State :=
  let x := s.snap id
  if x.state = 1 ∧ x.waiting.isEmpty = true ∧ (x.latched = true ∨ x.scope.getLsbD 0 = false) then
    let s := s.modSnap id fun x => { x with state := 2 }
    match x.pkt with
    | some p => s.finish p []
    | none => s
  else s

/-- The waiting command of a snapshot no longer names a time to come. -/
def dropCmd (s : State) (opcode : Half) (p : Option Pkt) : State :=
  match p with
  | none => s
  | some p => { s with cmds := s.cmds.filter fun c => !(c.opcode == opcode && c.pkt == p) }

/-- The head answers its upstream head's request with its own time base data (R198). -/
def snapAnswer (s : State) (id t : Nat) (late : Bool) : State :=
  let data := s.timeData t
  let head := BitVec.ofNat 32 (id + 2 ^ 8 * b2n late + 2 ^ 16 * data.length)
  let words := head :: leWords 2 s.now ++ leWords 8 (leNat data)
  { s with net := { s.net with conf := { s.net.conf with upq := s.net.conf.upq ++ [(0x0006, words)] } } }

/-- Internal units latch at the first tick at or after T (R196). -/
def snapLatch (s : State) (id : Nat) : State :=
  let x := s.snap id
  if x.state = 1 ∧ x.latched = false ∧ s.now ≥ x.time then
    let es := if x.scope.getLsbD 0 then s.internalEntries x.time else []
    let s := (s.dropCmd 0x0302 x.pkt).modSnap id fun x => { x with latched := true, entries := es ++ x.entries }
    let s := match x.upLate with
      | some late => s.snapAnswer id x.time late
      | none => s
    s.snapCheck id
  else s

/-- A node's report (R197, R198). -/
def snapReport (s : State) (n id : Nat) (late : Bool) (latch : Nat) (data : List Byte) : State :=
  let x := s.snap id
  if x.state = 1 ∧ x.waiting.contains n = true then
    (s.modSnap id fun x => { x with
      waiting := x.waiting.filter fun i => i != n
      entries := x.entries.map fun e =>
        if e.target = BitVec.ofNat 16 (tNode n) then { e with status := BitVec.ofNat 8 (b2n late), latch := BitVec.ofNat 64 latch, data := data.take 64 }
        else e }).snapCheck id
  else s

/-- Units that have not reported by T + 100 ms (R200). -/
def snapTimeout (s : State) (id : Nat) : State :=
  let x := s.snap id
  if x.state = 1 ∧ s.now ≥ x.time + 100000000 then
    let s := (s.dropCmd 0x0302 x.pkt).modSnap id fun x => { x with state := 3, waiting := [] }
    match x.pkt with
    | some p => s.reply p stTimeout 0 []
    | none => s
  else s

/-- The upstream head asks for a snapshot: this head runs it over its own scope and, when asked too late, latches at once (R197,
R198). -/
def snapRequest (s : State) (id t : Nat) : State :=
  if s.net.conf.role = false ∨ id ≥ 4 ∨ (s.snap id).state = 1 then s
  else
    let late := decide (s.now > t)
    let s := (s.snapStart id t 7 none).modSnap id fun x => { x with upLate := some late }
    if late then s.snapLatch id else s

/-- SNAPSHOT_AT (R196, R200). -/
def bodySnapshotAt (c : Ctx) (p : Pkt) (s : State) : Verdict :=
  let id := p.fld 2 0 2
  let scope := p.fld 2 8 3
  let t := p.w64 0
  if scope = 0 then badParam 2
  else if c.late = true ∧ t < s.cycleNs (s.k + 2) then .fail stLate 0
  else if (s.snap id).state = 1 ∨ s.cmdsFull = true then .fail stBusy 0
  else .accept ((s.enqueueCmd 0x0302 p (s.cycleFrom t)).snapStart id t scope (some p))

/-- Entries that SNAPSHOT_READ returns. -/
def readEntries (p : Pkt) (s : State) : List SnapEntry :=
  let x := s.snap (p.fld 0 0 2)
  (x.entries.drop (p.fld 1 0 16)).take (p.fld 1 16 16)

/-- An entry of a result (R201). -/
def entryBytes (e : SnapEntry) : List Byte :=
  leBytes 2 e.target.toNat ++ leBytes 2 e.index ++ [e.status, BitVec.ofNat 8 e.data.length, 0, 0] ++ leBytes 8 e.latch.toNat
    ++ (e.data ++ List.replicate (64 - e.data.length) 0)

/-- Bytes as words. -/
def bytesWords (bs : List Byte) : List Word := leWords (bs.length / 4) (leNat bs)

/-- SNAPSHOT_READ (R201). -/
def bodySnapshotRead (_ : Ctx) (p : Pkt) (s : State) : Verdict :=
  let x := s.snap (p.fld 0 0 2)
  let n := p.fld 1 16 16
  if n = 0 ∨ n > 50 then badParam 1
  else
    let es := readEntries p s
    .done (leWords 2 x.time ++ [BitVec.ofNat 32 (x.entries.length + 65536 * es.length), BitVec.ofNat 32 x.state.toNat]
      ++ es.flatMap fun e => bytesWords (entryBytes e)) s

end State

/-- SNAPSHOT_AT (R196, R200). -/
def opSnapshotAt : Op :=
  { opcode := 0x0302, len := lenIs 16, cycle := fun p s => some (s.cycleFrom (p.w64 0)), body := State.bodySnapshotAt }
/-- SNAPSHOT_READ (R201). -/
def opSnapshotRead : Op :=
  { opcode := 0x0303, len := lenIs 8, res := fun p s => 16 + 80 * (State.readEntries p s).length, body := State.bodySnapshotRead }

/-- SNAPSHOT_AT (R196). -/
def execSnapshotAt (p : Pkt) (s : State) : Result := .next (State.carry opSnapshotAt p s)
/-- SNAPSHOT_READ (R201). -/
def execSnapshotRead (p : Pkt) (s : State) : Result := .next (State.carry opSnapshotRead p s)
/-- SNAPSHOT_LATCH (R196). -/
def execSnapshotLatch (id : Nat) (s : State) : Result := .next (s.snapLatch id)
/-- SNAPSHOT_REQUEST (R198). -/
def execSnapshotRequest (id t : Nat) (s : State) : Result := .next (s.snapRequest id t)
/-- SNAPSHOT_REPORT (R198). -/
def execSnapshotReport (node id : Nat) (late : Bool) (latch : Nat) (data : List Byte) (s : State) : Result :=
  .next (s.snapReport node id late latch data)
/-- SNAPSHOT_TIMEOUT (R200). -/
def execSnapshotTimeout (id : Nat) (s : State) : Result := .next (s.snapTimeout id)

end Sys2Proof.Machine
end

