-- ==== Sys2Proof/Machine/NetSvc.lean ====
section
/-! DEFINITION. The service mailbox: segments to and from nodes, and NET_NODE_MAILBOX (05 R159-R162, 06 R198). -/
namespace Sys2Proof.Machine

/-- A message with its type word (R160). -/
def SvcMsg.all (m : SvcMsg) : List Word := BitVec.ofNat 32 m.kind.toNat :: m.words

/-- Types whose sender is owed a reply, but for a node maker's own (R160). -/
def owedKind (k : Half) : Bool := k == 0x0001 || k == 0x0003 || k == 0x0005

/-- The S-frame under construction: state, segments in order, and bytes left of S_MAX (R159). -/
structure SBuild where
  st : State
  segs : List Seg := []
  room : Nat

/-- Payload bytes that fit a segment in `room` bytes (R159). -/
def capOf (room : Nat) : Nat := min 1016 ((room - 8) / 4 * 4)

/-- An up segment for a node, confirming what it sent before (R159, R160). -/
def addUp (cap : Nat) (b : SBuild) (n : Nat) : SBuild :=
  let x := b.st.node n
  if b.room < 12 then b
  else
    let c := min cap (capOf b.room)
    { st := b.st.modNode n fun x => { x with confirm := false }
      segs := b.segs ++ [{ node := n, up := true, first := false, last := false, ack := x.confirm, cap := c }]
      room := b.room - 8 - c }

/-- A node's reply is owed once the last segment of a message has been sent (R160). -/
def expects (s : State) (m : SvcMsg) : Bool :=
  owedKind m.kind || (match (s.node m.node).mailx with | some x => x.expectReply && decide (m.kind.toNat ≥ 0x0100) | none => false)

/-- The next segment of a message, with the up segment behind its last one (R160; log entry 38). -/
def addDown (b : SBuild) (m : SvcMsg) : SBuild :=
  if b.room < 12 then b
  else
    let chunk := (m.all.drop m.sent).take (capOf b.room / 4)
    let last := decide (m.sent + chunk.length ≥ m.all.length)
    let seg : Seg := { node := m.node, first := m.sent == 0, last := last, msg := m.msg, seq := BitVec.ofNat 8 m.seq
                       cap := 4 * chunk.length, words := chunk }
    let b := { b with segs := b.segs ++ [seg], room := b.room - 8 - 4 * chunk.length }
    if last && expects b.st m then addUp 64 { b with st := b.st.modNode m.node fun x => { x with owes := true } } m.node else b

/-- The first message of each node, in the order of the queue. -/
def firstOf : List Nat → List SvcMsg → List SvcMsg
  | _, [] => []
  | seen, m :: t => if seen.contains m.node then firstOf seen t else m :: firstOf (m.node :: seen) t

namespace State

/-- S_MAX of a port's line, or 1 024 on a port the active generation does not name (R159). -/
def sMax (s : State) (port : Nat) : Nat := match s.lineOf port with | some l => l.sMax | none => 1024

/-- The S-frame of a port: down segments of waiting messages, then up segments for the nodes that want or owe one, in turn (R159,
R160). -/
def buildS (s : State) (port : Nat) : SBuild :=
  let p := s.mport port
  let b := (firstOf [] p.svc).foldl addDown { st := s, room := s.sMax port }
  let done := b.segs.filterMap fun g => if g.up then some g.node else none
  let want := (p.pos.drop p.upTurn ++ p.pos.take p.upTurn).filter fun n =>
    let x := s.node n
    (x.svcPending || x.owes || x.confirm) && !done.contains n
  let b' := want.foldl (addUp 256) b
  let served := (b'.segs.drop b.segs.length).map Seg.node
  match served.getLast? with
  | some n => { b' with st := b'.st.modMPort port fun p => { p with upTurn := (p.pos.takeWhile fun i => i != n).length + 1 } }
  | none => b'

/-- A message has been delivered whole: NET_NODE_MAILBOX without a reply is done (R161). -/
def delivered (s : State) (m : SvcMsg) : State :=
  match (s.node m.node).mailx with
  | some x =>
    if x.expectReply = false ∧ m.kind.toNat ≥ 0x0100 then (s.modNode m.node fun n => { n with mailx := none }).finish x.pkt [] else s
  | none => s

/-- A node accepted a down segment (R160). -/
def downAcked (s : State) (port : Nat) (g : Seg) : State :=
  match (s.mport port).svc.find? fun m => m.node == g.node && m.msg == g.msg && m.seq == g.seq.toNat with
  | none => s
  | some m =>
    let m' := { m with sent := m.sent + g.words.length, seq := m.seq + 1 }
    if m'.sent ≥ m.all.length then
      (s.modMPort port fun p => { p with svc := p.svc.filter fun x => x != m }).delivered m
    else s.modMPort port fun p => { p with svc := p.svc.map fun x => if x = m then m' else x }

/-- A reply to a forwarded command finds the command it belongs to (02 R54, 05 R162). -/
def replyMessage (s : State) (n : Nat) (ws : List Word) : State :=
  let tag := (ws.getD 0 0).extractLsb' 0 16
  match s.host.fwd.find? fun f => f.node == n && f.pkt.tag == tag with
  | none => s
  | some f => s.forwardReply f.id ((ws.getD 0 0).extractLsb' 16 16) ((ws.getD 3 0).extractLsb' 0 16) (ws.drop 4)

/-- A node maker's message answers NET_NODE_MAILBOX (R161). -/
def makerMessage (s : State) (n : Nat) (ws : List Word) : State :=
  match (s.node n).mailx with
  | none => s
  | some x =>
    if x.expectReply then
      let s := s.modNode n fun y => { y with mailx := none }
      let fits := match x.pkt.src with
        | .ring _ => decide (4 * ws.length ≤ (if x.pkt.rbuf then x.pkt.rbufLen else 48))
        | _ => true
      if fits then s.finish x.pkt ws else s.reply x.pkt stBadLength noWord []
    else s

/-- A whole message from a node (R160, R161, 06 R198). -/
def received (s : State) (n : Nat) (ws : List Word) : State :=
  let s := s.modNode n fun x => { x with owes := false }
  let t := ((ws.getD 0 0).extractLsb' 0 16).toNat
  let body := ws.drop 1
  if t = 0x0002 then s.recordAck n ((body.getD 0 0).extractLsb' 0 16)
  else if t = 0x0004 then s.replyMessage n body
  else if t = 0x0006 then
    let h := (body.getD 0 0).toNat
    s.snapReport n (field h 0 2) (field h 8 2 == 1) ((body.getD 1 0).toNat + 2 ^ 32 * (body.getD 2 0).toNat)
      ((wordsBytes (body.drop 3)).take (field h 16 8))
  else if t ≥ 0x0100 then s.makerMessage n ws
  else s

/-- A node filled an up segment: its words join the message, which is complete with its last segment; the segment is to be
confirmed, and one seen before is not taken again (R160). -/
def upFilled (s : State) (g : Seg) : State :=
  let x := s.node g.node
  if x.rxLast = some (g.msg, g.seq) then s.modNode g.node fun x => { x with confirm := true }
  else
    let ws := (if g.first then [] else x.rx) ++ g.words
    let s := s.modNode g.node fun x => { x with confirm := true, rxLast := some (g.msg, g.seq), rx := if g.last then [] else ws }
    if g.last then s.received g.node ws else s

/-- A frame with a bad FCS is counted (05 NET_STAT, NET_CNT). -/
def badFcs (s : State) (port : Nat) : State :=
  (s.setStat port 1).modMPort port fun p => { p with fcsCount := satInc p.fcsCount }

/-- A returning S-frame (R160). -/
def segmentReturn (s : State) (port : Nat) (fcsOk : Bool) (segs : List Seg) : State :=
  if port ≥ s.nPorts then s
  else if !fcsOk then s.badFcs port
  else runAll (fun g s => if g.up then (if g.filled then s.upFilled g else s) else if g.ack then s.downAcked port g else s) segs s

/-- NET_NODE_MAILBOX (R161). -/
def bodyNodeMailbox (_ : Ctx) (p : Pkt) (s : State) : Verdict :=
  let n := s.node p.unit
  let ms := p.w 1
  if !n.used || n.lost then .fail stNotReady 0
  else if p.fld 0 0 16 < 0x0100 then badParam 0
  else if ms < 1 ∨ ms > 10000 then badParam 1
  else if p.w 2 > 4060 then badParam 2
  else if n.mailx.isSome then .fail stBusy 0
  else
    .accept ((s.modNode p.unit fun x => { x with
      mailx := some { pkt := p, expectReply := p.fld 0 16 1 == 1, endNs := s.now + ms * 1000000 } }).sendSvc p.unit
        (BitVec.ofNat 16 (p.fld 0 0 16)) (p.words.drop 3))

/-- The reply of NET_NODE_MAILBOX did not come in time (R161). -/
def mailboxTimeout (s : State) (n : Nat) : State :=
  match (s.node n).mailx with
  | none => s
  | some x =>
    if s.now < x.endNs then s
    else
      let s := s.modNode n fun y => { y with mailx := none }
      (s.modMPort (s.node n).port.toNat fun p => { p with
        svc := p.svc.filter fun m => !(m.node == n && decide (m.kind.toNat ≥ 0x0100)) }).reply x.pkt stTimeout 0 []

end State

/-- NET_NODE_MAILBOX (R161). -/
def opNetNodeMailbox : Op := { opcode := 0x0203, kind := 3, len := lenVar 12 2, body := State.bodyNodeMailbox }

/-- NET_NODE_MAILBOX (R161). -/
def execNetNodeMailbox (p : Pkt) (s : State) : Result := .next (State.carry opNetNodeMailbox p s)
/-- SERVICE_SEGMENT_RETURN (R160). -/
def execServiceSegmentReturn (port : Nat) (fcsOk : Bool) (segs : List Seg) (s : State) : Result :=
  .next (s.segmentReturn port fcsOk segs)
/-- NODE_MAILBOX_TIMEOUT (R161). -/
def execNodeMailboxTimeout (node : Nat) (s : State) : Result := .next (s.mailboxTimeout node)

end Sys2Proof.Machine
end

