-- ==== Sys2Proof/Machine/NetFrames.lean ====
section
/-! DEFINITION. Frames on the lines: departure and return of F-frames, return of C-frames, lost nodes, links, and the network's own
settings (01 R12, R21, R22, R26, R30; 05 R125-R129, R133, R155, R157; 06 R195). -/
namespace Sys2Proof.Machine

namespace State

/-! ## Departure (01 R12, R20) -/

/-- A head of a pair sends frames on a twin ring port (13 R367). -/
def twinSends (s : State) (port : Nat) : Bool :=
  (s.mport port).topo != 2 ||
    match s.twn.state with
    | .joining => !(s.mport port).turned
    | .outOfStep => s.twn.missing == 0
    | .isolated => false
    | _ => true

/-- F-frames leave every port in RUN whose line cycle begins. -/
def fDepartures (s : State) : State :=
  match s.net.active with
  | none => s
  | some g =>
    runAll (fun i s =>
      if (s.mport i).state = .run ∧ s.lineBegins i = true ∧ s.twinSends i = true then s.emit (.fFrame i (BitVec.ofNat 32 s.k) (BitVec.ofNat 16 g.gen)) else s)
      (List.range s.nPorts) s

/-! ## Return of an F-frame (01 R21, R22, R26; 05 R129, R135, R155) -/

/-- LINE_OVER_PLAN: the bit, and with it the event when the bit was 0 (01 R22). -/
def overPlan (s : State) (port : Nat) (derived : Bool) (instant limit cycle : Nat) : State :=
  if (s.mport port).stat.getLsbD 0 then s
  else
    (s.setStat port 0).event 0x0203 (tPort port) ([BitVec.ofNat 8 (if derived then 2 else 1), 0, 0, 0] ++ leBytes 4 instant
      ++ leBytes 4 limit ++ leBytes 8 cycle)

/-- Axes bound to a node, with their flags (05 R135). -/
def flagNode (s : State) (n : Nat) (f : BitVec 20) : State :=
  { s with axes := s.axes.map fun a =>
      if a.hdr.bound && !a.hdr.binding.getLsbD 31 && field a.hdr.binding.toNat 0 10 == n then { a with flags := a.flags ||| f } else a }

/-- The reports of a slot are counted once in a line cycle (05 R135, 01 R32). -/
def judgeSlot (s : State) (x : FSlot) : State :=
  if (s.node x.node).judged then s
  else
    let s := s.modNode x.node fun n => { n with
      judged := true, svcPending := x.svcPending
      cmdMissCnt := if x.cmdMiss then satInc n.cmdMissCnt else n.cmdMissCnt
      tieCnt := if x.tie then satInc n.tieCnt else n.tieCnt }
    s.flagNode x.node (flagIf x.cmdMiss flagCmdMiss ||| flagIf x.tie flagClaimTie)

/-- One slot of a frame that came in time: of two valid copies that of the DIR = 0 frame is used (05 R129). -/
def takeSlot (dir : Bool) (x : FSlot) (s : State) : State :=
  if (s.gnode x.node).isNone then s
  else
    let s := s.judgeSlot x
    if x.valid && ((s.node x.node).slotNow.isNone || !dir) then s.modNode x.node fun n => { n with slotNow := some x } else s

/-- Positions with a valid slot in a frame. -/
def validPositions (s : State) (slots : List FSlot) : List Nat :=
  slots.filterMap fun x => if x.valid then some (s.node x.node).pos.toNat else none

/-- The port that stands for a line: the first of a single-head ring's two (05 R129). -/
def ownPort (s : State) (port : Nat) : Nat := match s.lineOf port with | some l => l.port | none => port

/-- A looped frame of a ring: the ring is turned when both directions return looped; on a twin ring the other direction's frame is
the partner's, so this head's own is enough (05 R155; log entry 36). -/
def noteLoop (s : State) (f : FFrame) : State :=
  let p := s.ownPort f.port
  if (s.mport p).topo = 0 ∨ f.looped = false then s
  else
    let ps := s.validPositions f.slots
    let s := s.modMPort p fun x =>
      if f.dir then { x with loopedDir1 := true, turnHi := ps.min? } else { x with loopedDir0 := true, turnLo := ps.max? }
    let x := s.mport p
    if !x.turned && (x.topo == 2 || (x.loopedDir0 && x.loopedDir1)) then
      let s := (s.modMPort p fun x => { x with turned := true }).setStat p 3
      let s := if x.topo = 1 then s.modMPort x.ringPort.toNat fun y => { y with turned := true } else s
      s.eventRingTurned p true x.turnLo x.turnHi
    else s

/-- Nodes of a port's line in the active generation. -/
def lineHops (s : State) (port : Nat) : Nat := match s.net.active with | some g => (lineNodes g port).length | none => 0

/-- The round trip that the measured delays give, in 1/16 ns (06 R195; log entry 35). -/
def roundTrip16 (s : State) (port : Nat) (looped : Bool) : Nat :=
  let p := s.mport port
  let h := s.lineHops port
  if looped then 9600 + 2 * p.links h + p.fwds h + p.fwds (h - 1) else 9600 + p.links h + p.closeDly.toNat + p.fwds h

/-- The round trip of an F-frame differs from the measured delays by more than 8 ns (06 R195; log entry 35). -/
def drifted (s : State) (f : FFrame) : Bool :=
  match s.net.active, s.lineOf f.port with
  | some g, some l =>
    let bytes := frameBytes ((lineNodes g l.port).map GNode.fLen)
    let trip : Int := 16 * ((f.atNs + (s.k - s.lineCycle f.port) * s.tmb.tc : Nat) - s.fDepart : Int) - (bytes * (genTimes l.gen).2 / 5 : Nat)
    decide ((trip - s.roundTrip16 l.port f.looped).natAbs > 128)
  | _, _ => false

/-- F_FRAME_ARRIVAL: taken whole, stamped and judged against D_U of its line's compute cycle (01 R21, R26, R31). A frame of an
earlier line cycle comes late. -/
def fArrival (s : State) (f : FFrame) : State :=
  let old := decide (f.cycle ≠ BitVec.ofNat 32 (s.lineCycle f.port))
  let since := f.atNs + (s.k - s.extend f.cycle) * s.tmb.tc
  let limit := s.dU + (match s.lineOf f.port with | some l => l.cOffset * s.tmb.tc | none => 0)
  if f.port ≥ s.nPorts then s
  else if !f.fcsOk then s.badFcs f.port
  else
    let d := !old && s.drifted f
    let s := s.modMPort f.port fun p => { p with
      fArrive := BitVec.ofNat 18 since, driftRun := if d then p.driftRun + 1 else 0 }
    if old || decide (since > limit) then
      ((s.setStat f.port 2).modMPort f.port fun p => { p with lateCount := satInc p.lateCount }).overPlan f.port false since limit (s.extend f.cycle)
    else (runAll (takeSlot f.dir) f.slots (s.modMPort f.port fun p => { p with fSeen := true })).noteLoop f

/-! ## Return of a C-frame (01 R21) -/

/-- From a C-frame's return to its arrival at the last node, in 1/16 ns: the return way of the looped frame, or on a whole ring
the closing way (01 R21; log entry 35). -/
def returnWay16 (s : State) (port : Nat) (looped dir : Bool) : Nat :=
  let p := s.mport port
  let h := s.lineHops port
  if looped then 4800 + p.links h + p.fwds h
  else if dir then 4800 + p.links 1 + p.fwds 1
  else 4800 + p.closeDly.toNat + (p.fwds h - p.fwds (h - 1))

/-- C_FRAME_RETURN: a frame of line cycle k, whose return is timed from C(k). -/
def cReturn (s : State) (port : Nat) (cycle : Word) (atNs : Nat) (fcsOk looped dir : Bool) : State :=
  if port ≥ s.nPorts then s
  else if !fcsOk then s.badFcs port
  else
    match s.lineOf port with
    | none => s
    | some l =>
      let derived := atNs - s.returnWay16 l.port looped dir / 16
      let limit := max 1 l.divider * s.tmb.tc - s.guardNs
      let s := s.modMPort port fun p => { p with cArrive := BitVec.ofNat 18 derived }
      if derived > limit then s.overPlan port true derived limit (s.extend cycle) else s

/-! ## Lost nodes (01 R30, 05 R153) -/

/-- NODE_LOST: the node has been silent for LINK_LOSS_CYCLES of its line's cycles. Its axes take the cause at D_X (03 R93). -/
def nodeLost (s : State) (n : Nat) : State :=
  let x := s.node n
  let p := s.mport x.port.toNat
  if x.used && !x.lost && x.graceEnd.isNone && decide (x.invalidRun ≥ p.linkLoss.toNat) && s.lineComputes x.port.toNat then
    (s.modNode n fun y => { y with lost := true }).eventNodeLost n 0
  else s

/-- JOIN_GRACE_EXPIRY (05 R153). -/
def graceExpiry (s : State) (n : Nat) : State :=
  match (s.node n).graceEnd with
  | some c => if s.k ≥ c then s.modNode n fun x => { x with graceEnd := none } else s
  | none => s

/-! ## Links and settings (05 R125, R127, R129, R157; 06 R195) -/

/-- PORT_LINK_DOWN (05 R125). -/
def linkDown (s : State) (port : Nat) : State :=
  if port ≥ s.nPorts then s else (s.setStat port 5).modMPort port fun p => { p with link := false }

/-- PORT_LINK_UP: refused at half duplex or without auto-negotiation, but for Gen3, which has none (05 R124, R125). A twin ring
port stays down while the head is ISOLATED (13 R376), and every port while its SerDes is not released (14 R391). -/
def linkUp (s : State) (port : Nat) (fullDuplex negotiated : Bool) : State :=
  if port ≥ s.nPorts then s
  else
    let p := s.mport port
    if (s.twn.state = .isolated ∧ p.topo = 2) ∨ s.rst.islands.getD 1 .inReset ≠ .running then s
    else if fullDuplex && (negotiated || p.gen == 3) then s.modMPort port fun p => { p with link := true }
    else s.linkDown port

/-- NET_COM_ETYPE_WRITE (05 R127). -/
def writeEtype (s : State) (v : Word) : State :=
  if s.net.ports.all (fun p => p.state == .dark) then { s with net := { s.net with etype := v.extractLsb' 0 16 } } else s

/-- NET_COM_CLAIM_WRITE (05 NET_COM_CLAIM). -/
def writeClaim (s : State) (v : Word) : State :=
  let b := field v.toNat 0 16
  if 1 ≤ b ∧ b ≤ 0xFFFD then { s with net := { s.net with claimBase := BitVec.ofNat 16 b } } else s

/-- DLY_DRIFT (06 R195). -/
def dlyDrift (s : State) (port : Nat) : State :=
  if (s.mport port).driftRun ≥ 16 then
    { s.modMPort port fun p => { p with remeasure := true } with tmb := { s.tmb with dlyDrift := true } }
  else s

/-- NET_JOIN_CONFIGURE (05 R157). -/
def bodyJoinConfigure (_ : Ctx) (p : Pkt) (s : State) : Verdict :=
  if p.fld 0 8 8 = 0 ∨ p.fld 0 16 16 < 100 then badParam 0
  else if p.fld 1 0 11 < 16 ∨ p.fld 1 0 11 > 1024 then badParam 1
  else
    .done [] (s.modMPort p.unit fun x => { x with
      cfgNext := some (s.k + 1, p.fld 0 0 1 == 1, BitVec.ofNat 8 (p.fld 0 8 8), BitVec.ofNat 16 (p.fld 0 16 16), BitVec.ofNat 11 (p.fld 1 0 11)) })

/-- Settings of NET_JOIN_CONFIGURE come into force at their cycle (05 R157). -/
def joinSettings (k : Nat) (p : MPort) : MPort :=
  match p.cfgNext with
  | some (c, en, loss, interval, lead) =>
    if k ≥ c then { p with joinEn := en, linkLoss := loss, joinInterval := interval, actLead := lead, cfgNext := none } else p
  | none => p

end State

/-- NET_JOIN_CONFIGURE (R157). -/
def opNetJoinConfigure : Op := { opcode := 0x0204, kind := 2, len := lenIs 8, body := State.bodyJoinConfigure }

/-- NET_JOIN_CONFIGURE (R157). -/
def execNetJoinConfigure (p : Pkt) (s : State) : Result := .next (State.carry opNetJoinConfigure p s)
/-- F_FRAME_DEPART (01 R12). -/
def execFFrameDepart (s : State) : Result := .next s.fDepartures
/-- F_FRAME_ARRIVAL (01 R21). -/
def execFFrameArrival (f : FFrame) (s : State) : Result := .next (s.fArrival f)
/-- C_FRAME_RETURN (01 R21). -/
def execCFrameReturn (port : Nat) (cycle : Word) (atNs : Nat) (fcsOk looped dir : Bool) (s : State) : Result :=
  .next (s.cReturn port cycle atNs fcsOk looped dir)
/-- NODE_LOST (01 R30). -/
def execNodeLost (node : Nat) (s : State) : Result := .next (s.nodeLost node)
/-- JOIN_GRACE_EXPIRY (R153). -/
def execJoinGraceExpiry (node : Nat) (s : State) : Result := .next (s.graceExpiry node)
/-- DLY_DRIFT (06 R195). -/
def execDlyDrift (port : Nat) (s : State) : Result := .next (s.dlyDrift port)
/-- PORT_LINK_DOWN (R125). -/
def execPortLinkDown (port : Nat) (s : State) : Result := .next (s.linkDown port)
/-- PORT_LINK_UP (R125). -/
def execPortLinkUp (port : Nat) (fullDuplex negotiated : Bool) (s : State) : Result := .next (s.linkUp port fullDuplex negotiated)
/-- NET_COM_ETYPE_WRITE (R127). -/
def execNetComEtypeWrite (v : Word) (s : State) : Result := .next (s.writeEtype v)
/-- NET_COM_CLAIM_WRITE (R129). -/
def execNetComClaimWrite (v : Word) (s : State) : Result := .next (s.writeClaim v)

end Sys2Proof.Machine
end

