-- ==== Sys2Proof/Machine/NetWalk.lean ====
section
/-! DEFINITION. Discovery: NET_DISCOVER, the WALK and the ASSIGN frames (05 R139-R144, R163; 13 R385). -/
namespace Sys2Proof.Machine

namespace State

/-- A port carries slots in the active generation (R142). -/
def carriesSlots (s : State) (port : Nat) : Bool :=
  match s.net.active with
  | none => false
  | some g => g.nodes.any fun n => n.port == s.ownPort port

/-- NET_DISCOVER (R142; log entry 34). -/
def bodyDiscover (_ : Ctx) (p : Pkt) (s : State) : Verdict :=
  let port := p.unit
  let gen := p.fld 0 0 2
  let topo := p.fld 0 4 2
  let rp := p.fld 0 16 6
  let badRing := topo = 1 ∧ (rp ≥ s.nPorts ∨ rp = port)
  let partner := match s.twn.peer with | some x => x.linkPorts.contains port | none => false
  if (s.mport port).state = .walking ∨ s.carriesSlots port = true
      ∨ (topo = 1 ∧ ¬ badRing ∧ (s.carriesSlots rp = true ∨ (s.mport rp).state = .walking)) then .fail stDenied 0
  else if topo = 2 ∧ partner = false then .fail stNotReady 0
  else if gen = 0 ∨ topo = 3 ∨ badRing then badParam 0
  else
    let foreign := match p.src with | .twin _ => true | _ => false
    .accept (s.modMPort port fun x => { x with
      state := .walking
      walk := some { pkt := p, gen := gen, topo := topo, ringPort := rp, expect := p.fld 1 0 6, before := x.state
                     forPartner := foreign && topo == 2 } })

/-- A discovery is refused: the port returns to the state it was in (R142). -/
def walkFail (s : State) (port : Nat) (status detail : Half) : State :=
  match (s.mport port).walk with
  | none => s
  | some w => (s.modMPort port fun x => { x with state := w.before, walk := none }).reply w.pkt status detail []

/-- What the walk finds against it, in the order of R142's table. -/
def walkFault (s : State) (w : Walk) (looped : Bool) (ids : List DWord) (free : List Nat) (recs : List NodeRec) : Option (Half × Half) :=
  if !recs.all (fun r => r.gens.getLsbD (w.gen - 1)) then some (stBadParam, noWord)
  else if recs.length > 32 ∨ (w.expect ≠ 0 ∧ recs.length ≠ w.expect) then some (stBadParam, noWord)
  else if w.topo ≠ 0 ∧ looped = true then some (stBadParam, noWord)
  else if (s.assignIndices free [] recs).isNone ∨ s.nestingFits recs ids = false then some (stCapacity, 0)
  else none

/-- Free values for the hops of a ring, whose frame does not return through its nodes (log entry 33). -/
def freeHops : Nat → State → List (BitVec 24) × State
  | 0, s => ([], s)
  | n + 1, s =>
    let (v, s) := s.free 24
    let (l, s) := freeHops n s
    (v :: l, s)

/-- Hop delays, forwarding latencies and the closing delay that a frame's stamps give (R141; log entry 33). -/
def setDelays (s : State) (port : Nat) (looped : Bool) (aH16 dH16 : Nat) (xs : List Stamps) : State :=
  let fwds := xs.map fun x => BitVec.ofInt 16 (fwdDelay x)
  let s := s.modMPort port fun p => { p with fwd := overlay p.fwd fwds }
  if looped then
    let ds := (hopDelays aH16 dH16 xs).map (BitVec.ofInt 24)
    s.modMPort port fun p => { p with linkDly := overlay p.linkDly ds }
  else
    let (ds, s) := freeHops xs.length s
    let (c, s) := s.free 24
    s.modMPort port fun p => { p with linkDly := overlay p.linkDly ds, closeDly := c }

/-- The line is linked: the port, and on a single-head ring its other end (R143, R144). -/
def linkPorts (s : State) (port : Nat) (w : Walk) : State :=
  let s := s.modMPort port fun x => { x with state := .linked, walk := none }
  if w.topo = 1 then
    s.modMPort w.ringPort fun x => { x with
      state := .linked, gen := BitVec.ofNat 2 w.gen, topo := 1, ringPort := BitVec.ofNat 6 port, turned := false, pos := [] }
  else s

/-- The result of NET_DISCOVER (R142). -/
def walkResult (w : Walk) : List Word := leWords 2 (w.found + 2 ^ 8 * w.newN + 2 ^ 16 * w.keptN)

/-- Table, positions and delays after a successful WALK (R143). -/
def walkCommit (s : State) (port : Nat) (w : Walk) (looped : Bool) (aH16 dH16 : Nat) (free : List Nat)
    (found : List (Nat × Bool × NodeRec)) : State :=
  let n := found.length
  let s := runAll (fun i s => s.freeNode i) free s
  let s := s.modMPort port fun x => { x with
    gen := BitVec.ofNat 2 w.gen, topo := BitVec.ofNat 2 w.topo, ringPort := BitVec.ofNat 6 (if w.topo = 1 then w.ringPort else 0)
    turned := false, pos := found.map Prod.fst, svc := [], dq := [], join := none, reclose := none, probeP := none }
  let s := s.setDelays port looped aH16 dH16 (found.map fun x => recStamps x.2.2)
  let s := runAll (fun x s =>
      let s := s.modNode x.2.1 fun old => nodeEntry port x.1 x.2.2.2 old
      s.modNode x.2.1 fun y => { y with
        sentCfg := some (s.walkCfg (s.mport port) x.2.1 n x.1), unacked := some 0, graceEnd := none })
    (mapI (fun i x => (i, x)) found) s
  let kept := (found.filter fun x => x.2.1).length
  let w := { w with
    found := n, newN := n - kept, keptN := kept, assigning := true, sent := false, awaiting := found.map fun x => x.2.2.identity }
  if w.forPartner then (s.linkPorts port w).finish w.pkt (walkResult w)
  else s.modMPort port fun x => { x with walk := some w }

/-- WALK_RETURN: the records and stamps of a WALK are evaluated (R142, R143). -/
def walkReturn (s : State) (port : Nat) (far looped : Bool) (aH16 dH16 : Nat) (recs : List NodeRec) : State :=
  match (s.mport port).walk with
  | none => s
  | some w =>
    if w.assigning || !(w.sent || w.forPartner) || recs.isEmpty || (far && w.topo == 0) then s
    else
      let ids := recs.map NodeRec.identity
      let free := (List.range s.nNodes).filter fun i =>
        (s.node i).used && (s.node i).port.toNat == port && !ids.contains (s.node i).identity
      match s.walkFault w looped ids free recs with
      | some (st, d) => s.walkFail port st d
      | none => s.walkCommit port w looped aH16 dH16 free ((s.assignIndices free [] recs).getD [])

/-- WALK_TIMEOUT: one of three attempts, one per cycle, failed to return (R142). -/
def walkTimeout (s : State) (port : Nat) : State :=
  match (s.mport port).walk with
  | none => s
  | some w =>
    if w.assigning || !w.sent then s
    else if w.attempts ≥ 3 then s.walkFail port stTimeout 0
    else s.modMPort port fun x => { x with walk := some { w with sent := false } }

/-- ASSIGN_ACK: nodes have set their ACK words (R143, R147, R151). -/
def assignAck (s : State) (port : Nat) (acks : List DWord) : State :=
  let s := runAll (fun id s =>
    match s.indexOf id with
    | some i => (match (s.node i).unacked with | some g => s.recordAck i g | none => s)
    | none => s) acks s
  let s := runAll (fun id s => s.joinAck port id) acks s
  match (s.mport port).walk with
  | none => s
  | some w =>
    if !w.assigning then s
    else
      let left := w.awaiting.filter fun id => !acks.contains id
      if left.isEmpty then (s.linkPorts port w).finish w.pkt (walkResult w)
      else s.modMPort port fun x => { x with walk := some { w with awaiting := left } }

/-- Room of a service frame on a line, for ASSIGN (R134; log entry 42). -/
def assignRoom (s : State) (port : Nat) : Nat :=
  match s.lineOf port with
  | some l => serviceBytes l.sMax (s.lineHops l.port)
  | none => serviceBytes 1024 0

/-- The next ASSIGN of a discovery: as many nodes as fit, at least one (R134, R143). -/
def assignFrame (s : State) (port : Nat) (w : Walk) : DFrame :=
  let n := 1 + (s.assignRoom port - 142) / 76
  .assign ((w.awaiting.take n).filterMap fun id =>
    match s.indexOf id with
    | some i => (s.node i).sentCfg.map fun c => (id, c)
    | none => none)

/-- D_FRAME_HANDOVER: a discovery D-frame arrives at this head's port of a twin ring. It goes over the Oxbow link to the head that
discovers; and at that head, or one that follows its partner's discovery, it is a frame arriving at the other end of the ring
(13 R385; log entry 34). -/
def dHandover (s : State) (port : Nat) (looped : Bool) (dH16 : Nat) (recs : List NodeRec) : State :=
  match (s.mport port).walk with
  | some w =>
    let s := if w.forPartner then s.emit (.oxbowDFrame port) else s
    s.walkReturn port true looped 0 dH16 recs
  | none => if s.twn.state = .single then s else s.emit (.oxbowDFrame port)

end State

/-- NET_DISCOVER (R142). -/
def opNetDiscover : Op := { opcode := 0x0200, kind := 2, len := lenIs 16, res := fun _ _ => 8, body := State.bodyDiscover }

/-- NET_DISCOVER (R142). -/
def execNetDiscover (p : Pkt) (s : State) : Result := .next (State.carry opNetDiscover p s)
/-- WALK_RETURN (R142). -/
def execWalkReturn (port : Nat) (far looped : Bool) (aH16 dH16 : Nat) (recs : List NodeRec) (s : State) : Result :=
  .next (s.walkReturn port far looped aH16 dH16 recs)
/-- WALK_TIMEOUT (R142). -/
def execWalkTimeout (port : Nat) (s : State) : Result := .next (s.walkTimeout port)
/-- ASSIGN_ACK (R143). -/
def execAssignAck (port : Nat) (acks : List DWord) (s : State) : Result := .next (s.assignAck port acks)
/-- D_FRAME_HANDOVER (13 R385). -/
def execDFrameHandover (port : Nat) (looped : Bool) (dH16 : Nat) (recs : List NodeRec) (s : State) : Result :=
  .next (s.dHandover port looped dH16 recs)

end Sys2Proof.Machine
end

