-- ==== Sys2Proof/Machine/Time.lean ====
section
/-! DEFINITION. The time base: counters, servos, selection, holdover, the served time's slew, and PTP (06 R176-R193, R202). -/
namespace Sys2Proof.Machine

/-! ## Counters (R176, R177) -/

/-- A time in units of 2^-32 ns. -/
def TCnt.fine (c : TCnt) : Nat := c.toNs * 2 ^ 32 + c.frac.toNat

/-- A counter at a time in units of 2^-32 ns. -/
def TCnt.ofFine (t : Nat) : TCnt := TCnt.ofNs (t / 2 ^ 32) (BitVec.ofNat 32 t)

/-- A counter adds an increment (R177). -/
def TCnt.tick (c : TCnt) (incr : BitVec 40) : TCnt := TCnt.ofFine (c.fine + incr.toNat)

/-- The mean increment of the last updates of a domain (R182, R188). -/
def Domain.mean (d : Domain) : BitVec 40 :=
  if d.recent.isEmpty then d.incr
  else BitVec.ofNat 40 (((d.recent.map BitVec.toNat).foldl (· + ·) 0) / d.recent.length)

namespace State

def domain (s : State) : Dom → Domain
  | .p => s.tmb.domP
  | .s => s.tmb.domS

def modDomain (s : State) (d : Dom) (f : Domain → Domain) : State :=
  match d with
  | .p => { s with tmb := { s.tmb with domP := f s.tmb.domP } }
  | .s => { s with tmb := { s.tmb with domS := f s.tmb.domS } }

/-- The increment a domain's counter runs at (R182). -/
def domIncr (s : State) (d : Dom) : BitVec 40 :=
  let x := s.domain d
  match x.state with
  | .free => s.tmb.incrNom
  | _ => x.incr

/-- Every Millrace port is DARK. -/
def allDark (s : State) : Bool := s.net.ports.all fun p => p.state == .dark

/-- The served time may step (R185). -/
def maySteps (s : State) : Bool := s.allDark && s.cmds.isEmpty

/-- What the served time follows (R185, R189): TMB_STATUS.TARGET. -/
def timeTarget (s : State) : Nat :=
  match s.twn.state with
  | .standby | .joining => 3
  | _ =>
    if s.tmb.holdover then 2
    else
      match (s.domain s.tmb.selected).state, s.tmb.selected with
      | .free, _ => 4
      | _, .p => 0
      | _, .s => 1

/-- The gap D to the target and the target's increment, in 2^-32 ns (R185; log entry 30). -/
def timeGap (s : State) : Int × BitVec 40 :=
  let gap (d : Dom) : Int := ((s.domain d).cnt.fine : Int) - s.tmb.served.fine
  match s.timeTarget with
  | 0 => (gap .p, s.domIncr .p)
  | 1 => (gap .s, s.domIncr .s)
  | 2 => (0, s.tmb.holdIncr)
  | 3 => (s.tmb.partnerGap.getD 0, s.tmb.incrNom)
  | _ => (0, s.tmb.incrNom)

end State

/-- What the gap shrinks by while a rate r, in LSB, is brought to zero at 172 LSB per microsecond. -/
def stopShrink (r : Nat) : Nat :=
  let n := ceilN r 172
  250 * (n * r - 172 * (n * (n - 1) / 2))
where
  ceilN (a d : Nat) : Nat := (a + d - 1) / d

/-- The largest rate up to a limit that can still stop within a gap, by bits. -/
def fastest (gap lim : Nat) : Nat → Nat → Nat
  | 0, r => r
  | k + 1, r => fastest gap lim k (if r + 2 ^ k ≤ lim ∧ stopShrink (r + 2 ^ k) ≤ gap then r + 2 ^ k else r)

/-- The next difference of the increments: toward the fastest rate that does not overshoot, by at most 172 LSB, within SLEW_MAX
(R185; log entry 30). -/
def nextRate (gap rate : Int) (slewMax : Nat) : Int :=
  let lim := slewMax * (4 * 2 ^ 32) / 1000000000
  let f := fastest gap.natAbs lim 24 0
  let want : Int := if gap < 0 then -(f : Int) else f
  clampI (rate - 172) (rate + 172) want

namespace State

/-- The served increment is adjusted once a microsecond, or frozen in holdover; the served time steps where it may (R185, R188). -/
def slew (s : State) : State :=
  let g := s.timeGap
  if s.maySteps && decide (g.1.natAbs > 1000 * 2 ^ 32) then
    { s with tmb := { s.tmb with
        served := TCnt.ofFine ((s.tmb.served.fine : Int) + g.1).toNat, incr := g.2, slewing := false
        partnerGap := s.tmb.partnerGap.map fun _ => 0 } }
  else if s.timeTarget = 2 then { s with tmb := { s.tmb with incr := s.tmb.holdIncr, slewing := false } }
  else
    let rate := (s.tmb.incr.toNat : Int) - g.2.toNat
    let next := nextRate g.1 rate s.tmb.slewMax
    { s with tmb := { s.tmb with
        incr := BitVec.ofNat 40 ((g.2.toNat : Int) + next).toNat
        partnerGap := s.tmb.partnerGap.map fun p => p - 250 * next
        slewing := decide (g.1.natAbs > 2 ^ 32) } }

/-- The time base island runs (14 R392). -/
def timeRuns (s : State) : Bool := s.rst.islands.getD 0 .inReset == .running

/-- One tick of the 250 MHz clock (R177; log entry 6). -/
def tick (s : State) : State :=
  if !s.timeRuns then s
  else
    let t := s.tmb
    let s := { s with tmb := { t with
      served := t.served.tick t.incr
      domP := { t.domP with cnt := t.domP.cnt.tick (s.domIncr .p) }
      domS := { t.domS with cnt := t.domS.cnt.tick (s.domIncr .s) }
      usTick := if t.usTick ≥ 249 then 0 else t.usTick + 1 } }
    if t.usTick ≥ 249 then s.slew else s

/-- SLEWING_END: the gap is within 1 ns (R185). -/
def slewingEnd (s : State) : State :=
  if (s.timeGap).1.natAbs ≤ 2 ^ 32 then { s with tmb := { s.tmb with slewing := false } } else s

/-! ## Selection and holdover (R187, R188, R202) -/

def domCode : Dom → Nat
  | .p => 0
  | .s => 1

def dstateCode : DState → Nat
  | .free => 0
  | .acquiring => 1
  | .locked => 2
  | .lost => 3

/-- DOMAIN_SWITCH (R202). -/
def eventSwitch (s : State) (new : Dom) (prev reason : Nat) : State :=
  let d : Int := (((s.domain new).cnt.fine : Int) - s.tmb.served.fine) / 2 ^ 32
  s.event 0x0301 0 ([BitVec.ofNat 8 (domCode new), BitVec.ofNat 8 prev, BitVec.ofNat 8 reason, 0]
    ++ leBytes 4 (wrap 32 (clampI (-(2 ^ 31)) (2 ^ 31 - 1) d)))

/-- HOLDOVER (R202). -/
def eventHoldover (s : State) (entered : Bool) : State :=
  s.event 0x0302 0 ([BitVec.ofNat 8 (b2n entered), BitVec.ofNat 8 (dstateCode s.tmb.domP.state + 16 * dstateCode s.tmb.domS.state), 0, 0]
    ++ leBytes 8 s.tmb.holdIncr.toNat)

/-- A domain is selected, with its event (R187). -/
def selectDomain (s : State) (d : Dom) (reason : Nat) : State :=
  let prev := if s.tmb.holdover then 0xFF else domCode s.tmb.selected
  if d = s.tmb.selected ∧ s.tmb.holdover = false then s
  else ({ s with tmb := { s.tmb with selected := d } }).eventSwitch d prev reason

/-- Holdover ends (R188). -/
def leaveHoldover (s : State) : State := ({ s with tmb := { s.tmb with holdover := false } }).eventHoldover false

def other : Dom → Dom
  | .p => .s
  | .s => .p

/-- After a domain has become LOCKED (R187, R188). -/
def domainLocked (s : State) (d : Dom) : State :=
  if s.tmb.holdover then
    if s.tmb.select = 2 then ((s.selectDomain d 3).leaveHoldover)
    else if d = s.tmb.selected then s.leaveHoldover
    else s
  else s

/-- After the selected domain has left LOCKED or become LOST (R187, R188). -/
def domainLeft (s : State) (d : Dom) : State :=
  if d ≠ s.tmb.selected ∨ s.tmb.holdover = true then s
  else if s.tmb.select = 2 ∧ (s.domain (other d)).state = .locked then s.selectDomain (other d) 1
  else if (s.domain d).state = .lost then
    ({ s with tmb := { s.tmb with holdover := true, holdIncr := (s.domain d).mean } }).eventHoldover true
  else s

/-! ## The servo (R180-R182) -/

/-- The limit of R180, in LSB and in units of 2^-24 LSB. -/
def servoLimit : Int := 3435974

/-- An offset of a domain, in ns with 8 fraction bits, as the servo takes it; products are kept exact and the increment is
rounded to nearest (R180, R181; log entry 31). -/
def servo (nom : BitVec 40) (θ : Int) (d : Domain) : Domain :=
  let lim := servoLimit * 2 ^ 24
  let step := decide (d.cfg.stepThresh ≠ 0) && decide (θ.natAbs > d.cfg.stepThresh.toNat * 256)
  let i0 := d.integ + (d.cfg.ki.toNat : Int) * θ
  let i := if step then d.integ else clampI (-lim) lim i0
  let delta := (d.cfg.kp.toNat : Int) * θ + i
  let dc := clampI (-lim) lim delta
  let incr : BitVec 40 := BitVec.ofNat 40 ((nom.toNat : Int) - roundShr dc 24).toNat
  { d with
    integ := i, incr := incr, theta := BitVec.ofInt 32 θ, syncCount := satInc d.syncCount
    clamp := d.clamp || (!step && decide (i0 ≠ i)) || decide (dc ≠ delta)
    recent := (incr :: d.recent).take 16
    cnt := if step then TCnt.ofFine ((d.cnt.fine : Int) - θ * 2 ^ 24).toNat else d.cnt
    steps := if step then satInc d.steps else d.steps }

/-- The lock count of a domain (R182). -/
def lockCount (θ : Int) (now : Nat) (d : Domain) : Domain :=
  let good := decide (θ.natAbs ≤ 100 * 256)
  let inRun := if good then d.inRun + 1 else 0
  let outRun := if good then 0 else d.outRun + 1
  let st := match d.state with
    | .locked => if outRun ≥ 4 then DState.acquiring else .locked
    | _ => if inRun ≥ 16 then .locked else .acquiring
  { d with inRun := inRun, outRun := outRun, state := st
           lockedAt := if st = .locked then (if d.state = .locked then d.lockedAt else some now) else none }

/-- PTP_SYNC_RECEIVED, and the offset of an upstream C-frame (R180, R184). -/
def offsetTaken (s : State) (d : Dom) (θ : Int) : State :=
  let x := s.domain d
  if x.state = .free then s
  else
    let s := s.modDomain d fun x => lockCount θ s.now (servo s.tmb.incrNom θ x)
    let y := s.domain d
    let s := if y.state = .locked ∧ x.state ≠ .locked then s.domainLocked d
      else if x.state = .locked ∧ y.state ≠ .locked then s.domainLeft d
      else s
    if d = s.tmb.selected ∧ s.tmb.holdover = false then { s with tmb := { s.tmb with holdIncr := (s.domain d).mean } } else s

/-- DOMAIN_LOST (R182, R187, R188). -/
def domainLost (s : State) (d : Dom) : State :=
  match (s.domain d).state with
  | .acquiring | .locked =>
    (s.modDomain d fun x => { x with state := .lost, incr := x.mean, inRun := 0, outRun := 0, lockedAt := none }).domainLeft d
  | _ => s

/-- AUTO_REVERT: P has been LOCKED for 10 s (R187). -/
def autoRevert (s : State) : State :=
  match s.tmb.domP.state, s.tmb.domP.lockedAt with
  | .locked, some t =>
    if s.tmb.select = 2 ∧ s.tmb.revert = true ∧ s.tmb.selected = .s ∧ s.now ≥ t + 10000000000 then s.selectDomain .p 2 else s
  | _, _ => s

/-! ## Commands (R183-R187) -/

/-- A domain block of TIME_CONFIGURE, from its first word. -/
def domBlock (p : Pkt) (b : Nat) : DomCfg :=
  { source := BitVec.ofNat 3 (p.fld b 0 3), profile := BitVec.ofNat 2 (p.fld b 4 2), transport := BitVec.ofNat 2 (p.fld b 8 2)
    oneStep := p.fld b 12 1 == 1, slaveOnly := p.fld b 13 1 == 1, domainNumber := BitVec.ofNat 8 (p.fld b 16 8)
    intervals := BitVec.ofNat 32 (p.w (b + 1)), kp := BitVec.ofNat 32 (p.w (b + 2)), ki := BitVec.ofNat 32 (p.w (b + 3))
    prio1 := BitVec.ofNat 8 (p.fld (b + 4) 0 8), prio2 := BitVec.ofNat 8 (p.fld (b + 4) 8 8)
    stepThresh := BitVec.ofNat 32 (p.w (b + 5)) }

/-- The first word of a domain block that is out of range (R183, R184, R191). -/
def domFault (role : Bool) (d : Dom) (p : Pkt) (b : Nat) : Option Nat :=
  let src := p.fld b 0 3
  let iv (lo : Nat) : Int := signed 8 (p.fld (b + 1) lo 8)
  let badSrc := match d with
    | .p => decide (src > 3) || (role && src != 3)
    | .s => decide (src > 2) || (role && src != 0)
  if badSrc || decide (p.fld b 4 2 = 3) || decide (p.fld b 8 2 = 3) || (p.fld b 4 2 == 2 && p.fld b 8 2 != 0)
      || decide (p.fld b 16 8 > 127) then some b
  else if iv 0 < -7 ∨ iv 0 > 0 ∨ iv 8 < -3 ∨ iv 8 > 3 ∨ iv 16 < -7 ∨ iv 16 > 5 ∨ p.fld (b + 1) 24 8 < 2 then some (b + 1)
  else none

/-- A domain takes its block; a changed source restarts it (06 TIME_CONFIGURE). -/
def applyDom (c : DomCfg) (d : Domain) : Domain :=
  if c.source = d.cfg.source then { d with cfg := c }
  else { d with
    cfg := c, state := if c.source = 0 then .free else .acquiring
    integ := 0, inRun := 0, outRun := 0, recent := [], lockedAt := none, master := none, isMaster := false }

/-- An uplink block of TIME_CONFIGURE. -/
def uplinkBlock (p : Pkt) (b : Nat) (u : Uplink) : Uplink :=
  { u with
    quiet := false, mac := BitVec.ofNat 48 (p.w b + 2 ^ 32 * p.fld (b + 1) 0 16), ip4 := BitVec.ofNat 32 (p.w (b + 2))
    ip6 := (List.range 4).map fun i => BitVec.ofNat 32 (p.w (b + 3 + i))
    ing := BitVec.ofNat 16 (p.fld (b + 7) 0 16), egr := BitVec.ofNat 16 (p.fld (b + 7) 16 16) }

/-- TIME_CONFIGURE (06). SET_TIME sets the served time and the counters of domains without a source (log entry 32). -/
def bodyTimeConfigure (_ : Ctx) (p : Pkt) (s : State) : Verdict :=
  let set := p.fld 1 0 1 = 1
  if set ∧ s.maySteps = false then .fail stDenied 0
  else if p.w 0 < 1000 ∨ p.w 0 > 200000 then badParam 0
  else if set ∧ p.w 4 ≥ 1000000000 then badParam 4
  else
    match domFault s.net.conf.role .p p 6, domFault s.net.conf.role .s p 12 with
    | some i, _ => badParam i
    | none, some i => badParam i
    | none, none =>
      let t := TCnt.ofNs ((p.w 2 + 2 ^ 32 * p.fld 3 0 16) * 1000000000 + p.w 4)
      let put (d : Domain) : Domain := if set ∧ d.state = .free then { d with cnt := t } else d
      .done [] { s with tmb := { s.tmb with
        slewMax := p.w 0
        served := if set then t else s.tmb.served
        domP := put (applyDom (domBlock p 6) s.tmb.domP), domS := put (applyDom (domBlock p 12) s.tmb.domS)
        uplinks := mapI (fun i u => uplinkBlock p (18 + 10 * i) u) s.tmb.uplinks } }

/-- TIME_SELECT_DOMAIN (R187). -/
def bodyTimeSelect (_ : Ctx) (p : Pkt) (s : State) : Verdict :=
  let sel := p.fld 0 0 2
  let d : Dom := if sel = 0 then .p else if sel = 1 then .s
    else if s.tmb.domP.state = .locked then .p else if s.tmb.domS.state = .locked then .s else s.tmb.selected
  if sel < 2 ∧ (s.domain d).state ≠ .locked ∧ s.allDark = false then .fail stDenied 0
  else if sel = 3 then badParam 0
  else
    let s := { s with tmb := { s.tmb with select := BitVec.ofNat 2 sel, revert := p.fld 0 8 1 == 1 } }
    if s.tmb.holdover then
      if (s.domain d).state = .locked then .done [] ((s.selectDomain d 0).leaveHoldover)
      else .done [] { s with tmb := { s.tmb with selected := d } }
    else .done [] (s.selectDomain d 0)

/-- TMB_INCR_NOM_WRITE (R177). -/
def writeIncrNom (s : State) (v : DWord) : State := { s with tmb := { s.tmb with incrNom := v.extractLsb' 0 40 } }

/-- TMB_SRV_NS_READ: the seconds and the fraction of the same tick are latched (06). -/
def readSrvNs (s : State) : State :=
  { s with
    tmb := { s.tmb with latSec := s.tmb.served.sec, latFrac := s.tmb.served.frac }
    lastRead := BitVec.ofNat 64 s.tmb.served.ns.toNat }

/-! ## PTP on the uplinks (R191-R193) -/

/-- Datasets in the order of the best-master comparison (R192): smaller is better. -/
def dataset (a : Announce) : List Nat :=
  [a.priority1, a.clockClass, a.accuracy, a.variance, a.priority2, a.identity.toNat, a.stepsRemoved]

/-- Lexicographic order of datasets. -/
def better : List Nat → List Nat → Bool
  | a :: s, b :: t => decide (a < b) || (decide (a = b) && better s t)
  | _, _ => false

/-- The clock identity of an uplink: its MAC address in EUI-64 form (R191). -/
def eui64 (mac : BitVec 48) : DWord := BitVec.ofNat 64 (mac.toNat / 2 ^ 24 * 2 ^ 40 + 0xFFFE * 2 ^ 24 + mac.toNat % 2 ^ 24)

/-- The uplink a domain takes its time through. -/
def domUplink (s : State) (d : Dom) : Option Nat :=
  let src := (s.domain d).cfg.source.toNat
  if (src = 1 ∨ src = 2) ∧ s.net.conf.role = false then some (src - 1) else none

/-- The dataset a domain offers as master (R192). -/
def ownDataset (s : State) (d : Dom) (u : Nat) : Announce :=
  let c := (s.domain d).cfg
  { domainNumber := c.domainNumber.toNat, priority1 := c.prio1.toNat, clockClass := 248, priority2 := c.prio2.toNat
    identity := eui64 (s.tmb.uplinks.getD u {}).mac }

/-- An Announce on an uplink, for one domain: best-master selection (R192). -/
def announceFor (uplink : Nat) (a : Announce) (d : Dom) (s : State) : State :=
  let x := s.domain d
  if s.domUplink d ≠ some uplink ∨ a.domainNumber ≠ x.cfg.domainNumber.toNat then s
  else
    let best := match x.master with
      | some m => if m.identity = a.identity ∨ better (dataset a) (dataset m) = true then a else m
      | none => a
    s.modDomain d fun x => { x with
      master := some best
      isMaster := !x.cfg.slaveOnly && better (dataset (s.ownDataset d uplink)) (dataset best) }

/-- PTP_ANNOUNCE_RECEIVED (R192). -/
def announce (s : State) (uplink : Nat) (a : Announce) : State := announceFor uplink a .s (announceFor uplink a .p s)

/-- The egress time of a domain in 1/16 ns, with the board's delay (R193). -/
def egress16 (s : State) (d : Dom) (u : Nat) : Int :=
  ((s.domain d).cnt.fine / 2 ^ 28 : Nat) + ((s.tmb.uplinks.getD u {}).egr.toNat : Int)

/-- PTP_TRANSMIT (R191-R193). -/
def ptpTransmit (s : State) (d : Dom) (kind : PtpKind) (turnaround16 : Nat) : State :=
  match s.domUplink d with
  | none => s
  | some u =>
    let x := s.domain d
    if (s.tmb.uplinks.getD u {}).quiet then s
    else match kind with
    | .sync => if x.isMaster then s.emit (.ptp u d kind (if x.cfg.oneStep then s.egress16 d u else 0)) else s
    | .followUp => if x.isMaster && !x.cfg.oneStep then s.emit (.ptp u d kind (s.egress16 d u)) else s
    | .delayResp => if x.isMaster then s.emit (.ptp u d kind (s.tmb.uplinks.getD u {}).lastRx) else s
    | .delayReq => if x.cfg.profile = 0 then s.emit (.ptp u d kind 0) else s
    | .pdelayReq => if x.cfg.profile = 0 then s else s.emit (.ptp u d kind 0)
    | .pdelayResp => s.emit (.ptp u d kind (if x.cfg.oneStep then turnaround16 else 0))

/-- PTP_DELAY_MESSAGE: the receive stamp has the board's delay taken off (R193); a master answers a delay request. -/
def ptpDelay (s : State) (d : Dom) (kind : PtpKind) (stamp16 : Nat) : State :=
  match s.domUplink d with
  | none => s
  | some u =>
    let rx := stamp16 - (s.tmb.uplinks.getD u {}).ing.toNat
    let s := { s with tmb := { s.tmb with uplinks := updAt s.tmb.uplinks u fun x => { x with lastRx := rx } } }
    match kind with
    | .delayReq => s.ptpTransmit d .delayResp 0
    | _ => s

end State

/-- TIME_CONFIGURE (06). -/
def opTimeConfigure : Op := { opcode := 0x0300, len := lenIs 152, body := State.bodyTimeConfigure }
/-- TIME_SELECT_DOMAIN (R187). -/
def opTimeSelectDomain : Op := { opcode := 0x0301, len := lenIs 4, body := State.bodyTimeSelect }

/-- TIME_CONFIGURE (R183). -/
def execTimeConfigure (p : Pkt) (s : State) : Result := .next (State.carry opTimeConfigure p s)
/-- TIME_SELECT_DOMAIN (R187). -/
def execTimeSelectDomain (p : Pkt) (s : State) : Result := .next (State.carry opTimeSelectDomain p s)
/-- PTP_SYNC_RECEIVED (R180): an offset in ns with 8 fraction bits. -/
def execPtpSyncReceived (d : Dom) (theta : Int) (s : State) : Result := .next (s.offsetTaken d theta)
/-- PTP_ANNOUNCE_RECEIVED (R192). -/
def execPtpAnnounceReceived (uplink : Nat) (a : Announce) (s : State) : Result := .next (s.announce uplink a)
/-- PTP_TRANSMIT (R193). -/
def execPtpTransmit (d : Dom) (kind : PtpKind) (turnaround16 : Nat) (s : State) : Result := .next (s.ptpTransmit d kind turnaround16)
/-- PTP_DELAY_MESSAGE (R193). -/
def execPtpDelayMessage (d : Dom) (kind : PtpKind) (stamp16 : Nat) (s : State) : Result := .next (s.ptpDelay d kind stamp16)
/-- DOMAIN_LOST (R182). -/
def execDomainLost (d : Dom) (s : State) : Result := .next (s.domainLost d)
/-- AUTO_REVERT (R187). -/
def execAutoRevert (s : State) : Result := .next s.autoRevert
/-- TMB_INCR_NOM_WRITE (R177). -/
def execTmbIncrNomWrite (v : DWord) (s : State) : Result := .next (s.writeIncrNom v)
/-- TMB_SRV_NS_READ (R176). -/
def execTmbSrvNsRead (s : State) : Result := .next s.readSrvNs
/-- SLEWING_END (R185). -/
def execSlewingEnd (s : State) : Result := .next s.slewingEnd

end Sys2Proof.Machine
end

