-- ==== Sys2Proof/Machine/NetSched.lean ====
section
/-! DEFINITION. Schedule generations: loading, distribution, activation, and the change of period and epoch (05 R144-R147; 01 R8, R11,
R14, R16; 02 R445). -/
namespace Sys2Proof.Machine

namespace State

/-! ## Loading (R145) -/

/-- An activation has been named for the pending generation. -/
def activationNamed (s : State) : Bool := s.cmds.any fun c => c.opcode == 0x0202

/-- Bytes written over others from an offset; a gap reads as zeros (log entry 43). -/
def putBytes (buf : List Byte) (off : Nat) (bs : List Byte) : List Byte :=
  (buf ++ List.replicate (off - buf.length) 0).take off ++ bs ++ buf.drop (off + bs.length)

/-- Messages with records of a discarded generation are withdrawn. -/
def dropRecords (s : State) : State :=
  match s.net.pending with
  | none => s
  | some g =>
    let gf : Half := BitVec.ofNat 16 g.gen
    { s with net := { s.net with
      ports := s.net.ports.map fun p => { p with svc := p.svc.filter fun m =>
        !(m.kind == 0x0001 && (m.words.getD 0 0).extractLsb' 16 16 == gf) }
      nodes := s.net.nodes.map fun n => if n.unacked = some gf then { n with unacked := none, sentCfg := none } else n } }

/-- A node of a generation is in the table, in its place, and supports its modes (R145). -/
def nodeFits (s : State) (x : GNode) : Bool :=
  let n := s.node x.index
  decide (x.index < s.nNodes) && n.used && n.port.toNat == x.port && n.pos.toNat == x.pos
    && decide (x.modes.length ≤ n.axes.toNat) && (x.modes.isEmpty || n.cls == 0) && x.modes.all fun m => n.caps.getLsbD (Mode.code m)

/-- The checks of a LAST chunk (R145). -/
def imageFits (s : State) (g : GenImage) : Bool :=
  instantsFit g && g.lines.all (fun l => lineFits g ((s.mport l.port).links (lineNodes g l.port).length) l)
    && g.recipes.all recipeFits && g.nodes.all s.nodeFits

/-- Records go to the nodes whose configuration the generation changes (R146, R147). -/
def distribute (s : State) (g : GenImage) : State :=
  runAll (fun x s =>
    let c := s.genCfg g x
    match (s.node x.index).cfg with
    | some old => if sameCfg old c then s else s.sendCfg x.index c
    | none => s.sendCfg x.index c) g.nodes s

/-- A passing image is the pending generation, and its records are distributed (R145, R147). -/
def loadPassed (s : State) (g : GenImage) : State :=
  let s := { s with net := { s.net with
    pending := some g, arriving := none, pendState := 2, joinGen := false, distEnd := s.now + 100000000, actCycle := 0 } }
  (s.distribute g).checkLoaded

/-- NET_SCHEDULE_LOAD (R145). -/
def bodyScheduleLoad (_ : Ctx) (p : Pkt) (s : State) : Verdict :=
  let gen := p.fld 0 0 16
  let first := p.fld 0 16 1 = 1
  let activeGen := match s.net.active with | some g => g.gen | none => 0
  let wrong := match s.net.arriving with | some a => decide (a.1 ≠ gen) | none => false
  if ¬ first ∧ s.net.arriving.isNone = true then .fail stNotReady 0
  else if gen = 0 ∨ gen = activeGen ∨ (¬ first ∧ wrong = true) then badParam 0
  else if p.w 1 + p.w 2 > (if s.full then 1048576 else 524288) then badParam 1
  else if s.net.joinGen = true ∨ s.activationNamed = true then .fail stBusy 0
  else
    let chunk := (p.w 1, wordsBytes (p.words.drop 3))
    let chunks := if first then [chunk] else (match s.net.arriving with | some a => a.2 ++ [chunk] | none => [chunk])
    let s := if first then
        { s.dropRecords with net := { s.dropRecords.net with pending := none, pendState := 1, joinGen := false } }
      else s
    if p.fld 0 17 1 = 0 then .done [] { s with net := { s.net with arriving := some (gen, chunks), pendState := 1 } }
    else
      let image := chunks.foldl (fun b c => putBytes b c.1 c.2) []
      match Config.decodeImage image with
      | none => .refuse stBadParam noWord { s with net := { s.net with arriving := none, pendState := 0 } }
      | some g =>
        let g := { g with gen := gen }
        if s.imageFits g then .done [] (s.loadPassed g)
        else .refuse stBadParam noWord { s with net := { s.net with arriving := none, pendState := 0 } }

/-- DISTRIBUTION_TIMEOUT (R147). -/
def distTimeout (s : State) : State :=
  if s.net.pendState = 2 ∧ s.net.joinGen = false ∧ s.now ≥ s.net.distEnd then { s with net := { s.net with pendState := 4 } } else s

/-! ## Activation (01 R11, R16; 02 R445) -/

/-- Commands other than an activation name a future cycle (01 R11). -/
def othersPending (s : State) : Bool :=
  s.cmds.any (fun c => c.opcode != 0x0202) || s.axes.any fun a => a.prof.pendMove.isSome || a.prof.pendGear.isSome

/-- A generation carries another period or epoch (01 R11). -/
def changesTime (s : State) (g : GenImage) : Bool := g.tc != s.tmb.tc || g.epoch != s.tmb.epoch

/-- The first whole second of served time at or after C(c) (01 R11). -/
def changeInstant (s : State) (c : Nat) : Nat := ceilDiv (s.cycleNs c) 1000000000 * 1000000000

/-- The pending generation that your host software loaded, when a command names it (R147, 02 R445). -/
def namedPending (s : State) (gen : Nat) : Option GenImage :=
  match s.net.pending with
  | some g => if g.gen = gen ∧ s.net.joinGen = false then some g else none
  | none => none

/-- NET_SCHEDULE_ACTIVATE_AT (02 R445, 01 R11). -/
def bodyActivateAt (c : Ctx) (p : Pkt) (s : State) : Verdict :=
  let cyc := p.w64 0
  match s.namedPending (p.fld 2 0 16) with
  | none => .fail stNotReady 0
  | some g =>
    let old := s.cmds.find? fun x => x.opcode == 0x0202
    if s.changesTime g = true ∧ (s.allDark = false ∨ s.othersPending = true) then .fail stDenied 0
    else if s.net.pendState ≠ 3 then .fail stNotReady 0
    else if s.changesTime g = true ∧ g.epoch * 1000000000 > s.changeInstant cyc then badParamAll
    else if s.lateCycle c cyc then .fail stLate 0
    else if s.cmdsFull = true ∧ old.isNone = true then .fail stBusy 0
    else
      let s := match old with
        | some x => ({ s with cmds := s.cmds.filter fun y => y.opcode != 0x0202 }).reply x.pkt stDenied 0 []
        | none => s
      .accept ({ s with net := { s.net with actCycle := BitVec.ofNat 64 cyc } }.enqueueCmd 0x0202 p cyc)

/-- The state of a port when a generation takes effect (R144). -/
def portUnder (g : GenImage) (i : Nat) (p : MPort) : MPort :=
  let named := (g.lines.any fun l => l.topo == 1 && l.ringPort == i && g.nodes.any fun n => n.port == l.port)
    || g.nodes.any fun n => n.port == i
  match p.state with
  | .linked | .run => if named then { p with state := .run } else
      { p with state := .dark, svc := [], dq := [], join := none, reclose := none, probeP := none, probeDue := false, pos := [] }
  | _ => p

/-- A generation becomes the active one (01 R16; 05 R144, R147). Ports it does not name go dark. Their nodes leave the table, and so
do nodes of its ports in RUN that it does not name (R158 reason 2; log entry 37). -/
def takeGeneration (s : State) (g : GenImage) (c : Nat) : State :=
  let went := (List.range s.nPorts).filter fun i =>
    let st := (s.mport i).state
    (st == .linked || st == .run) && (portUnder g i (s.mport i)).state == .dark
  let gone := (List.range s.nNodes).filter fun n =>
    let i := (s.node n).port.toNat
    (s.node n).used && (went.contains i || ((portUnder g i (s.mport i)).state == .run && g.nodes.all fun x => x.index != n))
  let s := runAll (fun n s => (s.eventNodeLost n 2).freeNode n) gone s
  { s with net := { s.net with
    active := some g, pending := none, pendState := 0, joinGen := false, actCycle := BitVec.ofNat 64 c
    ports := mapI (portUnder g) s.net.ports } }

/-- GENERATION_ACTIVATE: the pending generation takes effect at its cycle (01 R16; 02 R445). One that changes the period or the epoch
waits for the whole second (R11; log entry 97). -/
def generationActivate (s : State) : State :=
  match s.cmds.find? (fun x => x.opcode == 0x0202), s.net.pending with
  | some x, some g =>
    if s.k < x.cycle ∨ s.changesTime g = true then s
    else ({ s with cmds := s.cmds.filter fun y => y.opcode != 0x0202 }.takeGeneration g x.cycle).finish x.pkt []
  | _, _ => s

/-- The period and the epoch of a generation come into force, and k is recounted (01 R11). -/
def newPeriod (s : State) (g : GenImage) : State :=
  let s := { s with tmb := { s.tmb with tc := g.tc, epoch := g.epoch } }
  { s with dxq := s.dxq.map fun x => { x with due := s.k } }

/-- PERIOD_EPOCH_CHANGE: the pending generation takes effect with its period and epoch (01 R11), and acquisition is disarmed
(12 R355). -/
def periodChange (s : State) : State :=
  match s.cmds.find? (fun x => x.opcode == 0x0202), s.net.pending with
  | some x, some g =>
    if s.changesTime g = true ∧ s.changeInstant x.cycle ≤ s.now then
      let s := ({ s with cmds := s.cmds.filter fun y => y.opcode != 0x0202 }.disarm).newPeriod g
      (s.takeGeneration g s.k).finish x.pkt []
    else s
  | _, _ => s

end State

/-- NET_SCHEDULE_LOAD (R145). -/
def opNetScheduleLoad : Op := { opcode := 0x0201, len := lenVar 12 2, body := State.bodyScheduleLoad }
/-- NET_SCHEDULE_ACTIVATE_AT (02 R445). -/
def opNetScheduleActivateAt : Op :=
  { opcode := 0x0202, len := lenIs 16, cycle := fun p _ => some (p.w64 0), body := State.bodyActivateAt }

/-- NET_SCHEDULE_LOAD (R145). -/
def execNetScheduleLoad (p : Pkt) (s : State) : Result := .next (State.carry opNetScheduleLoad p s)
/-- NET_SCHEDULE_ACTIVATE_AT (02 R445). -/
def execNetScheduleActivateAt (p : Pkt) (s : State) : Result := .next (State.carry opNetScheduleActivateAt p s)
/-- DISTRIBUTION_TIMEOUT (R147). -/
def execDistributionTimeout (s : State) : Result := .next s.distTimeout
/-- GENERATION_ACTIVATE (01 R16). -/
def execGenerationActivate (s : State) : Result := .next s.generationActivate
/-- PERIOD_EPOCH_CHANGE (01 R11). -/
def execPeriodEpochChange (s : State) : Result := .next s.periodChange

end Sys2Proof.Machine
end

