-- ==== Sys2Proof/Machine/NetJoin.lean ====
section
/-! DEFINITION. Probes, joins and the closing of a ring (05 R150-R157). -/
namespace Sys2Proof.Machine

namespace State

/-- The first position beyond the last live node of a port (R150). -/
def probeFrom (s : State) (port : Nat) : Nat :=
  let p := s.mport port
  if s.ownPort port ≠ port then s.lineHops (s.ownPort port)
  else ((mapI (fun i n => if (s.node n).used && !(s.node n).lost then i + 1 else 0) p.pos).foldl max 0)

/-- A PROBE is due on a port in this cycle (R150). -/
def probeCycle (s : State) (port : Nat) : Bool :=
  let p := s.mport port
  (p.state == .run || p.state == .linked) && s.lineBegins port && s.k / s.divider port % (max 1 p.joinInterval.toNat) == 0

/-- PROBE_SEND: in this cycle a PROBE takes the place of the S-frame (R133, R150). -/
def probeSend (s : State) : State :=
  runAll (fun i s => if s.probeCycle i then s.modMPort i fun p => { p with probeDue := true } else s) (List.range s.nPorts) s

/-- Nodes whose DOWN_DELAY moved by more than 2 ns get a new record (R150, 06 R195). -/
def refreshRecords (s : State) (port : Nat) : State :=
  runAll (fun x s =>
    let n := s.node x.2
    let p := s.mport port
    match n.cfg with
    | some c =>
      let d0 := p.down0 x.1
      let d1 := p.down1 p.pos.length x.1
      if (((d0 : Int) - c.downDelay0).natAbs > 32 ∨ ((d1 : Int) - c.downDelay1).natAbs > 32) ∧ n.lost = false ∧ n.unacked.isNone = true then
        s.sendCfg x.2 { c with downDelay0 := d0, downDelay1 := d1 }
      else s
    | none => s) (mapI (fun i n => (i, n)) (s.mport port).pos) s

/-- Found nodes are not taken in: NODE_JOINED with kind 2 for each (R152, R157). No cycle c is named for them: a free value
stands there (log entry 41). -/
def joinRefused (s : State) (port base reason : Nat) (recs : List NodeRec) : State :=
  let s := if reason = 0 then s else s.setStat port 4
  let gen := match s.net.active with | some g => g.gen | none => 0
  runAll (fun x s =>
    let (c, s) := s.free 64
    s.eventNodeJoined (s.indexOf x.2.identity) port (base + x.1) 2 reason gen x.2.identity c.toNat) (mapI (fun i r => (i, r)) recs) s

/-- Lost entries of a port that were not found (R151 step 3). -/
def lostEntries (s : State) (port : Nat) (ids : List DWord) : List Nat := (List.range s.nNodes).filter fun i =>
  let n := s.node i
  n.used && n.lost && n.port.toNat == port && !ids.contains n.identity

/-- Every found node is a lost entry of the same port at the same position (R151 step 2). -/
def allReturn (s : State) (port base : Nat) (recs : List NodeRec) : Bool :=
  (mapI (fun i r => (i, r)) recs).all fun x =>
    match s.indexOf x.2.identity with
    | some n => (s.node n).lost && (s.node n).port.toNat == port && (s.node n).pos.toNat == base + x.1
    | none => false

/-- The generation after a number, from 1 to 65 535. -/
def nextGen (g : Nat) : Nat := if g ≥ 65535 then 1 else g + 1

/-- A join generation: the active one with the positions from `base` on rebuilt (R151 step 3). -/
def joinImage (g : GenImage) (port base : Nat) (found : List (Nat × Bool × NodeRec)) : GenImage :=
  let slots := mapI (fun i (x : Nat × Bool × NodeRec) =>
    ({ index := x.1, port := port, pos := base + i, fLen := x.2.2.fLen, cLen := x.2.2.cLen } : GNode)) found
  { g with gen := nextGen g.gen, nodes := (g.nodes.filter fun n => n.port != port || decide (n.pos < base)) ++ slots }

/-- The records of found nodes: under a generation, or without a slot (R146, R151 step 5). -/
def joinCfgs (s : State) (g : Option GenImage) (port base : Nat) (found : List (Nat × Bool × NodeRec)) : List (DWord × NodeCfg) :=
  mapI (fun i (x : Nat × Bool × NodeRec) =>
    let c := match g.bind fun g => (g.nodes.find? fun n => n.index == x.1).map fun n => s.genCfg g n with
      | some c => c
      | none => s.walkCfg (s.mport port) x.1 (base + found.length) (base + i)
    (x.2.2.identity, c)) found

/-- A join begins: records go out, and the activation cycle is fixed (R151 steps 5 and 6). -/
def joinBegin (s : State) (port base : Nat) (gen : Option GenImage) (removed : List Nat) (found : List (Nat × Bool × NodeRec))
    (reclose : Option (Nat × Nat)) : State :=
  let p := s.mport port
  let used := match gen with | some g => some g | none => s.net.active
  let old := if base = 0 then none else p.pos[base - 1]?
  let oldCfg : Option (Nat × NodeCfg) := old.map fun n =>
    match used.bind fun g => (g.nodes.find? fun x => x.index == n).map fun x => s.genCfg g x with
    | some c => (n, c)
    | none => (n, s.walkCfg p n (base + found.length) (base - 1))
  let changed := oldCfg.filter fun x => match (s.node x.1).cfg with | some c => !sameCfg c x.2 | none => true
  let cfgs := s.joinCfgs used port base found
  let waiting := cfgs.map Prod.fst ++ (changed.map fun x => (s.node x.1).identity).toList
  let j : Join := {
    cycle := s.k + p.actLead.toNat, gen := gen, found := found, base := base, cfgs := cfgs, waiting := waiting, oldLast := old
    removed := removed, reclose := reclose }
  let s := match gen with
    | some g => { s with net := { s.net with pending := some g, joinGen := true, pendState := 2, actCycle := BitVec.ofNat 64 j.cycle } }
    | none => s
  let s := s.modMPort port fun p => { p with join := some j }
  match changed with
  | some x => s.sendCfg x.1 x.2
  | none => s

/-- Records found by a PROBE (R151, R152, R157). -/
def joinFound (s : State) (port base : Nat) (recs : List NodeRec) (reclose : Option (Nat × Nat)) : State :=
  let p := s.mport port
  let ids := recs.map NodeRec.identity
  if !p.joinEn then s.joinRefused port base 0 recs
  else if p.join.isSome then s
  else
    let removed := s.lostEntries port ids
    match s.assignIndices removed [] recs with
    | none => s.joinRefused port base 1 recs
    | some found =>
      let keep := s.allReturn port base recs
      let gen := if keep then none else
        match s.net.active with
        | some g => if g.lines.any fun l => l.port == port then some (joinImage g port base found) else none
        | none => none
      let fits := match gen with
        | some g => g.lines.all fun l => l.port != port || lineFits g (p.links (lineNodes g port).length) l
        | none => decide (base + recs.length ≤ 32)
      if !fits then s.joinRefused port base 2 recs
      else if s.net.pending.isSome ∧ s.net.joinGen = false then s.joinRefused port base 3 recs
      else if s.nestingFits recs ids = false then s.joinRefused port base 4 recs
      else if s.net.joinGen = true ∧ gen.isSome = true then s
      else s.joinBegin port base gen (if keep then [] else removed) found reclose

/-- PROBE_RETURN: delays are refreshed, and nodes beyond the end are taken in or reported (R150, R151, R156). `closedAt` is the
position of a node that is live from the other end of a turned ring. -/
def probeReturn (s : State) (port aH16 dH16 : Nat) (stamps : List Stamps) (recs : List NodeRec) (closedAt : Option Nat) : State :=
  match (s.mport port).probeP with
  | none => s
  | some base =>
    let s := s.modMPort port fun p => { p with probeP := none, remeasure := false, driftRun := 0 }
    let p := s.mport port
    let looped := p.topo == 0 || p.turned
    let xs := stamps ++ recs.map recStamps
    let s := if looped then s.setDelays port true aH16 dH16 xs
      else s.modMPort port fun p => { p with fwd := overlay p.fwd (stamps.map fun x => BitVec.ofInt 16 (fwdDelay x)) }
    let s := s.refreshRecords port
    match recs, closedAt with
    | [], some q =>
      if p.turned ∧ p.reclose.isNone = true then
        let c := s.k + p.actLead.toNat
        s.modMPort port fun p => { p with
          reclose := some (c, base - 1, q), dq := p.dq ++ [.reclose (BitVec.ofNat 64 c) (base - 1) q] }
      else s
    | [], none => s
    | _, _ => s.joinFound port base recs (closedAt.map fun q => (base - 1, q))

/-- JOIN_ACTIVATE: at C(c) the join takes effect (R151 steps 3, 6 and 7). -/
def joinActivate (s : State) (port : Nat) : State :=
  match (s.mport port).join with
  | none => s
  | some j =>
    if !j.waiting.isEmpty || decide (s.k < j.cycle) then s
    else
      let s := runAll (fun n s => (s.eventNodeLost n 1).freeNode n) j.removed s
      let s := runAll (fun x s => s.modNode x.2.1 fun old =>
          { nodeEntry port (j.base + x.1) x.2.2.2 old with
            graceEnd := some (j.cycle + 4096), cfg := (j.cfgs.find? fun c => c.1 == x.2.2.2.identity).map Prod.snd
            sentCfg := none, unacked := none }) (mapI (fun i x => (i, x)) j.found) s
      let s := s.modMPort port fun p => { p with
        join := none, pos := p.pos.take j.base ++ j.found.map Prod.fst
        joined := mapI (fun i x => (x.1, x.2.1, j.base + i, x.2.2.identity)) j.found }
      match j.gen, s.net.pending with
      | some _, some g => s.takeGeneration g j.cycle
      | _, _ => s

/-- A join in progress on a port ends with no effect, and its generation with it (R151). -/
def endJoin (s : State) (port : Nat) : State :=
  match (s.mport port).join with
  | none => s
  | some j =>
    let s := s.modMPort port fun p => { p with join := none }
    if j.gen.isSome then
      let s := s.dropRecords
      { s with net := { s.net with pending := none, joinGen := false, pendState := 0 } }
    else s

/-- JOIN_ABANDON: an acknowledgement is missing at C(c - 2) (R151). -/
def joinAbandon (s : State) (port : Nat) : State :=
  match (s.mport port).join with
  | none => s
  | some j =>
    if j.waiting.isEmpty || decide (s.k + 2 < j.cycle) then s
    else s.endJoin port

/-- NODE_JOINED at D_X of cycle c (R151 step 7). -/
def postJoined (s : State) (port : Nat) : State :=
  let js := (s.mport port).joined
  let gen := match s.net.active with | some g => g.gen | none => 0
  let s := s.modMPort port fun p => { p with joined := [] }
  runAll (fun x s => s.eventNodeJoined (some x.1) port x.2.2.1 (b2n x.2.1) 0 gen x.2.2.2 s.k) js s

/-- RECLOSE_ACTIVATE: the ring is whole again (R156). -/
def recloseActivate (s : State) (port : Nat) : State :=
  match (s.mport port).reclose with
  | none => s
  | some (c, a, b) =>
    if s.k < c then s
    else
      let x := s.mport port
      let whole (p : MPort) : MPort := { p with turned := false, loopedDir0 := false, loopedDir1 := false, turnLo := none, turnHi := none }
      let s := s.modMPort port fun p => { whole p with reclose := none }
      let s := if x.topo = 1 then s.modMPort x.ringPort.toNat whole else s
      s.eventRingTurned port false (some a) (some b)

end State

/-- PROBE_SEND (R150). -/
def execProbeSend (s : State) : Result := .next s.probeSend
/-- PROBE_RETURN (R150). -/
def execProbeReturn (port aH16 dH16 : Nat) (stamps : List Stamps) (recs : List NodeRec) (closedAt : Option Nat) (s : State) : Result :=
  .next (s.probeReturn port aH16 dH16 stamps recs closedAt)
/-- JOIN_ACTIVATE (R151). -/
def execJoinActivate (port : Nat) (s : State) : Result := .next (s.joinActivate port)
/-- JOIN_ABANDON (R151). -/
def execJoinAbandon (port : Nat) (s : State) : Result := .next (s.joinAbandon port)
/-- RECLOSE_ACTIVATE (R156). -/
def execRecloseActivate (port : Nat) (s : State) : Result := .next (s.recloseActivate port)

end Sys2Proof.Machine
end

