-- ==== Sys2Proof/Machine/NetNode.lean ====
section
/-! DEFINITION. A head as a Confluence node of an upstream head (05 R162-R174, 06 R184). -/
namespace Sys2Proof.Machine

namespace State

/-- This head's identity on Millrace (R175; log entry 39). -/
def headId (s : State) : DWord := Config.headIdentity [s.fuse.id0, s.fuse.id1, s.fuse.id2] ||| 0x8000000000000000

/-- The record for frames of a generation: the nearest at or before it (R146). -/
def cfgFor (s : State) (gen : Half) : Option NodeCfg :=
  let at' := s.net.conf.cfgs.filter fun c => decide ((gen - c.genFirst).toNat < 32768)
  match at' with
  | [] => none
  | c :: t => some (t.foldl (fun b c => if (gen - c.genFirst).toNat < (gen - b.genFirst).toNat then c else b) c)

/-- The upstream cycle now running, by the period and epoch of a record (R164). -/
def upCycle (s : State) (c : NodeCfg) : Nat := (s.now - c.epoch * 1000000000) / max 1 c.tc

/-- The line cycle now running (R132). -/
def upLine (s : State) (c : NodeCfg) : Nat := s.upCycle c / max 1 c.divider * max 1 c.divider

/-- The record of the frames now in force upstream. -/
def upCfg (s : State) : Option NodeCfg := s.cfgFor s.net.conf.upGen

def modConf (s : State) (f : Conf → Conf) : State := { s with net := { s.net with conf := f s.net.conf } }

/-! ## The compound slot (R165, R166, R171) -/

/-- An entry of the copy list is copied into CONF_OUT (R165). -/
def copyEntry (s : State) (out : Cells 8) (c : Copy) : Cells 8 :=
  if !c.en then out
  else
    let bs := ((wordsBytes ((s.axis c.axis.toNat).live.words)).drop c.src.toNat).take (if c.wide then 4 else 2)
    cellPuts out c.dst.toNat 1 (bs.take (1024 - c.dst.toNat))

/-- CONF_OUT_COPY, at an upstream sample instant (R165). -/
def confOutCopy (s : State) : State :=
  if s.net.conf.role = false then s
  else
    let out := s.net.conf.copy.foldl s.copyEntry s.net.conf.confOut
    match s.upCfg with
    | some c => s.modConf fun x => { x with
        confOut := out, latched := cellGets out 0 1 (min 1024 c.fLen), latchedCycle := BitVec.ofNat 32 (s.upLine c) }
    | none => s.modConf fun x => { x with confOut := out }

/-- This head's slot in a C-frame. -/
def ownSlot (s : State) (f : CFrame) : Option CSlot :=
  f.slots.find? fun x => x.valid && x.node == s.net.conf.index.toNat

/-- A C-frame is a candidate (R171). -/
def isCandidate (s : State) (f : CFrame) : Bool :=
  match s.cfgFor f.gen with
  | none => false
  | some c => f.fcsOk && !f.looped && f.wellTyped && !f.idle && f.cycle == BitVec.ofNat 32 (s.upLine c) && c.genFirst != 0
      && f.claim != 0 && (s.ownSlot f).isSome

/-- θ of a C-frame in ns with 8 fraction bits: its arrival stamp less the expected arrival (R167, 06 R184). -/
def cTheta (c : NodeCfg) (f : CFrame) : Int :=
  let delay := if f.uplink = 0 then c.downDelay0 else c.downDelay1
  ((f.stamp16 : Int) - 16 * (f.ck + c.cOffset * c.tc + c.dX : Nat) - delay) * 16

/-- UPSTREAM_C_FRAME: the frame becomes a candidate, and domain P is steered by an IDLE frame or by a candidate that would be
applied as things stand (R143, R167, R171, 06 R184; log entry 40). -/
def upstreamC (s : State) (f : CFrame) : State :=
  if s.net.conf.role = false then s
  else
    let good := f.fcsOk && !f.looped && f.wellTyped
    let cand := s.isCandidate f
    let best := s.net.conf.cands.all fun g => decide (g.claim.toNat < f.claim.toNat)
    let steer := (good && f.idle) || (cand && best)
    let s := if steer ∧ s.tmb.domP.cfg.source = 3 then
        match s.cfgFor f.gen with
        | some c => s.offsetTaken .p (cTheta c f)
        | none => s
      else s
    if cand then s.modConf fun x => { x with cands := x.cands ++ [f] } else s

/-- CONF_IN_WRITE: the claim decision and, when it applies a slot, CONF_IN (R165, R166, R171, R172). -/
def confInWrite (s : State) : State :=
  if s.net.conf.role = false then s
  else
    let cs := s.net.conf.cands
    let top := cs.foldl (fun m f => max m f.claim.toNat) 0
    match cs.filter fun f => f.claim.toNat == top with
    | [f] =>
      let payload := match s.ownSlot f with | some x => x.payload | none => []
      s.modConf fun x => { x with
        confIn := cellPuts x.confIn 0 1 (payload.take 1024), cands := [], safeRun := 0, upSafe := false, lastTie := false, lastMiss := false
        lastApplied := BitVec.ofNat 2 (f.uplink + 1), upGen := f.gen }
    | [] => s.modConf fun x => { x with
        cands := [], safeRun := x.safeRun + 1, lastTie := false, lastMiss := true, lastApplied := 0 }
    | _ => s.modConf fun x => { x with
        cands := [], safeRun := x.safeRun + 1, lastTie := true, lastMiss := false, lastApplied := 0 }

/-- UP_SAFE: N_SAFE upstream decisions without an applied slot (R166, R172). -/
def upSafe (s : State) : State :=
  let n := match s.upCfg with | some c => c.nSafe | none => 3
  if s.net.conf.role = true ∧ s.net.conf.safeRun ≥ n then s.modConf fun x => { x with upSafe := true } else s

/-! ## F- and D-frames (R135, R139-R143, R149, R168, R174) -/

/-- The head's clock is within the tolerance of R167. -/
def inTolerance (s : State) : Bool :=
  s.tmb.domP.state == .locked && decide ((signed 32 s.tmb.domP.theta.toNat).natAbs ≤ 25 * 256)

/-- UPSTREAM_F_FRAME: this head's slot as it writes it (R135, R168). -/
def upstreamF (s : State) (uplink : Nat) (cycle : Word) (slots : List FSlot) : State :=
  let x := s.net.conf
  if x.role = false ∨ (slots.all fun f => f.node != x.index.toNat) = true then s
  else
    let ok := s.inTolerance
    s.emit (.upF uplink cycle {
      node := x.index.toNat, valid := ok && x.latchedCycle == cycle, safe := x.upSafe, tie := x.lastTie, cmdMiss := x.lastMiss
      syncErr := !ok, svcPending := !x.upq.isEmpty, applied := x.lastApplied, payload := x.latched })

/-- Heads, nodes and levels below this head (R140, R163). -/
def belowWord (s : State) : Word :=
  let ws := (s.net.nodes.filter fun n => n.used && n.cls == 3).map fun n => n.lsb.toNat
  let nodes := (s.net.nodes.filter Node.used).length + sumNat (ws.map fun w => field w 0 16)
  let levels := (ws.map fun w => 1 + field w 16 8).foldl max 0
  let heads := sumNat (ws.map fun w => 1 + field w 24 8)
  BitVec.ofNat 32 (nodes % 65536 + 65536 * (levels % 256) + 2 ^ 24 * (heads % 256))

/-- The head's own record (R140, R162): its stamps but the first, and the lengths it requires, are free values (log entry 39). -/
def ownRecord (s : State) (stamp : Word) : NodeRec × State :=
  let (a, s) := s.free 32
  let (d, s) := s.free 32
  let (c, s) := s.free 32
  let (f, s) := s.free 16
  let (l, s) := s.free 16
  ({ cls := 3, version := 1, axes := 0, caps := 0x0050, identity := s.headId, b := stamp, a := a, d := d, c := c
     fLen := f.toNat, cLen := l.toNat, lsb := s.belowWord, gens := 6 }, s)

/-- A record comes into use: it replaces one of the same GEN_FIRST, else the older of two (R146). -/
def keepCfg (c : NodeCfg) (l : List NodeCfg) : List NodeCfg :=
  if l.any fun x => x.genFirst == c.genFirst then l.map fun x => if x.genFirst = c.genFirst then c else x
  else (c :: l).take 2

/-- The head becomes a node, or takes a further record (R143, R146, R163). Its level is a free value: no frame carries it (log
entry 39). -/
def takeRecord (s : State) (c : NodeCfg) : State :=
  let (v, s') := s.free 2
  let s := if s.net.conf.role then s else s'.modConf fun x => { x with level := v }
  s.modConf fun x => { x with
    role := true, index := BitVec.ofNat 10 c.index, cfgs := keepCfg c x.cfgs
    mMul := if s.tmb.tc % max 1 c.tc = 0 then BitVec.ofNat 16 (s.tmb.tc / max 1 c.tc) else 0 }

/-- UPSTREAM_D_FRAME (R139, R143, R149, R174). -/
def upstreamD (s : State) (uplink : Nat) (f : DFrame) (stamp : Word) : State :=
  match f with
  | .walk hop =>
    let (r, s) := s.ownRecord stamp
    (s.modConf fun x => { x with pos := hop }).emit (.upD uplink r stamp)
  | .probe hop p =>
    if hop ≥ 32 then s
    else
      let (r, s) := s.ownRecord stamp
      let s := if hop ≥ p then s.modConf fun x => { x with pos := hop } else s
      s.emit (.upD uplink r stamp)
  | .assign es =>
    match es.find? fun e => e.1 == s.headId with
    | some e => (s.takeRecord e.2).emit (.upAck uplink)
    | none => s
  | .resume c p1 p2 | .reclose c p1 p2 =>
    if s.net.conf.role = true ∧ (p1 = s.net.conf.pos ∨ p2 = s.net.conf.pos) then s.modConf fun x => { x with resume := some c } else s

/-! ## Service segments (R160) -/

/-- A whole message from the upstream head. A record is taken and acknowledged; a command packet and a snapshot request are the steps
FORWARDED_COMMAND and SNAPSHOT_REQUEST. -/
def upMessage (s : State) (ws : List Word) : State :=
  if (ws.getD 0 0).extractLsb' 0 16 = 0x0001 then
    let c := cfgOfWords (ws.drop 1)
    (s.takeRecord c).modConf fun x => { x with upq := x.upq ++ [(0x0002, [BitVec.ofNat 32 c.genFirst.toNat])] }
  else s

/-- A down segment for this head is accepted; one seen before is acknowledged again (R160). -/
def downSegment (s : State) (uplink : Nat) (g : Seg) : State :=
  let s := s.emit (.upS uplink [{ g with ack := true }])
  if s.net.conf.rxLast = some (g.msg, g.seq) then s
  else
    let ws := (if g.first then [] else s.net.conf.rxWords) ++ g.words
    let s := s.modConf fun x => { x with rxLast := some (g.msg, g.seq), rxWords := if g.last then [] else ws }
    if g.last then s.upMessage ws else s

/-- The upstream head confirms the segment filled last (R160). -/
def confirmUp (x : Conf) : Conf :=
  match x.upq with
  | [] => { x with txFilled := 0 }
  | m :: t =>
    let sent := x.txSent + x.txFilled
    if x.txFilled = 0 then x
    else if sent ≥ 1 + m.2.length then { x with upq := t, txSent := 0, txSeq := 0, txFilled := 0, txMsg := x.txMsg + 1 }
    else { x with txSent := sent, txSeq := x.txSeq + 1, txFilled := 0 }

/-- An up segment for this head is filled with the first segment not yet confirmed (R160). -/
def fillUp (s : State) (uplink : Nat) (g : Seg) : State :=
  let s := if g.ack then s.modConf confirmUp else s
  let x := s.net.conf
  match x.upq with
  | [] => s
  | m :: _ =>
    let all := BitVec.ofNat 32 m.1.toNat :: m.2
    let chunk := (all.drop x.txSent).take (g.cap / 4)
    let seg : Seg := { g with first := x.txSent == 0, last := decide (x.txSent + chunk.length ≥ all.length), filled := true, ack := false
                              msg := x.txMsg, seq := BitVec.ofNat 8 x.txSeq, words := chunk }
    (s.modConf fun x => { x with txFilled := chunk.length }).emit (.upS uplink [seg])

/-- UPSTREAM_S_FRAME (R160). -/
def upstreamS (s : State) (uplink : Nat) (segs : List Seg) : State :=
  if s.net.conf.role = false then s
  else runAll (fun g s =>
    if g.node ≠ s.net.conf.index.toNat then s else if g.up then s.fillUp uplink g else s.downSegment uplink g) segs s

end State

/-- CONF_OUT_COPY (R165). -/
def execConfOutCopy (s : State) : Result := .next s.confOutCopy
/-- CONF_IN_WRITE (R165). -/
def execConfInWrite (s : State) : Result := .next s.confInWrite
/-- UP_SAFE (R166). -/
def execUpSafe (s : State) : Result := .next s.upSafe
/-- UPSTREAM_C_FRAME (06 R184). -/
def execUpstreamCFrame (f : CFrame) (s : State) : Result := .next (s.upstreamC f)
/-- UPSTREAM_F_FRAME (R168): a frame with a bad FCS is passed on with this head's slot in it all the same (R169). -/
def execUpstreamFFrame (uplink : Nat) (_fcsOk : Bool) (cycle : Word) (slots : List FSlot) (s : State) : Result :=
  .next (s.upstreamF uplink cycle slots)
/-- UPSTREAM_D_FRAME (R174). -/
def execUpstreamDFrame (uplink : Nat) (f : DFrame) (stamp : Word) (s : State) : Result := .next (s.upstreamD uplink f stamp)
/-- UPSTREAM_S_FRAME (R160). -/
def execUpstreamSFrame (uplink : Nat) (segs : List Seg) (s : State) : Result := .next (s.upstreamS uplink segs)

end Sys2Proof.Machine
end

