-- ==== Sys2Proof/Machine/Profile.lean ====
section
/-! DEFINITION. Motion commands, the generator's step at D_X, homing, compare and registration (10). -/
namespace Sys2Proof.Machine

namespace State

/-- The slot of an axis in the active generation (03 R69). -/
def slotOf (s : State) (i : Nat) : Option SlotAsg :=
  match s.net.active with
  | none => none
  | some g => g.slots.find? (fun x => x.axis == i)

/-- A flag of the present cycle is set (04 R120). -/
def setFlag (s : State) (i : Nat) (f : BitVec 20) : State := s.modAxis i fun a => { a with flags := a.flags ||| f }

/-! ## MOVE (R284, R285) -/

/-- The parameters of a MOVE (02). -/
def movePar (p : Pkt) : MovePar :=
  { profile := p.fld 0 0 4
    relative := p.fld 0 8 1 == 1
    target := signed 64 (p.w64 2) * oneCount + (p.fld 4 0 16 : Int) * 2 ^ 24
    velocity := if p.fld 0 0 4 = 2 then signed 32 (p.w 5) else (p.w 5 : Int)
    acc := p.w 6, dec := p.w 7, jerk := p.w 8 }

/-- The generator takes a MOVE or a HOME now (R284). -/
def takesMove (a : Axis) : Bool :=
  a.state == .enabled && (match a.prof.state with | .idle | .move | .velocity => true | _ => false)

/-- The first parameter word of a MOVE that is out of range (R284). -/
def moveFault (a : Axis) (m : MovePar) : Option Nat :=
  if m.profile ≥ 3 then some 0
  else if m.profile = 2 ∧ m.velocity.natAbs > a.hdr.spdFs then some 5
  else if m.profile ≠ 2 ∧ (m.velocity = 0 ∨ m.velocity.natAbs > a.hdr.spdFs) then some 5
  else if m.acc = 0 ∨ m.acc > a.hdr.accFs then some 6
  else if m.dec = 0 ∨ m.dec > a.hdr.accFs then some 7
  else if m.profile = 0 ∧ m.jerk = 0 then some 8
  else none

/-- The start cycle that a MOVE or GEAR_SET names under AT_CYCLE. -/
def startCycle (s : State) (p : Pkt) : Option Nat :=
  if p.fld 0 16 1 = 1 then some (s.extend (BitVec.ofNat 32 (p.w 1))) else none

/-- Checks and effect of MOVE (R284). -/
def bodyMove (c : Ctx) (p : Pkt) (s : State) : Verdict :=
  let a := s.axis p.unit
  let m := movePar p
  if !takesMove a then .fail stDenied 0
  else
    match moveFault a m with
    | some i => badParam i
    | none =>
      match s.startCycle p with
      | some cyc =>
        if s.lateCycle c cyc then .fail stLate 0
        else .done [] (s.modAxis p.unit fun a => { a with prof := { a.prof with pendMove := some (cyc, m) } })
      | none => .later (s.enqueueDx 0x0400 p (s.dxDue c))

/-- A MOVE takes effect on the generator (R285). -/
def commitMovePar (s : State) (i : Nat) (m : MovePar) : State :=
  let r := (s.axis i).prof.applyMove m
  let q := { r.1 with pendMove := none, endCycle := s.k + r.1.cyclesLeft }
  let s := s.modAxis i fun a => { a with prof := q, hdr := { a.hdr with refSrc := false } }
  if r.2 then s.setFlag i flagOvershoot else s

/-- A MOVE reaches its D_X (02 R442, 10 R281). -/
def commitMove (p : Pkt) (s : State) : State :=
  if takesMove (s.axis p.unit) then (s.commitMovePar p.unit (movePar p)).finish p []
  else s.reply p stDenied 0 []

/-- A MOVE pending under AT_CYCLE whose cycle is the next (R281, R284). -/
def commitPendMove (s : State) (i : Nat) : State :=
  let a := s.axis i
  match a.prof.pendMove with
  | some (cyc, m) =>
    if cyc ≤ s.k + 1 then
      if takesMove a then s.commitMovePar i m
      else s.modAxis i fun a => { a with prof := { a.prof with pendMove := none } }
    else s
  | none => s

/-! ## STOP (R286) -/

/-- Checks of STOP (R98, R286). -/
def bodyStop (c : Ctx) (p : Pkt) (s : State) : Verdict :=
  if (s.axis p.unit).state ≠ .enabled then .fail stDenied 0
  else if p.fld 0 0 2 = 3 then badParam 0
  else if p.fld 0 0 2 = 1 ∧ p.w 1 = 0 then badParam 1
  else .later (s.enqueueDx 0x0401 p (s.dxDue c))

/-- A STOP reaches its D_X (R98, R285, R286, 11 R337). -/
def commitStop (p : Pkt) (s : State) : State :=
  let i := p.unit
  let a := s.axis i
  if a.state ≠ .enabled then s.reply p stDenied 0 []
  else
    let s := s.stopSteps i
    if p.fld 0 0 2 = 2 then
      ((s.endMotion i).setAState i .ready 0x0401).finish p []
    else if p.fld 0 0 2 = 1 ∧ a.prof.decelLatch = true ∧ a.prof.decelerating = true ∧ p.w 1 < a.prof.planDec then
      (s.modAxis i fun a => { a with prof := a.prof.holdRamp }).finish p []
    else (s.startRamp i (if p.fld 0 0 2 = 1 then p.w 1 else a.prof.dec) false).finish p []

/-! ## GEAR_SET (R287-R289) -/

/-- The gearing that a GEAR_SET describes. -/
def gearPar (p : Pkt) : Gear :=
  { cam := p.fld 0 0 2 == 2
    msrcFb := p.fld 0 4 1 == 1
    rel := p.fld 0 5 1 == 1
    master := p.fld 2 0 8
    num := signed 32 (p.w 3)
    den := p.w 4
    offset := signed 64 (p.w64 5)
    slew := p.w 7 }

/-- A chain of masters from an axis that reaches another, within `fuel` links. -/
def chainReaches (s : State) (target : Nat) : Nat → Nat → Bool
  | 0, _ => false
  | fuel + 1, m =>
    if m = target then true
    else
      let a := s.axis m
      if a.prof.state = .gear then s.chainReaches target fuel a.prof.gear.master else false

/-- Checks and effect of GEAR_SET (R287). -/
def bodyGearSet (c : Ctx) (p : Pkt) (s : State) : Verdict :=
  let a := s.axis p.unit
  let g := gearPar p
  let mode := p.fld 0 0 2
  if mode ≠ 0 ∧ g.master ≥ s.nAxes then .fail stBadTarget 0
  else if a.state ≠ .enabled ∨ a.prof.state = .homing ∨ a.prof.state = .ramp then .fail stDenied 0
  else if mode = 3 then badParam 0
  else if mode ≠ 0 ∧ (g.master = p.unit ∨ (s.slotOf g.master).isNone ∨ s.chainReaches p.unit 256 g.master = true) then badParam 2
  else if mode ≠ 0 ∧ g.den = 0 then badParam 4
  else
    match s.startCycle p with
    | some cyc =>
      if s.lateCycle c cyc then .fail stLate 0
      else .done [] (s.modAxis p.unit fun a => { a with prof := { a.prof with pendGear := some (cyc, mode, g, p.w 8) } })
    | none => .later (s.enqueueDx 0x0404 p (s.dxDue c))

/-- The REF in use of an axis as a position, extrapolated one cycle (R288). -/
def refInUse (a : Axis) : Int :=
  let v := signed 16 a.use.vRef.toNat * (a.hdr.spdFs * 512 : Nat)
  let acc := signed 16 a.use.aRef.toNat * (a.hdr.accFs * 2 : Nat)
  a.coord a.use.pRef * oneCount + (a.use.pFrac.toNat : Int) * 2 ^ 24 + v + nearest acc 2

/-- A master's coordinate by feedback, from two successive samples (R288). -/
def extrapolate (a b : Option (Int × Nat)) : Int :=
  match a, b with
  | some (x, _), some (y, _) => (x + (x - y)) * oneCount
  | some (x, _), none => x * oneCount
  | _, _ => 0

/-- M for the reference being formed, or with `back` for the one before (R288). -/
def masterPos (s : State) (g : Gear) (back : Bool) : Int :=
  let m := s.axis g.master
  if g.msrcFb then (if back then extrapolate m.prof.fb2 m.prof.fb3 else extrapolate m.prof.fb1 m.prof.fb2)
  else if m.hdr.refSrc then refInUse m
  else m.prof.x

/-- M times NUM / DEN in units of 2^-16 count. -/
def geared (g : Gear) (m : Int) : Int := m * g.num / ((2 ^ 24 : Int) * (max g.den 1 : Nat))

/-- Engagement and disengagement (R286, R287, R288, R289). -/
def engage (s : State) (i mode : Nat) (g : Gear) (dec : Nat) : State :=
  let a := s.axis i
  if mode = 0 then
    let s := s.modAxis i fun a => { a with prof := { a.prof with dec := dec, pendGear := none } }
    if a.prof.state = .gear ∨ a.prof.state = .cam then s.startRamp i dec false else s
  else
    let m := s.masterPos g true
    let s0 := a.prof.x
    let tp := if g.rel then g.offset else g.offset - s0 / 2 ^ 24 + geared g m
    s.modAxis i fun a => { a with
      hdr := { a.hdr with refSrc := mode == 2 }
      prof := { a.prof with
        state := if mode = 2 then .cam else .gear, plan := [], dec := dec, pendGear := none
        returning := false, retTarget := none, retOver := false, seg := 0
        camPhase := if mode = 2 then g.offset else a.prof.camPhase
        gear := { g with m0 := m, s0 := s0, targetPhase := tp, phi := 0 } } }

/-- A GEAR_SET reaches its D_X. -/
def commitGearSet (p : Pkt) (s : State) : State :=
  let a := s.axis p.unit
  if a.state ≠ .enabled ∨ a.prof.state = .homing ∨ a.prof.state = .ramp then s.reply p stDenied 0 []
  else (s.engage p.unit (p.fld 0 0 2) (gearPar p) (p.w 8)).finish p []

/-- A GEAR_SET pending under AT_CYCLE whose cycle is the next. -/
def commitPendGear (s : State) (i : Nat) : State :=
  let a := s.axis i
  match a.prof.pendGear with
  | some (cyc, mode, g, dec) =>
    if cyc ≤ s.k + 1 then
      if a.state ≠ .enabled ∨ a.prof.state = .homing ∨ a.prof.state = .ramp then
        s.modAxis i fun a => { a with prof := { a.prof with pendGear := none } }
      else s.engage i mode g dec
    else s
  | none => s

/-- One step of gear mode (R288). -/
def gearStep (s : State) (i : Nat) : State :=
  let g := (s.axis i).prof.gear
  let m := s.masterPos g false
  let dphi := g.targetPhase - g.phi
  let step := if g.slew = 0 then dphi else clampI (-(g.slew : Int)) g.slew dphi
  let phi := g.phi + step
  let x := g.s0 + geared g (m - g.m0) * 2 ^ 24 + phi * 2 ^ 24
  s.modAxis i fun a =>
    let v := x - a.prof.x
    { a with prof := { a.prof with
        px := a.prof.x, pv := a.prof.v, pa := a.prof.a
        x := x, v := v, a := v - a.prof.v, gear := { a.prof.gear with phi := phi } } }

/-- A PHASE entry taken from the mailbox (R289). -/
def Axis.phase (a : Axis) (v : Int) (replace : Bool) : Axis :=
  match a.prof.state with
  | .gear =>
    let g := a.prof.gear
    { a with prof := { a.prof with gear := { g with targetPhase := if replace then v else g.targetPhase + v } } }
  | .cam => { a with prof := { a.prof with camPhase := if replace then v else a.prof.camPhase + v } }
  | _ => { a with prof := { a.prof with phaseIgn := true } }

/-! ## HOME (R290-R293) -/

/-- Kind of a source word of R290. -/
def srcKind (w : Nat) : Nat := field w 30 2

/-- The first parameter word of a HOME that is out of range (R290, R292, R284). -/
def homeFault (s : State) (p : Pkt) : Option Nat :=
  let a := s.axis p.unit
  let loc := (s.localPort p.unit).isSome
  let m := p.fld 0 0 2
  let badSrc (w : Nat) : Bool := srcKind w == 3 || (srcKind w == 1 && !loc)
  let config := p.fld 0 8 1 = 1
  if !config ∧ (m = 2 ∨ (m = 1 ∧ p.fld 0 5 1 = 1)) ∧ loc = false then some 0
  else if badSrc (p.w 1) then some 1
  else if badSrc (p.w 2) then some 2
  else if badSrc (p.w 3) then some 3
  else if config then (if p.fld 7 0 12 > 2000 then some 7 else none)
  else if m < 2 ∧ (p.w 4 = 0 ∨ p.w 4 > a.hdr.spdFs) then some 4
  else if (m ≥ 2 ∨ p.fld 0 5 1 = 1) ∧ (p.w 5 = 0 ∨ p.w 5 > a.hdr.spdFs) then some 5
  else if p.w 6 = 0 ∨ p.w 6 > a.hdr.accFs then some 6
  else if p.fld 7 0 12 > 2000 then some 7
  else if m = 3 ∧ p.fld 10 16 16 = 0 then some 10
  else none

/-- Bindings and DEBOUNCE of a HOME. -/
def bindHome (s : State) (p : Pkt) : State :=
  s.modAxis p.unit fun a => { a with prof := { a.prof with
    limP := { a.prof.limP with src := BitVec.ofNat 32 (p.w 1) }
    limN := { a.prof.limN with src := BitVec.ofNat 32 (p.w 2) }
    home := { a.prof.home with src := BitVec.ofNat 32 (p.w 3) }
    debounce := p.fld 7 0 12 } }

/-- Checks and effect of HOME (R292). -/
def bodyHome (c : Ctx) (p : Pkt) (s : State) : Verdict :=
  let config := p.fld 0 8 1 = 1
  if !config ∧ takesMove (s.axis p.unit) = false then .fail stDenied 0
  else
    match s.homeFault p with
    | some i => badParam i
    | none =>
      if config then .done [] (s.bindHome p)
      else .later (s.enqueueDx 0x0402 p (s.dxDue c))

/-- The generator heads for a velocity under the homing acceleration. -/
def Prof.seek (p : Prof) (v : Int) : Prof :=
  { p with vCmd := v, plan := rampVel p.v v (accUnit p.homing.acc) (accUnit p.homing.acc) }

/-- A HOME reaches its D_X: the search begins. -/
def commitHome (p : Pkt) (s : State) : State :=
  if !takesMove (s.axis p.unit) then s.reply p stDenied 0 []
  else
    let s := s.bindHome p
    let m := p.fld 0 0 2
    let neg := p.fld 0 4 1 == 1
    let speed : Nat := if m < 2 then p.w 4 else p.w 5
    let v := velUnit (if neg then -(speed : Int) else speed)
    (s.modAxis p.unit fun a => { a with
      hdr := { a.hdr with refSrc := false }
      prof := Prof.seek { a.prof with
        state := .homing, dec := p.w 6, planDec := p.w 6, jerkLim := false, returning := false, retTarget := none, retOver := false
        limP := { a.prof.limP with ignore := false }, limN := { a.prof.limN with ignore := false }
        home := { a.prof.home with ignore := false }
        homing := { method := m, dirNeg := neg, useIndex := p.fld 0 5 1 == 1, search := p.w 4, creep := p.w 5, acc := p.w 6
                    homePos := signed 64 (p.w64 8), tqThresh := signed 16 (p.fld 10 0 16), tqTime := p.fld 10 16 16, phase := 1 } } v }).finish p []

/-- Home is found at a position; the axis ramps to rest (R292). -/
def homeFound (s : State) (i : Nat) (x : Int) : State :=
  s.modAxis i fun a => { a with
    prof := Prof.seek { a.prof with homing := { a.prof.homing with latched := some x, found := true, phase := 4 } } 0 }

/-- Homing has come to rest: the origin moves, or homing has failed (R292). -/
def homeRest (s : State) (i : Nat) : State :=
  let p := (s.axis i).prof
  if p.state = .homing ∧ p.homing.phase = 4 ∧ p.plan = [] then
    if p.homing.failed then s.modAxis i fun a => { a with prof := { a.prof.finished 4 with homing := { a.prof.homing with phase := 0 } } }
    else
      match p.homing.latched with
      | some x =>
        let d := p.homing.homePos - x
        s.modAxis i fun a => { a with
          prof := { a.prof.finished 3 with
            origin := a.prof.origin + d, homed := true, x := a.prof.x + d * oneCount, px := a.prof.px + d * oneCount
            fb1 := a.prof.fb1.map fun f => (f.1 + d, f.2), fb2 := a.prof.fb2.map fun f => (f.1 + d, f.2)
            fb3 := a.prof.fb3.map fun f => (f.1 + d, f.2)
            homing := { a.prof.homing with phase := 0 } } }
      | none => s
  else s

/-- An index pulse at a count, in a homing that seeks it (R292). -/
def homeIndex (s : State) (i : Nat) (count : Word) : State :=
  let a := s.axis i
  let h := a.prof.homing
  if a.prof.state = .homing ∧ !h.found ∧ ((h.method = 2 ∧ (h.phase = 1 ∨ h.phase = 2)) ∨ h.phase = 3) then
    s.homeFound i (a.coord count)
  else s

/-- Torque has held above TQ_THRESH for TQ_TIME cycles in method 3 (R292). -/
def hardStop (s : State) (i : Nat) : State :=
  let a := s.axis i
  let h := a.prof.homing
  if a.prof.state = .homing ∧ h.method = 3 ∧ !h.found ∧ h.tqRun ≥ h.tqTime ∧ h.tqTime ≠ 0 then s.homeFound i (a.coord a.live.pFb)
  else s

/-- A limit input of an axis is active in a direction. -/
def limitActive (a : Axis) (neg : Bool) : Bool := if neg then a.prof.limN.level else a.prof.limP.level

/-- The profile velocity points into an active limit outside homing: the cause LIMIT (R293). -/
def limitCheck (s : State) (i : Nat) : State :=
  let a := s.axis i
  let into := (a.prof.v > 0 && a.prof.limP.level) || (a.prof.v < 0 && a.prof.limN.level)
  let moving := match a.state with | .enabled | .stopping => true | _ => false
  if a.prof.state ≠ .homing && moving && into then s.faultCause i 4 false
  else if !a.prof.limP.level && !a.prof.limN.level then s.causeClear i 4
  else s

/-- A limit that goes active while homing (R292). -/
def homeLimit (s : State) (i : Nat) (neg : Bool) (count : Word) : State :=
  let a := s.axis i
  let h := a.prof.homing
  let inDir := neg == h.dirNeg
  if h.found || h.failed then s
  else if h.method = 0 then (if inDir then s.homeFound i (a.coord count) else s)
  else if inDir && decide (h.phase = 1) then
    let speed : Nat := if h.method = 1 then h.search else h.creep
    let v := velUnit (if h.dirNeg then (speed : Int) else -(speed : Int))
    s.modAxis i fun a => { a with prof := Prof.seek { a.prof with homing := { a.prof.homing with phase := 2 } } v }
  else if !inDir && decide (h.phase = 2) then
    s.modAxis i fun a => { a with prof := Prof.seek { a.prof with homing := { a.prof.homing with phase := 4, failed := true } } 0 }
  else s

/-- A qualified edge of a limit or home input, with the count taken at its raw edge (R291-R293). -/
def inputQualified (s : State) (i : Nat) (pin : InPin) (level : Bool) (count : Word) : State :=
  let a := s.axis i
  let old := match pin with | .limP => a.prof.limP | .limN => a.prof.limN | .home => a.prof.home
  if i ≥ s.nAxes then s
  else if old.level = level then s
  else
    let upd (l : Lim) : Lim := { l with level := level, raw := level }
    let s := s.modAxis i fun a => { a with prof := match pin with
      | .limP => { a.prof with limP := upd a.prof.limP }
      | .limN => { a.prof with limN := upd a.prof.limN }
      | .home => { a.prof with home := upd a.prof.home } }
    if a.prof.state = .homing then
      if !level || old.ignore then s
      else
        match pin with
        | .limP => s.homeLimit i false count
        | .limN => s.homeLimit i true count
        | .home =>
          let h := a.prof.homing
          if h.method = 1 && !h.found && (h.phase == 1 || h.phase == 2) then
            let s := s.modAxis i fun a => { a with prof := { a.prof with home := { a.prof.home with ignore := true } } }
            if h.useIndex then
              let neg := h.dirNeg != (h.phase == 2)
              let v := velUnit (if neg then -(h.creep : Int) else h.creep)
              s.modAxis i fun a => { a with prof := Prof.seek { a.prof with homing := { a.prof.homing with phase := 3 } } v }
            else s.homeFound i (a.coord count)
          else s
    else s.limitCheck i

/-! ## Compare (R294-R296) -/

/-- Checks of COMPARE_SET. -/
def bodyCompareSet (c : Ctx) (p : Pkt) (s : State) : Verdict :=
  let pin := p.fld 0 9 1 = 1
  let slot := p.fld 0 10 1 = 1
  if (pin ∧ p.fld 1 0 4 ≥ s.nLocal) ∨ (slot ∧ p.fld 1 16 10 ≥ s.nNodes) then .fail stBadTarget 0
  else if pin ∧ p.fld 6 16 16 = 0 then badParam 6
  else if slot ∧ p.fld 6 0 12 % 8 ≠ 0 then badParam 6
  else .later (s.enqueueDx 0x0403 p (s.dxDue c))

/-- The compare that a COMPARE_SET arms, with the counts of the one it replaces. -/
def cmprPar (p : Pkt) (old : Cmpr) : Cmpr :=
  { dir := p.fld 0 4 2, ifPassed := p.fld 0 8 1 == 1, outPin := p.fld 0 9 1 == 1, outSlot := p.fld 0 10 1 == 1
    port := p.fld 1 0 4, node := p.fld 1 16 10, p := signed 64 (p.w64 2), interval := signed 64 (p.w64 4)
    ctrl := BitVec.ofNat 32 (p.w 0), offset := p.fld 6 0 12, width := p.fld 6 16 16, seq := old.seq, lost := old.lost, last := old.last }

/-- COMPARE_FIRED (R299). -/
def eventCompare (s : State) (i n : Nat) (passed hw : Bool) (added ns : Nat) (pos : Int) : State :=
  s.event 0x0402 (tAxis i) ([BitVec.ofNat 8 n, BitVec.ofNat 8 (b2n passed + 2 * b2n hw)] ++ leBytes 2 (satNat 16 added)
    ++ leBytes 8 ns ++ leBytes 8 (wrap 64 pos))

/-- A compare fires: pulse, slot event and event; then it disarms or moves on (R295). -/
def fireCompare (s : State) (i n : Nat) (ns frac : Nat) (passed hw : Bool) (added : Nat) : State :=
  let c := (s.axis i).prof.cmps.getD n {}
  let pulseAt := if hw then ns else s.cycleNs s.k + s.dX
  let s := if c.outPin then s.emit (.pulse c.port (if passed then ns else pulseAt) frac (100 * c.width)) else s
  let seq := c.seq + 1
  let bytes : List Byte := [seq, BitVec.ofNat 8 (n + 128 * b2n passed)] ++ leBytes 2 i ++ leBytes 4 ns
  let full := decide ((s.axis i).prof.slotEvts.length ≥ 4)
  let steps : Nat := if passed then added else 1
  let s := s.modAxis i fun a => { a with prof := { a.prof with
    slotEvts := if c.outSlot && !full then a.prof.slotEvts ++ [{ node := c.node, offset := c.offset, bytes := bytes }] else a.prof.slotEvts
    cmps := updAt a.prof.cmps n fun c => { c with
      seq := if c.outSlot then seq else c.seq
      lost := if c.outSlot && full then satInc c.lost else c.lost
      last := BitVec.ofNat 32 ns
      dir := if c.interval = 0 then 0 else c.dir
      p := c.p + c.interval * steps } } }
  (s.eventCompare i n passed hw added ns c.p).acqCompare i n (ns * 65536 + frac)

/-- Intervals to add until P is ahead of X (R296). -/
def intervalsAhead (c : Cmpr) (x : Int) : Nat :=
  if c.dir = 1 ∧ c.interval > 0 ∧ c.p ≤ x then ((x - c.p) / c.interval + 1).toNat
  else if c.dir = 2 ∧ c.interval < 0 ∧ c.p ≥ x then ((c.p - x) / (-c.interval) + 1).toNat
  else 0

/-- A COMPARE_SET reaches its D_X: the compare is armed, and one that is behind acts under R296. -/
def commitCompareSet (p : Pkt) (s : State) : State :=
  let i := p.unit
  let n := p.fld 0 0 2
  let s := s.modAxis i fun a => { a with prof := { a.prof with cmps := updAt a.prof.cmps n (cmprPar p) } }
  let c := (s.axis i).prof.cmps.getD n {}
  let x := (s.axis i).xNow
  let behind := (c.dir == 1 && decide (c.p ≤ x)) || (c.dir == 2 && decide (c.p ≥ x))
  let s := if behind then
      let s := s.setFlag i flagBehind
      if c.ifPassed then s.fireCompare i n s.now 0 true false (intervalsAhead c x) else s
    else s
  s.finish p []

/-- A compare is crossed between two positions (R295). -/
def crossed (c : Cmpr) (prev now : Int) : Bool :=
  let pos := decide (prev < c.p) && decide (c.p ≤ now)
  let neg := decide (prev > c.p) && decide (c.p ≥ now)
  match c.dir with
  | 1 => pos
  | 2 => neg
  | 3 => pos || neg
  | _ => false

/-- The compare's output is a pin of the axis's own port and nothing else, so port hardware compares (R295). -/
def hwCompare (s : State) (i : Nat) (c : Cmpr) : Bool := c.outPin && !c.outSlot && s.localPort i == some c.port

/-- The compares of an axis at IN, between two samples (R295). -/
def comparesAtIn (s : State) (i : Nat) (prev now : Int × Nat) : State :=
  runAll (fun n s =>
    let c := (s.axis i).prof.cmps.getD n {}
    if !s.hwCompare i c && crossed c prev.1 now.1 then
      let num := (c.p - prev.1) * (s.tmb.tc : Int)
      let den := now.1 - prev.1
      s.fireCompare i n (prev.2 + (if den = 0 then 0 else (num / den).toNat)) 0 false false 0
    else s) [0, 1, 2, 3] s

/-- The compares of an axis in port hardware, at a change of the filtered count (R295). -/
def comparesAtPin (s : State) (i : Nat) (prev now : Int) : State :=
  runAll (fun n s =>
    let c := (s.axis i).prof.cmps.getD n {}
    if s.hwCompare i c && crossed c prev now then s.fireCompare i n s.now 0 false true 0 else s) [0, 1, 2, 3] s

/-! ## Registration (R297, R298) -/

/-- REGISTRATION_BIND (R297). -/
def bodyRegistrationBind (_ : Ctx) (p : Pkt) (s : State) : Verdict :=
  .done [] (s.modAxis p.unit fun a => { a with prof := { a.prof with
    bindInput := p.fld 0 0 4, bindEdge := p.fld 0 4 2, w0 := signed 64 (p.w64 2), wLen := p.w 4, repeatLen := p.w 5 } })

/-- Fill level of the mark ring (R298). -/
def markFill (p : Prof) : Nat := (p.markWr.toNat + 32 - p.markRd.toNat) % 32

/-- A mark lies in the window of its axis (R297). -/
def inWindow (p : Prof) (x : Int) : Bool :=
  if p.wLen = 0 then true
  else
    let d := if p.repeatLen = 0 then x - p.w0 else (x - p.w0) % (p.repeatLen : Int)
    decide (0 ≤ d) && decide (d < p.wLen)

/-- A mark's entry is written, counted outside, or lost (R297, R298). `x16` is X_m in units of 2^-16 count. -/
def markEntry (s : State) (i ns : Nat) (frac : Half) (input : Nat) (rising span : Bool) (x16 : Int) (cycle : Nat) : State :=
  s.modAxis i fun a =>
    let p := a.prof
    if !inWindow p (x16 / 65536) then { a with prof := { p with markOutside := satInc p.markOutside } }
    else if markFill p ≥ 16 then { a with prof := { p with markLost := satInc p.markLost } }
    else
      let e : List Word := leWords 2 ns ++ [BitVec.ofNat 32 (frac.toNat + 2 ^ 16 * input + 2 ^ 24 * b2n rising + 2 ^ 25 * b2n span)]
        ++ leWords 2 (wrap 64 (x16 / 65536)) ++ [BitVec.ofNat 32 (wrap 16 x16)] ++ leWords 2 cycle
      { a with prof := { p with
          marks := updAt p.marks (p.markWr.toNat % 16) fun _ => e
          markWr := p.markWr + 1 } }

/-- A mark is offered to the binding of an axis (R298): a local axis takes its filtered count at once, and any other axis waits
for the closing sample. -/
def offerMark (ns : Nat) (frac : Half) (input : Nat) (rising : Bool) (count : Nat → Option Word) (i : Nat) (s : State) : State :=
  let a := s.axis i
  let p := a.prof
  let wants := p.bindInput == input && (p.bindEdge == 3 || (p.bindEdge == 1 && rising) || (p.bindEdge == 2 && !rising))
  if !wants then s
  else
    match count i with
    | some c => s.markEntry i ns frac input rising false (a.coord c * 65536) s.k
    | none =>
      s.modAxis i fun a => { a with prof := { a.prof with markWait := a.prof.markWait ++
        [{ ns := ns, frac := frac, input := input, rising := rising, xPrev := p.fb1.map Prod.fst
           sPrev := match p.fb1 with | some f => f.2 | none => ns }] } }

/-- The closing sample of the marks that wait on an axis (R298). -/
def closeMarks (s : State) (i : Nat) (now : Int × Nat) : State :=
  let waits := (s.axis i).prof.markWait
  let s := s.modAxis i fun a => { a with prof := { a.prof with markWait := a.prof.markWait.filter fun w => decide (w.ns ≥ now.2) } }
  runAll (fun w s =>
    if w.ns ≥ now.2 then s
    else
      match w.xPrev with
      | none => s.markEntry i w.ns w.frac w.input w.rising true (now.1 * 65536) s.k
      | some x0 =>
        let dt : Int := (now.2 - w.sPrev : Nat)
        let t : Int := ((w.ns - w.sPrev : Nat) : Int) * 65536 + w.frac.toNat
        let x := x0 * 65536 + (if dt = 0 then 0 else (now.1 - x0) * t / dt)
        s.markEntry i w.ns w.frac w.input w.rising (decide (now.2 - w.sPrev > s.tmb.tc)) x s.k) waits s

/-- A write of PRF_MARK_RD (R298, R300). -/
def writeMarkRd (s : State) (i : Nat) (v : Word) : State :=
  s.modAxis i fun a => { a with prof := { a.prof with markRd := v.extractLsb' 0 5 } }

/-! ## The generator at D_X (R281) -/

/-- The reference is committed as a REF entry tagged k + 1 in the generator's free slot (R281, 04 R111). -/
def writeRef (s : State) (i : Nat) : State :=
  let k := s.k
  s.modAxis i fun a =>
    let p := a.prof
    let slot := if a.use.refSlot = some 0 then 1 else 0
    let e : MbxSlot := {
      tag := BitVec.ofNat 64 (k + 1)
      data := [a.refCount p.x, BitVec.ofNat 32 (refFrac p.x).toNat,
        BitVec.ofNat 32 ((a.vRef p.v).toNat + 65536 * (a.aRef p.a).toNat), 0, 0]
      commit := 0x01000000 }
    { a with mbx := updAt a.mbx slot fun _ => e, prof := { p with refCycle := k + 1 } }

/-- In method 3 the reference stays within FE_LIMIT / 2 of the feedback (R292). -/
def holdNear (s : State) (i : Nat) : State :=
  s.modAxis i fun a =>
    let p := a.prof
    if p.state = .homing ∧ p.homing.method = 3 ∧ p.homing.phase ≠ 4 then
      let x := a.xNow * oneCount
      let lim : Int := (a.hdr.feLimit / 2 : Nat) * oneCount
      { a with prof := { p with x := clampI (x - lim) (x + lim) p.x } }
    else a


/-- A reversal of the profile velocity ends the ignoring of home and limit edges (R291). -/
def clearIgnore (old new : Int) (p : Prof) : Prof :=
  if (old < 0 ∧ new > 0) ∨ (old > 0 ∧ new < 0) then
    { p with limP := { p.limP with ignore := false }, limN := { p.limN with ignore := false }, home := { p.home with ignore := false } }
  else p

/-- The generator of one axis computes its reference for the next cycle (R281). In READY and FAULT it commits the position that it
follows or holds. -/
def genAxis (i : Nat) (s : State) : State :=
  let a := s.axis i
  match a.state with
  | .disabled => s
  | .ready | .fault => s.writeRef i
  | .enabled | .stopping =>
    match a.prof.state with
    | .cam => s.modAxis i fun a => { a with prof := { a.prof with refCycle := s.k + 1 } }
    | .gear => ((s.gearStep i).writeRef i).limitCheck i
    | _ =>
      let v0 := a.prof.v
      let s := s.modAxis i fun a => { a with prof := let q := a.prof.advance; clearIgnore v0 q.v q }
      ((((s.homeRest i).holdNear i).writeRef i)).limitCheck i

/-- How many geared masters an axis hangs under, within `fuel` (R288: generators are evaluated master first). -/
def gearDepth (s : State) : Nat → Nat → Nat
  | 0, _ => 0
  | fuel + 1, i =>
    let p := (s.axis i).prof
    if p.state = .gear ∧ p.gear.msrcFb = false then 1 + s.gearDepth fuel p.gear.master else 0

/-- Axes in the order of their depth under their masters. -/
def gearOrder (s : State) : List Nat :=
  let ds := (List.range s.nAxes).map fun i => (s.gearDepth s.nAxes i, i)
  let deepest := ds.foldl (fun m x => max m x.1) 0
  (List.range (deepest + 1)).flatMap fun d => (ds.filter fun x => x.1 == d).map Prod.snd

/-- Every generator's step at D_X: commands of the next cycle first, then the references, masters before slaves. -/
def generators (s : State) : State :=
  let s := runAll (fun i s => (s.commitPendMove i).commitPendGear i) (List.range s.nAxes) s
  runAll genAxis s.gearOrder s

end State

/-- MOVE (R284). -/
def opMove : Op := { opcode := 0x0400, kind := 1, len := lenIs 40, cycle := fun p s => s.startCycle p, body := State.bodyMove }
/-- STOP (R286). -/
def opStop : Op := { opcode := 0x0401, kind := 1, len := lenIs 8, body := State.bodyStop }
/-- HOME (R292). -/
def opHome : Op := { opcode := 0x0402, kind := 1, len := lenIs 48, body := State.bodyHome }
/-- COMPARE_SET (R294). -/
def opCompareSet : Op := { opcode := 0x0403, kind := 1, len := lenIs 32, body := State.bodyCompareSet }
/-- GEAR_SET (R287). -/
def opGearSet : Op := { opcode := 0x0404, kind := 1, len := lenIs 40, cycle := fun p s => s.startCycle p, body := State.bodyGearSet }
/-- REGISTRATION_BIND (R297). -/
def opRegistrationBind : Op := { opcode := 0x0405, kind := 1, len := lenIs 24, body := State.bodyRegistrationBind }

/-- MOVE (R284). -/
def execMove (p : Pkt) (s : State) : Result := .next (State.carry opMove p s)
/-- STOP (R286). -/
def execStop (p : Pkt) (s : State) : Result := .next (State.carry opStop p s)
/-- HOME (R292). -/
def execHome (p : Pkt) (s : State) : Result := .next (State.carry opHome p s)
/-- COMPARE_SET (R294). -/
def execCompareSet (p : Pkt) (s : State) : Result := .next (State.carry opCompareSet p s)
/-- GEAR_SET (R287). -/
def execGearSet (p : Pkt) (s : State) : Result := .next (State.carry opGearSet p s)
/-- REGISTRATION_BIND (R297). -/
def execRegistrationBind (p : Pkt) (s : State) : Result := .next (State.carry opRegistrationBind p s)
/-- INPUT_QUALIFIED (R291, R292, R293). -/
def execInputQualified (axis : Nat) (pin : InPin) (level : Bool) (count : Word) (s : State) : Result :=
  .next (s.inputQualified axis pin level count)
/-- HARD_STOP_HOME (R292). -/
def execHardStopHome (axis : Nat) (s : State) : Result := .next (s.hardStop axis)
/-- PRF_MARK_RD_WRITE (R298). -/
def execPrfMarkRdWrite (axis : Nat) (v : Word) (s : State) : Result := .next (s.writeMarkRd axis v)
/-- FOLLOWING_ERROR (03 R92). -/
def execFollowingError (axis : Nat) (s : State) : Result := .next (s.followingError axis false)
/-- MISS_LIMIT_REACHED (01 R27, R29). -/
def execMissLimitReached (axis : Nat) (s : State) : Result := .next (s.missLimit axis)
/-- STANDSTILL_REACHED (03 R96). -/
def execStandstillReached (axis : Nat) (s : State) : Result := .next (s.standstill axis)
/-- STOP_TIMEOUT (03 R96). -/
def execStopTimeout (axis : Nat) (s : State) : Result := .next (s.stopTimeout axis)

end Sys2Proof.Machine
end

