-- ==== Sys2Proof/Machine/LocalPort.lean ====
section
/-! DEFINITION. Local axis ports: configuration, feedback, pulse width modulation, the fault latch, the encoder emulator and step input
(11). -/
namespace Sys2Proof.Machine

/-! ## Configuration (R302, R338) -/

/-- A field of word i of the configuration. -/
def LPort.fld (p : LPort) (i lo n : Nat) : Nat := field (p.cfg.getD i 0).toNat lo n

/-- FUNC, FB_SRC, SYNC. -/
def LPort.func (p : LPort) : Nat := p.fld 0 0 2
def LPort.serial (p : LPort) : Bool := p.fld 0 2 1 == 1
def LPort.sync (p : LPort) : Bool := p.fld 11 2 1 == 1

/-- The pairs that the loop drives (R302, R326). -/
def LPort.loopPairs (p : LPort) : List Nat :=
  if !p.sync then [] else if p.func = 1 then [0, 1, 2] else if p.func = 2 then [0, 1, 2, 3] else []

/-- A word of PORT_CONFIGURE at a parameter offset. -/
def cfgWord (p : Pkt) (off : Nat) : Nat := p.w (off / 4)

/-- The first faulty word of the serial group (R314-R317). -/
def serialFault (tc : Nat) (p : Pkt) : Option Nat :=
  let a := cfgWord p 20
  let b := cfgWord p 24
  let framed := field a 0 1 = 1
  let bits := field b 0 7
  let clk := field a 16 10
  if clk < 10 ∨ clk > 1000 then some 5
  else if bits < 8 ∨ bits > (if framed then 64 else 32) ∨ field b 16 6 < 8 ∨ field b 16 6 > 32 ∨ field b 8 6 + field b 16 6 > bits
      ∨ (framed ∧ (field b 22 4 = 0 ∨ field b 26 5 > 16)) then some 6
  else
    let lead := Config.frameNs (BitVec.ofNat 32 a) (BitVec.ofNat 32 b) 0
    if lead > 10000 ∨ 2 * lead > tc then some 5 else none

/-- Safe levels that would turn on both sides of a pair (R329). -/
def bothActive (p : Pkt) : Bool := [0, 1, 2, 3].any fun i =>
  let inv := field (cfgWord p 48) (16 + i) 1
  field (cfgWord p 88) i 1 != inv && field (cfgWord p 88) (8 + i) 1 != inv

/-- The first faulty word of GRP_AXIS (R314, R318, R326, R329, R338). Groups the function does not use are not tested (log
entry 45). -/
def axisGroupFault (tc : Nat) (p : Pkt) : Option Nat :=
  let func := field (cfgWord p 4) 0 2
  let ser := field (cfgWord p 4) 2 1 = 1
  let sd := cfgWord p 32
  let div := field sd 0 5
  let dec := field sd 8 9
  let oc := cfgWord p 44
  let pw := cfgWord p 48
  let m := field pw 4 4
  let per := field (cfgWord p 52) 0 16
  if func = 3 then some 1
  else if func = 0 then none
  else if field (cfgWord p 8) 16 4 > 8 then some 2
  else if func = 1 ∧ ser = false ∧ (cfgWord p 12 = 0 ∨ cfgWord p 12 > 2 ^ 31) then some 3
  else if func = 1 ∧ ser = false ∧ cfgWord p 16 ≥ cfgWord p 12 then some 4
  else
    match (if ser then serialFault tc p else none) with
    | some i => some i
    | none =>
      if div < 10 ∨ div > 25 ∨ dec < 16 ∨ dec > 256 ∨ div * dec < 250 then some 8
      else if field oc 16 16 ≠ 0 ∧ (field oc 0 6 < 4 ∨ field oc 0 6 > 32 ∨ field oc 8 4 = 0) then some 11
      else if field pw 2 1 = 1 ∧ (m = 0 ∨ m > 8) then some 12
      else if field pw 2 1 = 1 ∧ ¬ (m * per * 4 ≤ tc ∧ tc - m * per * 4 < 8) then some 13
      else if bothActive p then some 22
      else none

/-- The first faulty word of GRP_EMU (R331, R334, R338). -/
def emuGroupFault (axes : Nat) (p : Pkt) : Option Nat :=
  if field (cfgWord p 92) 8 8 ≥ axes then some 23
  else if cfgWord p 100 = 0 then some 25
  else if cfgWord p 104 ≠ 0 ∧ cfgWord p 108 ≥ cfgWord p 104 then some 27
  else none

/-- A GRP_AXIS write (R338): counters, references, filters and shadows start afresh, and the period and compares are written with
COMMIT. -/
def LPort.applyAxis (p : LPort) (q : Pkt) : LPort :=
  let cfg := mapI (fun i w => if i < 22 then BitVec.ofNat 32 (q.w (i + 1)) else w) p.cfg
  { p with
    cfg := cfg, fbLossRun := 0, step := {}, sdFree := [0, 0, 0], sdLatched := [0, 0, 0], sdStuck := 0
    fbk := { a := p.fbk.a, b := p.fbk.b, z := p.fbk.z, stat := p.fbk.stat }
    pwm := { p.pwm with
      period := BitVec.ofNat 16 (field (q.w 13) 0 16), cmps := [0, 0, 0, 0], dirty := 0, pairPending := true, pairHold := false
      commit := true, written := 0, drop := 0, stretch := 0, demand := none } }

namespace State

/-- The axis bound to a local port. -/
def axisOf (s : State) (n : Nat) : Option Nat := (List.range s.nAxes).find? fun i => s.localPort i == some n

/-- PORT_CONFIGURE (R338). -/
def bodyPortConfigure (_ : Ctx) (p : Pkt) (s : State) : Verdict :=
  let ax := p.fld 0 0 1 = 1
  let em := p.fld 0 1 1 = 1
  let busy := match s.axisOf p.unit with | some i => decide ((s.axis i).state ≠ .disabled) | none => false
  let captured := s.acq.armed && (s.acq.sigs (· == 3)).any fun x => field x.2.toNat 16 4 == p.unit
  if ax ∧ (busy || captured) = true then .fail stDenied 0
  else
    match (if ax then axisGroupFault s.tmb.tc p else none), (if em then emuGroupFault s.nAxes p else none) with
    | some i, _ => badParam i
    | none, some i => badParam i
    | none, none =>
      .done [] (s.modLPort p.unit fun x =>
        let x := if ax then x.applyAxis p else x
        if em then { x with cfg := mapI (fun i w => if i ≥ 22 then BitVec.ofNat 32 (p.w (i + 1)) else w) x.cfg } else x)

/-! ## The fault latch (R329, R330, R340) -/

/-- A cause is latched: the first one starts the fault action, PORT_FAULT and the event (R329, R340). -/
def latchFault (s : State) (n cause : Nat) : State :=
  let w := (s.lport n).pwm
  let s := s.modLPort n fun p => { p with pwm := { p.pwm with
    latched := true, forced := true, causes := p.pwm.causes ||| BitVec.ofNat 5 (2 ^ cause)
    first := if w.latched then p.pwm.first else BitVec.ofNat 3 cause } }
  if w.latched then s
  else
    let s := s.event 0x0A01 (tLocal n) ([BitVec.ofNat 8 cause, BitVec.ofNat 8 (s.lport n).pwm.causes.toNat,
      BitVec.ofNat 8 ((s.lport n).fld 0 5 1), 0] ++ leBytes 8 s.now)
    let s := s.acqFault true n (s.now * 65536)
    match s.axisOf n with
    | some i => s.faultCause i 6 false
    | none => s

/-- A cause is present: a fault pin asserted, or feedback still missing (R330). -/
def faultPresent (s : State) (n : Nat) : Bool :=
  let p := s.lport n
  p.pwm.present.getLsbD 0 || (p.pwm.present.getLsbD 1 && p.fld 0 4 1 == 1)
    || (p.fld 4 8 8 != 0 && decide (p.fbLossRun ≥ p.fld 4 8 8))

/-- The latch is cleared; the pins follow the drive command from the next period boundary (R330). -/
def clearLatch (s : State) (n : Nat) : State :=
  let s := s.modLPort n fun p => { p with pwm := { p.pwm with latched := false, causes := 0, first := 0 } }
  match s.axisOf n with
  | some i => s.causeClear i 6
  | none => s

/-- PWM_FAULT_CLEAR (R330, R339). -/
def bodyFaultClear (_ : Ctx) (p : Pkt) (s : State) : Verdict :=
  if s.faultPresent p.unit then .fail stDenied 0 else .done [] (s.clearLatch p.unit)

/-- PWM_FLTCLR_WRITE (R330). -/
def writeFltclr (s : State) (n : Nat) (v : Word) : State :=
  if !v.getLsbD 0 then s
  else if s.faultPresent n then s.modLPort n fun p => { p with pwm := { p.pwm with err := true } }
  else s.clearLatch n

/-- A pin level of AXP_PINS. -/
def setPin (p : LPort) (i : Nat) (level : Bool) : LPort :=
  { p with pins := if level then p.pins ||| BitVec.ofNat 14 (2 ^ i) else p.pins &&& ~~~(BitVec.ofNat 14 (2 ^ i)) }

/-- A fault pin of a port asserts or releases (R329). -/
def faultPin (s : State) (n bit pin : Nat) (asserted acts : Bool) : State :=
  let s := s.modLPort n fun p =>
    { setPin p pin (!asserted) with pwm := { p.pwm with
        present := if asserted then p.pwm.present ||| BitVec.ofNat 5 (2 ^ bit) else p.pwm.present &&& ~~~(BitVec.ofNat 5 (2 ^ bit)) } }
  if asserted && acts && (s.lport n).func != 0 then s.latchFault n bit else s

/-- FAULT_N (R329). -/
def faultN (s : State) (n : Nat) (asserted : Bool) : State := if n ≥ s.nLocal then s else s.faultPin n 0 12 asserted true

/-- GFAULT_N, for the ports with GFLT_EN (R329). -/
def gfaultN (s : State) (asserted : Bool) : State :=
  runAll (fun n s => s.faultPin n 1 13 asserted ((s.lport n).fld 0 4 1 == 1)) (List.range s.nLocal) s

/-- OVERCURRENT (R320). -/
def overcurrent (s : State) (n : Nat) : State :=
  let p := s.lport n
  if n < s.nLocal ∧ p.func ≠ 0 ∧ p.fld 10 16 16 ≠ 0 then s.latchFault n 2 else s

/-- FB_LOSS (R329). -/
def fbLoss (s : State) (n : Nat) : State :=
  let p := s.lport n
  if n < s.nLocal ∧ p.fld 4 8 8 ≠ 0 ∧ p.fbLossRun ≥ p.fld 4 8 8 then s.latchFault n 3 else s

/-- Flags of the axis bound to a port (04 R120). -/
def flagPort (s : State) (n : Nat) (f : BitVec 20) : State :=
  match s.axisOf n with
  | some i => s.setFlag i f
  | none => s

/-- SD_STUCK (R319). -/
def sdStuck (s : State) (n ch : Nat) : State :=
  if n ≥ s.nLocal ∨ ch ≥ 3 then s
  else s.modLPort n fun p => { p with
    sdStuck := p.sdStuck ||| BitVec.ofNat 3 (2 ^ ch), fbk := { p.fbk with stat := p.fbk.stat ||| 0x40 } }

/-! ## The encoder emulator (R331-R334, R336) -/

/-- A field of word i of the emulator group in force. -/
def emuFld (e : Emu) (i lo n : Nat) : Nat := field (e.cfg.getD i 0).toNat lo n

/-- Least spacing of counts in ns (R333). -/
def emuSpacing (e : Emu) : Nat :=
  let own := if emuFld e 0 1 1 = 1 then 50 else 25
  let r := emuFld e 0 16 16
  if r = 0 then own else max own (ceilDiv 100000 r)

/-- X at an instant, in 2^-40 count (R332): the filtered count of this port's own axis, or a point of the path. -/
def emuX (s : State) (n t : Nat) : Option Int :=
  let e := (s.lport n).emu
  let i := emuFld e 0 8 8
  if emuFld e 0 2 1 = 0 ∧ s.localPort i = some n then some ((s.axis i).extend (s.lport n).fbk.filt * oneCount)
  else e.path.map fun (x0, dx, t0) => x0 + dx * ((t : Int) - t0) / (s.tmb.tc : Nat)

/-- The source of an emulator is lost (R332). -/
def emuSrcLost (s : State) (e : Emu) : Bool :=
  let i := emuFld e 0 8 8
  let a := s.axis i
  let gone := match s.boundNode i with | some (n, _) => (s.node n).lost | none => false
  gone || !(a.state == .enabled || a.state == .stopping)

/-- The output that X calls for (R331, R333). -/
def emuTarget (e : Emu) (x : Int) : Int :=
  let num := signed 32 (e.cfg.getD 1 0).toNat
  let den : Int := ((e.cfg.getD 2 0).toNat : Int) * oneCount
  e.base + (if den = 0 then 0 else (x - e.xEn) * num / den)

/-- The output at an instant: counts follow the target as far as the spacing lets them; under MONO only forward past the highest
(R331, R333). -/
def emuStep (e : Emu) (x : Int) (t : Nat) : Emu :=
  let goal := emuTarget e x
  let mono := emuFld e 0 3 1 = 1
  let hold := mono ∧ goal < e.high
  let want := if hold then e.o else goal
  let sp := emuSpacing e
  let can : Int := ((t - e.lastT) / sp : Nat)
  let o := if want > e.o then min want (e.o + can) else max want (e.o - can)
  { e with
    x := x, o := o, high := max e.high o, monoHold := hold
    lag := BitVec.ofNat 16 (satNat 16 (want - o).natAbs)
    lastT := if o = want then t else e.lastT + can.toNat * sp }

/-- An emulator comes up to an instant. A source lost, or steps stopped, end its output; it goes on from the present position when
that ends (R332, R337). -/
def emuRun (t n : Nat) (s : State) : State :=
  let e := (s.lport n).emu
  let put (f : Emu → Emu) : State := s.modLPort n fun p => { p with emu := f p.emu }
  if !e.en then s
  else if s.emuSrcLost e || e.halted then put fun e => { e with lost := s.emuSrcLost e, lag := 0, lastT := t }
  else
    match s.emuX n t with
    | none => put fun e => { e with lastT := t }
    | some x =>
      if e.lost then put fun e => { e with lost := false, xEn := x, base := e.o, x := x, lastT := t, high := e.o }
      else put fun e => emuStep e x t

/-- Every emulator comes up to the present. -/
def emuAll (s : State) : State := runAll (emuRun s.now) (List.range s.nLocal) s

/-- An emulator's group comes into force at the next cycle (R338), and a stop of the source's steps ends with its ramp (R337). -/
def emuCycle (n : Nat) (s : State) : State :=
  let p := s.lport n
  let cfg := p.cfg.drop 22
  let s := if cfg = p.emu.cfg then s
    else
      let on := field (cfg.getD 0 0).toNat 0 1 = 1
      let start := on ∧ p.emu.en = false
      s.modLPort n fun p => { p with emu :=
        if start then { cfg := cfg, en := true, lost := true, lastT := s.now } else { p.emu with cfg := cfg, en := on } }
  let e := (s.lport n).emu
  let a := s.axis (emuFld e 0 8 8)
  if e.halted ∧ a.prof.state ≠ .ramp ∧ a.state = .enabled then
    s.modLPort n fun p => { p with emu := { p.emu with halted := false, lost := true } }
  else s

/-- The path of a reference source over the cycle that begins (R332). -/
def emuRefPath (n : Nat) (s : State) : State :=
  let e := (s.lport n).emu
  if e.en && emuFld e 0 2 1 == 1 then
    let p := (s.axis (emuFld e 0 8 8)).prof
    s.modLPort n fun q => { q with emu := { q.emu with path := some (p.x, p.advance.x - p.x, s.cycleNs s.k + s.applyOffset) } }
  else s

/-- The path of a feedback source from D_U on; a cycle without feedback keeps the path before (R332). -/
def emuFbPath (n : Nat) (s : State) : State :=
  let e := (s.lport n).emu
  let i := emuFld e 0 8 8
  if e.en && emuFld e 0 2 1 == 0 && s.localPort i != some n then
    match s.feedback i with
    | some f =>
      let a := s.axis i
      let x := a.extend f.p
      let dx := if a.extValid then x - a.extPos else 0
      s.modLPort n fun q => { q with emu := { q.emu with
        path := some (x * oneCount, dx * oneCount, s.sampleNs ((s.axisPort i).getD 0)) } }
    | none => s
  else s

/-! ## Quadrature and index (R308-R312) -/

/-- The filtered position after a count of the raw counter (R310). -/
def hysteresis (x : Fbk) : Fbk :=
  let e := signed 32 (x.raw - x.filt).toNat
  let d : Int := if x.dirNeg then -1 else 1
  if d * e ≥ 0 then { x with filt := x.raw }
  else if d * e = -1 then x
  else { x with filt := x.raw, dirNeg := !x.dirNeg }

/-- Position of a state of A and B in the order of positive travel. -/
def quadPhase (a b : Bool) : Nat := match a, b with | false, false => 0 | true, false => 1 | true, true => 2 | false, true => 3

/-- One count (R309-R311). -/
def countQuad (p : LPort) (neg : Bool) : LPort :=
  let cpr := max 1 (p.cfg.getD 2 0).toNat
  let r := if neg then p.fbk.raw - 1 else p.fbk.raw + 1
  let rev := if neg then (p.fbk.revpos + cpr - 1) % cpr else (p.fbk.revpos + 1) % cpr
  { p with fbk := hysteresis { p.fbk with raw := r, revpos := rev } }

/-- QUADRATURE_EDGE: the filtered levels of A and B (R309, R310); a compare on the port's own pin looks at every count (10 R295). -/
def quadratureEdge (s : State) (n : Nat) (a b : Bool) : State :=
  let p := s.lport n
  if n ≥ s.nLocal then s
  else
    let s := s.modLPort n fun p => { setPin (setPin p 0 a) 1 b with fbk := { p.fbk with a := a, b := b } }
    let turn := (quadPhase a b + 4 - quadPhase p.fbk.a p.fbk.b) % 4
    if turn = 0 then s
    else if turn = 2 then
      (s.modLPort n fun p => { p with fbk := { p.fbk with stat := p.fbk.stat ||| 1, illegal := p.fbk.illegal + 1 } }).flagPort n flagIllegal
    else
      let s := s.modLPort n fun p => countQuad p ((turn == 3) != (p.fld 1 4 1 == 1))
      match s.axisOf n with
      | some i =>
        let s := s.comparesAtPin i ((s.axis i).coord p.fbk.filt) ((s.axis i).coord (s.lport n).fbk.filt)
        emuRun s.now n s
      | none => s

/-- d of R312. -/
def indexDelta (rev expect cpr : Nat) : Int :=
  let d := ((rev : Int) - expect) % (max 1 cpr : Nat)
  if d ≥ ((cpr + 1) / 2 : Nat) then d - cpr else d

/-- INDEX_EVENT (R312). -/
def indexEvent (s : State) (n : Nat) : State :=
  let p := s.lport n
  let expect := (p.cfg.getD 3 0).toNat
  let cpr := (p.cfg.getD 2 0).toNat
  let act := p.fld 1 12 2
  let home (s : State) : State :=
    match s.axisOf n with
    | some i => s.homeIndex i (s.lport n).fbk.filt
    | none => s
  if n ≥ s.nLocal then s
  else if !p.fbk.referenced then
    home (s.modLPort n fun p => { p with fbk := { p.fbk with revpos := expect, referenced := true } })
  else
    let d := indexDelta p.fbk.revpos expect cpr
    if act = 0 ∨ d = 0 then home s
    else
      let s := (s.modLPort n fun p => { p with fbk := { p.fbk with
        stat := p.fbk.stat ||| 2, mismatch := p.fbk.mismatch + 1, idxDelta := BitVec.ofInt 32 d } }).flagPort n flagIndexMismatch
      let s := if act ≥ 2 then s.modLPort n fun p => { p with fbk := { p.fbk with
          raw := p.fbk.raw - BitVec.ofInt 32 d, filt := p.fbk.filt - BitVec.ofInt 32 d, revpos := expect } }
        else s
      let s := if act = 3 then s.latchFault n 4 else s
      home s

/-! ## Serial sensors (R314-R317) -/

/-- SERIAL_FRAME_START: the frame starts T_LEAD before the sample instant (R314). -/
def serialStart (s : State) (n : Nat) : State :=
  let p := s.lport n
  if n < s.nLocal ∧ p.serial = true ∧ p.func ≠ 0 then
    s.modLPort n fun p => { p with fbk := { p.fbk with
      serBusy := true, lead := Config.frameNs (p.cfg.getD 4 0) (p.cfg.getD 5 0) p.fbk.serDly.toNat } }
  else s

/-- A word in Gray code, read by its bits from the top. -/
def grayDecode : Nat → Nat → Nat
  | 0, v => v
  | k + 1, v => grayDecode k (v ^^^ (v / 2 ^ (2 ^ k)))

/-- The reading extrapolated to the sample instant (R314). Where the result is no whole count, the count above or below it is taken:
the manual does not say which (log entry 44). -/
def extrapolated (s : State) (p prev : Word) (lead : Nat) : Word × State :=
  let num := signed 32 (p - prev).toNat * (lead : Int)
  let q := num / (s.tmb.tc : Nat)
  if q * (s.tmb.tc : Nat) = num then (p + BitVec.ofInt 32 q, s)
  else
    let (v, s) := s.free 1
    (p + BitVec.ofInt 32 (q + (v.toNat : Int)), s)

/-- SERIAL_FRAME_END: the frame is checked, and a good one advances p_fb (R315-R317). -/
def serialEnd (s : State) (n : Nat) (started crcOk : Bool) (data : DWord) (delay5 : Nat) : State :=
  let p := s.lport n
  let framed := p.fld 4 0 1 = 1
  if n ≥ s.nLocal ∨ p.fbk.serBusy = false then s
  else if !started ∨ (framed ∧ crcOk = false) then
    s.modLPort n fun p => { p with fbk := { p.fbk with
      serBusy := false, serEnded := true, serOk := false, stat := p.fbk.stat ||| (if started then 0x20 else 0x10) } }
  else
    let bits := p.fld 5 0 7
    let raw := data.toNat % 2 ^ bits
    let word := if ¬ framed ∧ p.fld 4 1 1 = 1 then grayDecode 6 raw else raw
    let w := p.fld 5 16 6
    let q := field word (p.fld 5 8 6) w
    let (pf, value, s) := match p.fbk.serQ, p.fbk.serLast with
      | some q0, some last =>
        let pf := last + BitVec.ofInt 32 (signed w (wrap w ((q : Int) - q0)))
        if p.fld 4 2 1 = 1 then
          let (v, s) := s.extrapolated pf last p.fbk.lead
          (pf, v, s)
        else (pf, pf, s)
      | _, _ => (BitVec.ofNat 32 q, BitVec.ofNat 32 q, s)
    s.modLPort n fun p => { p with fbk := { p.fbk with
      serBusy := false, serEnded := true, serOk := true, serData := BitVec.ofNat 64 raw, serQ := some q, serLast := some pf, serP := value
      serDly := if framed then BitVec.ofNat 9 delay5 else p.fbk.serDly } }

/-! ## Pulse width modulation (R321-R328) -/

/-- Units of 62.5 ps in a period, and units of on-time to a unit of compare (R321). -/
def pwmTotal (p : LPort) : Nat := if p.fld 11 0 1 = 1 then 128 * p.pwm.actPeriod.toNat else 64 * p.pwm.actPeriod.toNat
def pwmScale (p : LPort) : Nat := if p.fld 11 0 1 = 1 then 2 else 1

/-- On-time of a pair in the period that begins, and whether the short-pulse policy dropped or stretched it (R322-R324). -/
def pairOn (p : LPort) (i : Nat) : Nat × Bool × Bool :=
  let c := (p.pwm.actCmps.getD i 0).toNat
  let total := pwmTotal p
  let pmin := p.fld 12 16 16
  let rdly := p.fld (13 + 2 * i) 0 18
  let fdly := p.fld (14 + 2 * i) 0 18
  let on := c * pwmScale p
  let drop := p.fld 11 (12 + i) 1 = 0 ∨ pmin = 0
  if c = 0 then (0, false, false)
  else if c ≥ 64 * p.pwm.actPeriod.toNat then (total, false, false)
  else if on ≤ rdly ∨ on - rdly < pmin then if drop then (0, true, false) else (rdly + pmin, false, true)
  else if total - on ≤ fdly ∨ total - on - fdly < pmin then if drop then (total, true, false) else (total - (fdly + pmin), false, true)
  else (on, false, false)

/-- The pairs of a port in use. -/
def pairsInUse (p : LPort) : List Nat := [0, 1, 2, 3].filter fun i => p.fld 11 (8 + i) 1 == 1 || p.loopPairs.contains i

/-- Short pulses of the period that begins are counted (R324). -/
def countShort (p : LPort) : LPort :=
  let rs := (pairsInUse p).map (pairOn p)
  let bump (f : Nat × Bool × Bool → Bool) (x : Half) : Half := (rs.filter f).foldl (fun x _ => satInc x) x
  { p with pwm := { p.pwm with
      drop := bump (fun r => r.2.1) p.pwm.drop, stretch := bump (fun r => r.2.2) p.pwm.stretch
      onTime := [0, 1, 2, 3].map fun i => (pairOn p i).1 } }

/-- The compare of a phase demand (R322). -/
def demandCmp (period : Nat) (u : Int) : BitVec 22 := BitVec.ofNat 22 (((u + 32768).toNat * period + 512) / 1024)

/-- The compares that the loop's demands give (R322). -/
def demandCmps (p : LPort) (us : List Half) : List (BitVec 22) :=
  let u (i : Nat) : Int := signed 16 (us.getD i 0).toNat
  let c := demandCmp p.pwm.period.toNat
  if p.func = 2 then [c (u 0), c (-(u 0)), c (u 1), c (-(u 1))] else [c (u 0), c (u 1), c (u 2), p.pwm.cmps.getD 3 0]

/-- The loop's demands and drive command of a cycle reach the port at D_X (R307, R328). -/
def loopDemand (p : LPort) (us : List Half) (d : Drive) (applyNs : Nat) : LPort :=
  let cs := demandCmps p us
  { p with pwm := { p.pwm with
      cmps := mapI (fun i c => if p.loopPairs.contains i then cs.getD i 0 else c) p.pwm.cmps
      demand := some us, driveNext := some d, applyNs := applyNs } }

/-- The transfer at a period boundary (R325-R327): a pending period waits for its compares; the loop's values go over at the
boundary of the apply instant. -/
def transfer (p : LPort) (now : Nat) : LPort :=
  let w := p.pwm
  let apply := decide (now ≥ w.applyNs) && w.demand.isSome
  let en := BitVec.ofNat 4 (p.fld 11 8 4)
  if w.pairPending then
    if w.commit || (w.written &&& en) == en then
      { p with pwm := { w with
          actPeriod := w.period, actCmps := w.cmps, pairPending := false, pairHold := false, commit := false, dirty := 0
          demand := if apply then none else w.demand } }
    else { p with pwm := { w with pairHold := true } }
  else
    { p with pwm := { w with
        actCmps := mapI (fun i c =>
          if p.loopPairs.contains i then (if apply then w.cmps.getD i 0 else c) else if w.dirty.getLsbD i then w.cmps.getD i 0 else c) w.actCmps
        dirty := 0, demand := if apply then none else w.demand } }

/-- The drive command takes effect at the boundary of the apply instant, and a cleared latch frees the pins at a boundary (R307,
R328, R330). -/
def takeDrive (p : LPort) (now : Nat) : LPort :=
  let w := p.pwm
  { p with pwm := { w with
      forced := w.latched
      drive := if now ≥ w.applyNs then w.driveNext.getD w.drive else w.drive
      driveNext := if now ≥ w.applyNs then none else w.driveNext } }

/-- PWM_PERIOD_BOUNDARY (R324, R327). -/
def periodBoundary (s : State) (n : Nat) : State :=
  if n ≥ s.nLocal then s
  else s.modLPort n fun p => countShort (takeDrive (transfer { p with pwm := { p.pwm with startNs := s.now } } s.now) s.now)

/-- PWM_PERIOD_WRITE (R326, R327). -/
def writePeriod (s : State) (n : Nat) (v : Word) : State :=
  s.modLPort n fun p =>
    if p.sync then { p with pwm := { p.pwm with err := true } }
    else { p with pwm := { p.pwm with period := v.extractLsb' 0 16, pairPending := true, written := 0 } }

/-- On-time of a pair whose compare changes within the period (R325). `el` is the time since the period began, in 62.5 ps. -/
def onTimeNow (p : LPort) (i el : Nat) : Nat :=
  let total := pwmTotal p
  let new := (pairOn p i).1
  let old := p.pwm.onTime.getD i 0
  let next := el + 64
  let least := p.fld (13 + 2 * i) 0 18 + p.fld 12 16 16
  if p.fld 11 0 1 = 0 then
    if old ≤ el then old
    else if new ≤ el then (if new = 0 ∧ el = 0 then 0 else min old (max next least)) else new
  else
    let rise (on : Nat) : Nat := total / 2 - on / 2
    let r := if rise old ≤ el then rise old else max (rise new) (min next (rise new + next))
    let f := if total / 2 + old / 2 ≤ el then total / 2 + old / 2 else max (total / 2 + new / 2) next
    f - r

/-- PWM_CMP_WRITE (R325-R327). -/
def writeCmp (s : State) (n pair : Nat) (v : Word) : State :=
  if pair ≥ 4 then s
  else
    s.modLPort n fun p =>
      if p.loopPairs.contains pair then { p with pwm := { p.pwm with err := true } }
      else
        let c := v.extractLsb' 0 22
        let p := { p with pwm := { p.pwm with
          cmps := updAt p.pwm.cmps pair fun _ => c, written := p.pwm.written ||| BitVec.ofNat 4 (2 ^ pair)
          dirty := p.pwm.dirty ||| BitVec.ofNat 4 (2 ^ pair) } }
        if p.fld 11 3 1 = 1 ∧ p.pwm.pairPending = false then
          let q := { p with pwm := { p.pwm with
            actCmps := updAt p.pwm.actCmps pair fun _ => c, dirty := p.pwm.dirty &&& ~~~(BitVec.ofNat 4 (2 ^ pair)) } }
          { q with pwm := { q.pwm with onTime := updAt q.pwm.onTime pair fun _ => onTimeNow q pair (16 * (s.now - q.pwm.startNs)) } }
        else p

/-- PWM_COMMIT_WRITE: a write to PWM_STAT (R327). -/
def writeCommit (s : State) (n : Nat) (v : Word) : State :=
  s.modLPort n fun p => { p with pwm := { p.pwm with
    commit := p.pwm.commit || v.getLsbD 29, err := p.pwm.err && !v.getLsbD 28 } }

/-! ## Step input (R335, R337) -/

/-- STEP_INPUT_EDGE: a full step, in the positive direction or not. -/
def stepEdge (s : State) (n : Nat) (dir : Bool) (ns : Nat) : State :=
  let p := s.lport n
  if n ≥ s.nLocal ∨ p.func ≠ 2 ∨ p.step.stopped = true then s
  else
    let m : Int := (2 ^ p.fld 1 16 4 : Nat)
    s.modLPort n fun p => { p with step := { p.step with
      sn := if dir then p.step.sn + m else p.step.sn - m
      t := (ns :: p.step.t).take 3
      dirNeg := !dir
      same := if p.step.dirNeg = !dir then p.step.same + 1 else 1 } }

/-- Microstep advance is free again once the axis is enabled and its ramp is over (R337; log entry 46). -/
def stepFree (n : Nat) (s : State) : State :=
  match s.axisOf n with
  | some i =>
    let a := s.axis i
    if a.state = .enabled ∧ a.prof.state ≠ .ramp then s.modLPort n fun p => { p with step := { p.step with stopped := false } } else s
  | none => s

/-! ## The sample instant (R305, R306) -/

/-- The status word of a local axis: its fault latch, bridge, short and overcurrent bits as a drive node has them, and free values for
the rest, which the manual leaves to a node's maker (R305, 05 R138; log entry 47). -/
def localStatus (p : LPort) (v : BitVec 8) : Half :=
  let w := p.pwm
  let low : Byte := BitVec.ofNat 8 (b2n w.latched + 2 * b2n (w.drive == .run && !w.forced) + 4 * b2n (w.drive == .short && !w.forced)
    + 8 * b2n (w.causes.getLsbD 2))
  v ++ low

/-- The values a port latches (R305, R306). -/
def latchPort (ins : List PortIn) (n : Nat) (s : State) : State :=
  let p := s.lport n
  if p.func = 0 then s
  else
    let (v, s) := s.free 8
    let x := ins.getD n { sd := p.sdFree, pins := p.pins }
    let ch2 := p.fld 7 17 1 = 1
    let stuck := p.sdStuck.getLsbD 0 || p.sdStuck.getLsbD 1 || (ch2 && p.sdStuck.getLsbD 2)
    let micro := p.step.micro (p.fld 1 16 4) s.now
    let lost := p.serial && !(p.fbk.serEnded && p.fbk.serOk)
    let missing := stuck || lost
    s.modLPort n fun p => { p with
      pins := x.pins, sdLatched := x.sd
      fbLossRun := if missing then p.fbLossRun + 1 else 0
      fbk := { p.fbk with serEnded := false }
      sample := {
        p := if p.serial then p.fbk.serP else if p.func = 2 then BitVec.ofInt 32 micro else p.fbk.filt
        iU := x.sd.getD 0 0, iV := x.sd.getD 1 0
        vDc := if ch2 then x.sd.getD 2 0 else BitVec.ofNat 16 (p.fld 9 0 16)
        status := localStatus p v, missing := missing, micro := micro } }

end State

/-- PORT_CONFIGURE (R338). -/
def opPortConfigure : Op := { opcode := 0x0A00, kind := 6, len := lenIs 112, body := State.bodyPortConfigure }
/-- PWM_FAULT_CLEAR (R339). -/
def opPwmFaultClear : Op := { opcode := 0x0A01, kind := 6, len := lenIs 0, body := State.bodyFaultClear }

/-- PORT_CONFIGURE (R338). -/
def execPortConfigure (p : Pkt) (s : State) : Result := .next (State.carry opPortConfigure p s)
/-- PWM_FAULT_CLEAR (R339). -/
def execPwmFaultClear (p : Pkt) (s : State) : Result := .next (State.carry opPwmFaultClear p s)
/-- QUADRATURE_EDGE (R309). -/
def execQuadratureEdge (port : Nat) (a b : Bool) (s : State) : Result := .next (s.quadratureEdge port a b)
/-- INDEX_EVENT (R312). -/
def execIndexEvent (port : Nat) (s : State) : Result := .next (s.indexEvent port)
/-- SERIAL_FRAME_START (R314). -/
def execSerialFrameStart (port : Nat) (s : State) : Result := .next (s.serialStart port)
/-- SERIAL_FRAME_END (R316). -/
def execSerialFrameEnd (port : Nat) (started crcOk : Bool) (data : DWord) (delay5 : Nat) (s : State) : Result :=
  .next (s.serialEnd port started crcOk data delay5)
/-- SD_STUCK (R319). -/
def execSdStuck (port ch : Nat) (s : State) : Result := .next (s.sdStuck port ch)
/-- OVERCURRENT (R320). -/
def execOvercurrent (port : Nat) (s : State) : Result := .next (s.overcurrent port)
/-- FAULT_N (R329). -/
def execFaultN (port : Nat) (asserted : Bool) (s : State) : Result := .next (s.faultN port asserted)
/-- GFAULT_N (R329). -/
def execGfaultN (asserted : Bool) (s : State) : Result := .next (s.gfaultN asserted)
/-- FB_LOSS (R329). -/
def execFbLoss (port : Nat) (s : State) : Result := .next (s.fbLoss port)
/-- PWM_PERIOD_BOUNDARY (R327). -/
def execPwmPeriodBoundary (port : Nat) (s : State) : Result := .next (s.periodBoundary port)
/-- PWM_PERIOD_WRITE (R327). -/
def execPwmPeriodWrite (port : Nat) (v : Word) (s : State) : Result := .next (s.writePeriod port v)
/-- PWM_CMP_WRITE (R325). -/
def execPwmCmpWrite (port pair : Nat) (v : Word) (s : State) : Result := .next (s.writeCmp port pair v)
/-- PWM_COMMIT_WRITE (R327). -/
def execPwmCommitWrite (port : Nat) (v : Word) (s : State) : Result := .next (s.writeCommit port v)
/-- PWM_FLTCLR_WRITE (R330). -/
def execPwmFltclrWrite (port : Nat) (v : Word) (s : State) : Result := .next (s.writeFltclr port v)
/-- STEP_INPUT_EDGE (R335). -/
def execStepInputEdge (port : Nat) (dir : Bool) (ns : Nat) (s : State) : Result := .next (s.stepEdge port dir ns)

end Sys2Proof.Machine
end

