-- ==== Sys2Proof/Machine/Record.lean ====
section
/-! DEFINITION. Axis commands, parameter sets, the set-point mailbox's writes, and the counters and history controls of the axis
record (03, 04). -/
namespace Sys2Proof.Machine

/-! ## Parameter words (04 R106, R107) -/

/-- A G16 word has its upper bits zero (03 R80). -/
def okG16 (w : Nat) : Bool := decide (w < 2 ^ 19)
/-- An I32 gain has a magnitude below 1 (03 R80). -/
def okI32 (w : Nat) : Bool := w != 2 ^ 31
/-- A 16-bit field alone in its word. -/
def okHalf (w : Nat) : Bool := decide (w < 2 ^ 16)

/-- A source word (04 R107). -/
def okSource (xc : Bool) (w : Nat) : Bool :=
  let kind := field w 30 2
  let xk := field w 28 1
  decide (kind < 2) && field w 29 1 == 0 && field w 26 2 == 0 && field w 12 4 == 0
    && (xk == 0 || (xc && kind == 1))
    && (kind == 0 || decide (field w 16 10 < 256))
    && (xk == 1 || (field w 0 12 % 2 == 0 && (kind == 0 || decide (field w 0 12 ≤ 126))))

/-- A data word obeys the format, range and reserved-bit rules of its place in a set (04 R106). -/
def okParam (off w : Nat) : Bool :=
  if off = 0x000 ∨ off = 0x004 ∨ off = 0x010 ∨ off = 0x014 then okG16 w
  else if off = 0x008 ∨ off = 0x018 then okI32 w
  else if off = 0x00C ∨ off = 0x01C then okHalf w
  else if off = 0x020 then w &&& 0xFFFFF88E == 0
  else if off = 0x02C then w == 0
  else if 0x030 ≤ off ∧ off < 0x060 then
    (match off % 16 with | 0 => okSource false w | 4 => okG16 w | 8 => okI32 w | _ => w == 0)
  else if 0x060 ≤ off ∧ off < 0x080 then (if off % 8 = 0 then okSource true w else okG16 w)
  else if 0x080 ≤ off ∧ off < 0x0C0 then
    (match off % 16 with | 8 => okHalf w | 12 => w == 0 | _ => true)
  else if off = 0x0C4 ∨ off = 0x0CC ∨ off = 0x0E0 ∨ off = 0x0FC then okHalf w
  else if off = 0x0C8 ∨ off = 0x0D0 ∨ off = 0x0D4 ∨ off = 0x0E4 ∨ off = 0x0E8 ∨ off = 0x0EC then okG16 w
  else if off = 0x0D8 ∨ off = 0x0DC then okI32 w
  else if off = 0x0F8 then w &&& 0xFFFE8000 == 0
  else true

/-- The first data word that breaks a rule, counted from `i`. -/
def badData (off i : Nat) : List Word → Option Nat
  | [] => none
  | w :: t => if okParam off w.toNat then badData (off + 4) (i + 1) t else some i

/-- Data written into a set, with its CRC-32 formed anew (04 R108). -/
def writeSet (c : Cells 32) (off : Nat) (ws : List Word) : Cells 32 :=
  let c := cellPuts c off 4 ws
  cellSet c 0x7FC (crc32 (wordsBytes (cellGets c 0 4 511)))

/-! ## Scales (03 R81, 04 R104) -/

/-- A ratio num / den as a G16 word, rounded to nearest and held at the largest value (log entry 21). -/
def toG16From (num den : Nat) : Nat → Nat → Word
  | 0, _ => 0x0007_7FFF
  | fuel + 1, e =>
    let m := (2 * num * 32768 + den * 2 ^ e) / (2 * den * 2 ^ e)
    if m < 32768 then BitVec.ofNat 32 (m + 65536 * e) else toG16From num den fuel (e + 1)

def toG16 (num den : Nat) : Word := if den = 0 then 0 else toG16From num den 8 0

namespace State

/-! ## AXIS_CONFIGURE (03, 04 R105, 10 R280, 11 R303) -/

/-- Current and voltage of one count: of the bound node, or of the local port (05 R140, 11 R319). -/
def lsbWord (s : State) (binding : Nat) : Nat :=
  if field binding 31 1 = 1 then ((s.lport (field binding 0 4)).cfg.getD 8 0).toNat else (s.node (field binding 0 10)).lsb.toNat

/-- The recipe of an axis's slot in the active generation. -/
def plannedRecipe (s : State) (i : Nat) : Option Recipe :=
  match s.net.active, s.slotOf i with
  | some g, some sl => g.recipes.find? (fun r => r.id == sl.recipe)
  | _, _ => none

/-- Another axis that is not DISABLED holds the same binding. -/
def boundElsewhere (s : State) (i binding : Nat) : Bool :=
  (mapI (fun j a => (j, a)) s.axes).any fun x =>
    x.1 != i && x.2.hdr.bound && x.2.state != .disabled
      && (if field binding 31 1 = 1 then x.2.hdr.binding.getLsbD 31 && field x.2.hdr.binding.toNat 0 4 == field binding 0 4
          else !x.2.hdr.binding.getLsbD 31 && field x.2.hdr.binding.toNat 0 10 == field binding 0 10
            && field x.2.hdr.binding.toNat 16 4 == field binding 16 4)

/-- Mode of a code (03 R71). -/
def modeOf (n : Nat) : Mode := match n with | 0 => .c | 1 => .t | 2 => .v | _ => .p

/-- The first parameter word of AXIS_CONFIGURE that is refused (03; log entry 22). -/
def configFault (s : State) (p : Pkt) : Option Nat :=
  let i := p.unit
  let b := p.w 1
  let loc := field b 31 1 = 1
  let mode := modeOf (p.fld 0 0 2)
  let port := s.lport (field b 0 4)
  let func := field (port.cfg.getD 0 0).toNat 0 2
  let gnode : Option GNode := match s.net.active with
    | some g => g.nodes.find? (fun n => n.index == field b 0 10)
    | none => none
  let word0 := match s.plannedRecipe i with
    | none => true
    | some r => r.id != p.fld 0 8 6 || r.mode != mode
        || (decide loc && (mode != Mode.c || (func == 1 && !r.stages.contains Stage.cu3) || (func != 1 && !r.stages.contains Stage.cu2)))
        || (!decide loc && r.stages.contains Stage.cu2)
  let word1 := s.boundElsewhere i b
    || (!decide loc && (match gnode with
        | none => true
        | some n => (s.node n.index).cls != 0 || n.modes.getD (field b 16 4) .p != mode || decide (field b 16 4 ≥ n.modes.length)))
  if word0 then some 0
  else if word1 then some 1
  else if p.w 2 = 0 ∨ p.w 2 > 2 ^ 31 then some 2
  else if p.w 3 = 0 then some 3
  else if mode = Mode.c ∧ p.w 4 = 0 then some 4
  else if mode = Mode.c ∧ p.w 5 = 0 then some 5
  else if p.w 6 = 0 then some 6
  else if p.fld 8 0 16 = 0 ∨ p.fld 8 24 3 > 4 then some 8
  else if p.fld 9 16 16 = 0 ∨ p.fld 9 16 16 ≥ 0x8000 then some 9
  else none

/-- The header that AXIS_CONFIGURE writes (04 R104). -/
def configHdr (s : State) (p : Pkt) (old : Hdr) : Hdr :=
  let lsb := s.lsbWord (p.w 1)
  let sl := s.slotOf p.unit
  { mode := modeOf (p.fld 0 0 2), recipe := p.fld 0 8 6, binding := BitVec.ofNat 32 (p.w 1)
    posFs := p.w 2, spdFs := p.w 3, curFs := p.w 4, vdcFs := p.w 5, accFs := p.w 6
    feLimit := p.w 7, feTime := p.fld 8 0 16, missLimit := p.fld 8 16 8, faultAction := p.fld 8 24 3
    stopTimeout := p.fld 9 0 16, standstill := p.fld 9 16 16
    posGain := (2 ^ 32 + p.w 2) / (2 * max (p.w 2) 1)
    kinCur := toG16 (field lsb 0 16 * 32768) (p.w 4 * 1000), kinVdc := toG16 (field lsb 16 16 * 32768) (p.w 5 * 10)
    lattice := match sl with | some x => x.lattice | none => 0
    slot := match sl with | some x => x.slot | none => 0
    activeSet := old.activeSet, bound := true }

/-- The profile block after AXIS_CONFIGURE: settings stay, the generator's state is reset (10 R280). -/
def configProf (old : Prof) (accFs : Nat) : Prof :=
  { decelLatch := old.decelLatch, debounce := old.debounce, dec := accFs
    limP := { src := old.limP.src, raw := old.limP.raw, level := old.limP.level, since := old.limP.since }
    limN := { src := old.limN.src, raw := old.limN.raw, level := old.limN.level, since := old.limN.since }
    home := { src := old.home.src, raw := old.home.raw, level := old.home.level, since := old.home.since } }

/-- Checks and effect of AXIS_CONFIGURE. -/
def bodyAxisConfigure (_ : Ctx) (p : Pkt) (s : State) : Verdict :=
  let i := p.unit
  let b := p.w 1
  let loc := field b 31 1 = 1
  let absent := if loc then field (((s.lport (field b 0 4)).cfg.getD 0 0).toNat) 0 2 == 0
    else !(s.node (field b 0 10)).used
  if (loc ∧ field b 0 4 ≥ s.nLocal) ∨ (¬loc ∧ field b 0 10 ≥ s.nNodes) then .fail stBadTarget 0
  else if (s.axis i).state ≠ .disabled then .fail stDenied 0
  else if absent then .fail stNotReady 0
  else
    match s.configFault p with
    | some w => badParam w
    | none =>
      let s' := s.modAxis i fun a => {
        setA := a.setA, setB := a.setB, hdr := s.configHdr p a.hdr, prof := configProf a.prof (p.w 6) }
      .done [] (s'.setAState i .ready 0x0100)

/-! ## AXIS_ENABLE, AXIS_DISABLE, AXIS_CLEAR_FAULT (03 R97-R100) -/

/-- A transition by command: the drive command changes from the next cycle not yet computed (01 R16). -/
def cmdState (s : State) (i : Nat) (new : AState) (reason : Nat) : State :=
  let old := s.axis i
  let s := s.setAState i new reason
  if old.computed then s.modAxis i fun a => { a with drive := old.drive } else s

/-- AXIS_ENABLE. -/
def bodyAxisEnable (_ : Ctx) (p : Pkt) (s : State) : Verdict :=
  if (s.axis p.unit).state ≠ .ready then .fail stDenied 0
  else .done [] ((s.cmdState p.unit .enabled 0x0101).modAxis p.unit fun a => { a with hallPending := true })

/-- AXIS_DISABLE. -/
def bodyAxisDisable (_ : Ctx) (p : Pkt) (s : State) : Verdict :=
  let i := p.unit
  let a := s.axis i
  if p.fld 0 0 1 = 1 then
    match a.state with
    | .disabled => .done [] s
    | .ready => .done [] (s.cmdState i .disabled 0x0102)
    | .enabled =>
      let s := (s.stopSteps i).startRamp i a.prof.dec false
      let s := s.modAxis i fun a => { a with stopToDisabled := true, stopCycles := 0, still := 0, action := none }
      .done [] (s.cmdState i .stopping 0x0102)
    | _ => .fail stDenied 0
  else
    match a.state with
    | .disabled => .done [] s
    | .ready => .done [] (s.cmdState i .disabled 0x0102)
    | _ => .done [] (((s.stopSteps i).endMotion i).cmdState i .disabled 0x0102)

/-- A condition of a cause is still present (R100). -/
def conditionPresent (s : State) (i : Nat) : Bool :=
  let a := s.axis i
  let lost := match s.boundNode i with | some (n, _) => (s.node n).lost | none => false
  let port := match s.localPort i with | some n => (s.lport n).pwm.latched | none => false
  lost || a.cnt.feTimer != 0 || a.prof.limP.level || a.prof.limN.level || a.status.getLsbD 0 || port

/-- AXIS_CLEAR_FAULT. -/
def bodyAxisClearFault (_ : Ctx) (p : Pkt) (s : State) : Verdict :=
  let i := p.unit
  let a := s.axis i
  let keep := p.fld 0 0 1 = 1
  if a.state ≠ .fault ∨ s.conditionPresent i = true ∨ (keep ∧ a.action ≠ some 3) then .fail stDenied 0
  else
    let s := s.modAxis i fun a => { a with
      live6 := 0
      cnt := { a.cnt with causes := 0, first := 0, frozen := false, freezeLeft := none } }
    if keep then
      let s := s.modAxis i fun a => { a with
        prof := { a.prof with state := .idle, x := a.coord a.holdPos * oneCount, v := 0, a := 0 }
        use := { a.use with pRef := a.holdPos, pFrac := 0, vRef := 0, aRef := 0 } }
      .done [] (s.cmdState i .enabled 0x0103)
    else .done [] (s.cmdState i .ready 0x0103)

/-! ## Parameter sets (04 R108-R110) -/

/-- A write into one set of an axis. -/
def putSet (s : State) (p : Pkt) : State :=
  let b := p.fld 0 0 1 = 1
  s.modAxis p.unit fun a =>
    if b then { a with setB := writeSet a.setB (p.w 1) (p.words.drop 3) } else { a with setA := writeSet a.setA (p.w 1) (p.words.drop 3) }

/-- Checks and effect of PARAMSET_WRITE. -/
def bodyParamsetWrite (c : Ctx) (p : Pkt) (s : State) : Verdict :=
  let a := s.axis p.unit
  let active := (p.fld 0 0 1 = 1) == a.hdr.activeSet
  if a.hdr.switchPending then .fail stDenied 0
  else if active && (match a.state with | .disabled | .ready => false | _ => true) then .fail stDenied 0
  else if p.w 1 % 4 ≠ 0 ∨ p.w 1 + p.w 2 > 0x7FC then badParam 1
  else if p.w 2 = 0 ∨ p.w 2 > 2044 then badParam 2
  else
    match badData (p.w 1) 3 (p.words.drop 3) with
    | some i => badParam i
    | none => if active then .later (s.enqueueDx 0x0104 p (s.dxDue c)) else .done [] (s.putSet p)

/-- A PARAMSET_WRITE to the active set reaches its D_X (R109). -/
def commitParamsetWrite (p : Pkt) (s : State) : State := (s.putSet p).finish p []

/-- The axes a PARAMSET_SWITCH_AT names (02). -/
def maskAxes (p : Pkt) : List Nat := (List.range 256).filter fun j => (p.words.getD (4 + j / 32) 0).getLsbD (j % 32)

/-- Checks and effect of PARAMSET_SWITCH_AT (02 R60, R59). -/
def bodyParamsetSwitchAt (c : Ctx) (p : Pkt) (s : State) : Verdict :=
  let axes := maskAxes p
  let cyc := p.w64 0
  if axes.any (fun j => decide (j ≥ s.nAxes)) then .fail stBadTarget 0
  else if axes.any (fun j => (s.axis j).hdr.switchPending) then .fail stDenied 0
  else if axes.isEmpty then badParam 4
  else if s.lateCycle c cyc then .fail stLate 0
  else if s.cmdsFull then .fail stBusy 0
  else
    let s := runAll (fun j s => s.modAxis j fun a => { a with hdr := { a.hdr with
      switchPending := true, switchTo := p.fld 2 0 1 == 1, switchCycle := BitVec.ofNat 64 cyc } }) axes s
    .accept (s.enqueueCmd 0x0105 p cyc)

/-- A switch takes effect on an axis (R110). -/
def switchAxis (a : Axis) : Axis :=
  { a with
    hdr := { a.hdr with activeSet := a.hdr.switchTo, switchPending := false }
    loop := { a.loop with bq := a.loop.bq.map fun b => { b with ovr := false } } }

/-- At C(c), before any lattice of cycle c starts, every pending switch of the cycle takes effect (R110). -/
def paramsetSwitch (s : State) : State :=
  let k := s.k
  { s with axes := s.axes.map fun a => if a.hdr.switchPending && decide (a.hdr.switchCycle.toNat ≤ k) then switchAxis a else a }

/-! ## Mailbox writes (04 R111, R112) -/

/-- A writer owns a slot (R111). -/
def ownsSlot (eddy : Bool) (slot : Nat) : Bool :=
  if eddy then decide (2 ≤ slot) && decide (slot ≤ 5) else decide (6 ≤ slot) && decide (slot ≤ 7)

/-- A word of a slot written: any write to bytes 0 to 27 zeroes the commit word (R112). -/
def MbxSlot.put (m : MbxSlot) (off : Nat) (v : Word) : MbxSlot :=
  let o := off / 4
  if o = 0 then { m with tag := BitVec.ofNat 64 (m.tag.toNat / 2 ^ 32 * 2 ^ 32 + v.toNat), commit := 0 }
  else if o = 1 then { m with tag := BitVec.ofNat 64 (m.tag.toNat % 2 ^ 32 + v.toNat * 2 ^ 32), commit := 0 }
  else if o < 7 then { m with data := updAt m.data (o - 2) fun _ => v, commit := 0 }
  else { m with commit := v }

/-- A write into a mailbox slot by its owner; any other is ignored. -/
def writeMbx (s : State) (eddy : Bool) (axis slot off : Nat) (v : Word) : State :=
  if ownsSlot eddy slot && decide (axis < s.nAxes) then
    s.modAxis axis fun a => { a with mbx := updAt a.mbx slot fun m => MbxSlot.put m off v }
  else s

/-! ## Counters and history (04 R120, R123) -/

/-- A write of 1 clears sticky flags. -/
def clearSticky (s : State) (i : Nat) (v : Word) : State :=
  s.modAxis i fun a => { a with cnt := { a.cnt with sticky := a.cnt.sticky &&& ~~~(v.extractLsb' 0 20) } }

/-- Writing 1 to FROZEN restarts the history ring (R123). -/
def unfreeze (s : State) (i : Nat) : State :=
  s.modAxis i fun a => { a with cnt := { a.cnt with frozen := false, freezeLeft := if a.cnt.frozen then none else a.cnt.freezeLeft } }

/-- A write of AXR_HIST_CTRL. -/
def writeHistCtrl (s : State) (i : Nat) (v : Word) : State :=
  let s := if v.getLsbD 31 then s.unfreeze i else s
  s.modAxis i fun a => { a with cnt := { a.cnt with freezeEn := v.getLsbD 8, post := v.extractLsb' 0 6 } }

/-- The ring stops once the last cycle of a freeze is recorded (R123). -/
def freezeHistory (s : State) (i : Nat) : State :=
  s.modAxis i fun a =>
    match a.cnt.freezeLeft with
    | some (f, some stop) =>
      if a.cnt.histLast.toNat ≥ stop then
        { a with cnt := { a.cnt with frozen := true, histFreeze := BitVec.ofNat 64 f, freezeLeft := none } }
      else a
    | _ => a

end State

/-- AXIS_CONFIGURE (03, 04 R105). -/
def opAxisConfigure : Op := { opcode := 0x0100, kind := 1, len := lenIs 40, body := State.bodyAxisConfigure }
/-- AXIS_ENABLE (02 R60). -/
def opAxisEnable : Op := { opcode := 0x0101, kind := 1, len := lenIs 0, body := State.bodyAxisEnable }
/-- AXIS_DISABLE (03 R98). -/
def opAxisDisable : Op := { opcode := 0x0102, kind := 1, len := lenIs 4, body := State.bodyAxisDisable }
/-- AXIS_CLEAR_FAULT (03 R100). -/
def opAxisClearFault : Op := { opcode := 0x0103, kind := 1, len := lenIs 4, body := State.bodyAxisClearFault }
/-- PARAMSET_WRITE (04 R108). -/
def opParamsetWrite : Op := { opcode := 0x0104, kind := 1, len := lenVar 12 2, body := State.bodyParamsetWrite }
/-- PARAMSET_SWITCH_AT (02). -/
def opParamsetSwitchAt : Op :=
  { opcode := 0x0105, len := lenIs 48, cycle := fun p _ => some (p.w64 0), body := State.bodyParamsetSwitchAt }

/-- AXIS_CONFIGURE (04 R105). -/
def execAxisConfigure (p : Pkt) (s : State) : Result := .next (State.carry opAxisConfigure p s)
/-- AXIS_ENABLE (02 R60). -/
def execAxisEnable (p : Pkt) (s : State) : Result := .next (State.carry opAxisEnable p s)
/-- AXIS_DISABLE (03 R98). -/
def execAxisDisable (p : Pkt) (s : State) : Result := .next (State.carry opAxisDisable p s)
/-- AXIS_CLEAR_FAULT (03 R100). -/
def execAxisClearFault (p : Pkt) (s : State) : Result := .next (State.carry opAxisClearFault p s)
/-- PARAMSET_WRITE (04 R108). -/
def execParamsetWrite (p : Pkt) (s : State) : Result := .next (State.carry opParamsetWrite p s)
/-- PARAMSET_SWITCH_AT (04 R110). -/
def execParamsetSwitchAt (p : Pkt) (s : State) : Result := .next (State.carry opParamsetSwitchAt p s)
/-- PARAMSET_SWITCH (04 R110). -/
def execParamsetSwitch (s : State) : Result := .next s.paramsetSwitch
/-- MAILBOX_SLOT_WRITE (04 R112): a 32-bit write to bytes 0 to 27 of a slot. -/
def execMailboxSlotWrite (eddy : Bool) (axis slot off : Nat) (v : Word) (s : State) : Result :=
  .next (if off < 28 then s.writeMbx eddy axis slot off v else s)
/-- MAILBOX_COMMIT_WRITE (04 R112). -/
def execMailboxCommitWrite (eddy : Bool) (axis slot : Nat) (v : Word) (s : State) : Result :=
  .next (s.writeMbx eddy axis slot 28 v)
/-- STICKY_FLAG_W1C (04 R120). -/
def execStickyFlagW1c (axis : Nat) (v : Word) (s : State) : Result := .next (s.clearSticky axis v)
/-- HIST_FROZEN_W1C (04 R123). -/
def execHistFrozenW1c (axis : Nat) (s : State) : Result := .next (s.unfreeze axis)
/-- HISTORY_FREEZE (04 R123). -/
def execHistoryFreeze (axis : Nat) (s : State) : Result := .next (s.freezeHistory axis)

end Sys2Proof.Machine
end

