-- ==== Sys2Proof/Machine/RecMap.lean ====
section
/-! DEFINITION. The axis record as a map of words, and writes through its window (04 R102-R105, R111, R118-R121; 10 R300). -/
namespace Sys2Proof.Machine

/-- Words of a number, low first, two of them. -/
def dword (v : Nat) : List Word := leWords 2 v

/-- Words of a signed 64-bit value. -/
def sdword (v : Int) : List Word := leWords 2 (wrap 64 v)

/-- The header (R104), 256 bytes. -/
def Axis.headerWords (a : Axis) : List Word :=
  let h := a.hdr
  [BitVec.ofNat 32 (Mode.code h.mode + 2 ^ 8 * h.recipe + 2 ^ 16 * AState.code a.state), h.binding]
  ++ ([h.posFs, h.spdFs, h.curFs, h.vdcFs, h.accFs, h.feLimit, h.feTime + 2 ^ 16 * h.missLimit + 2 ^ 24 * h.faultAction,
       h.stopTimeout + 2 ^ 16 * h.standstill, h.posGain].map (BitVec.ofNat 32))
  ++ [h.kinCur, h.kinVdc, BitVec.ofNat 32 (h.slot + 2 ^ 8 * h.lattice),
      BitVec.ofNat 32 (b2n h.activeSet + 2 ^ 8 * b2n h.switchPending + 2 ^ 9 * b2n h.switchTo), BitVec.ofNat 32 (b2n h.refSrc)]
  ++ dword h.switchCycle.toNat

/-- A BQ section's history, 12 bytes (R118). -/
def Bq.histWords (b : Bq) : List Word := [b.x2 ++ b.x1, b.y1, b.y2]

/-- A BQ section's coefficients in use, 16 bytes (R118). -/
def Bq.coeffWords (b : Bq) : List Word := [b.b1 ++ b.b0, b.a1 ++ b.b2, BitVec.ofNat 32 b.a2.toNat, 0]

/-- The live state (R118). -/
def Axis.liveWords (a : Axis) : List Word :=
  let l := a.loop
  Hist.words a.live ++ sdword a.extPos ++ dword a.extCycle
  ++ ((List.range 3).map fun j => word31 (l.iC.getD j 0))
  ++ [BitVec.ofNat 32 l.pRev, BitVec.ofNat 32 ((mapI (fun i b => b2n b.ovr * 2 ^ i) l.bq).foldl (· + ·) 0), 0, 0, 0]
  ++ l.bq.flatMap Bq.histWords ++ l.bq.flatMap Bq.coeffWords

/-- A mailbox slot (R112). -/
def MbxSlot.words (m : MbxSlot) : List Word := dword m.tag.toNat ++ m.data ++ [m.commit]

/-- Counters and flags (R120), from offset 0x1600. -/
def Axis.countWords (a : Axis) : List Word :=
  let c := a.cnt
  [c.now.setWidth 32, c.sticky.setWidth 32,
   BitVec.ofNat 32 (c.causes.toNat + 2 ^ 16 * c.first.toNat), BitVec.ofNat 32 (c.feTimer.toNat + 2 ^ 16 * c.missRun.toNat),
   c.dlMiss ++ c.fbMiss, c.sat ++ c.ctMiss, c.mbxRej ++ c.mbxStale, 0,
   BitVec.ofNat 32 (c.post.toNat + 2 ^ 8 * b2n c.freezeEn + 2 ^ 31 * b2n c.frozen), 0]
  ++ dword c.histLast.toNat ++ dword c.histFreeze.toNat

/-- PRF_STATUS (10 R300). -/
def Prof.status (p : Prof) : Word :=
  let geared := p.state == .gear
  BitVec.ofNat 32 (b2n (geared && p.gear.phi != p.gear.targetPhase) + 2 * b2n p.home.level + 4 * b2n p.limP.level + 8 * b2n p.limN.level
    + 16 * b2n p.phaseIgn + 32 * b2n (decide (p.v < 0)) + 64 * b2n p.returning + 128 * b2n p.homed
    + 2 ^ 20 * p.homing.phase + 2 ^ 24 * p.segment + 2 ^ 28 * GState.code p.state)

/-- A compare's 32 bytes (10 R300). -/
def Cmpr.words (c : Cmpr) : List Word := sdword c.p ++ sdword c.interval ++ [c.ctrl, BitVec.ofNat 32 c.lost.toNat, c.last, 0]

/-- The profile block (10 R300), without its mark ring. -/
def Prof.words (p : Prof) : List Word :=
  let g := p.gear
  [p.status, BitVec.ofNat 32 (b2n p.decelLatch), BitVec.ofNat 32 (p.markRd.toNat + 2 ^ 16 * p.markWr.toNat), p.markLost ++ p.markOutside]
  ++ sdword p.origin ++ sdword (p.x / oneCount) ++ [BitVec.ofNat 32 (wrap 40 p.x / 2 ^ 8), 0] ++ sdword p.v ++ sdword p.a ++ sdword (p.target / oneCount)
  ++ ([p.accl, p.dec, p.vmax, p.jerk].map (BitVec.ofNat 32)) ++ dword p.endCycle ++ sdword p.camPhase
  ++ [BitVec.ofNat 32 g.master, BitVec.ofNat 32 (wrap 32 g.num), BitVec.ofNat 32 g.den, BitVec.ofNat 32 g.slew] ++ sdword g.targetPhase ++ sdword g.phi
  ++ [p.limP.src, p.limN.src, p.home.src, BitVec.ofNat 32 p.debounce] ++ sdword (p.homing.latched.getD 0) ++ [0, 0]
  ++ p.cmps.flatMap Cmpr.words

/-- A word of the record at a multiple of 4 (R102). -/
def Axis.word (a : Axis) (off : Nat) : Word :=
  let pick (ws : List Word) (base : Nat) : Word := ws.getD ((off - base) / 4) 0
  if off < 0x100 then pick a.headerWords 0
  else if off < 0x900 then cellGet a.setA (off - 0x100)
  else if off < 0x1100 then cellGet a.setB (off - 0x900)
  else if off < 0x1500 then pick a.liveWords 0x1100
  else if off < 0x1600 then pick (a.mbx.flatMap MbxSlot.words) 0x1500
  else if off < 0x1700 then pick a.countWords 0x1600
  else if off < 0x1900 then pick a.prof.words 0x1700
  else if off < 0x1B00 then pick a.prof.marks.flatten 0x1900
  else if off < 0x2000 then 0
  else if off < 0x4000 then (Hist.words (a.hist.getD ((off - 0x2000) / 128) {})).getD (off % 128 / 4) 0
  else 0

namespace State

/-- A word of the axis record window; records of axes that the ordering code lacks read zero (00 R3). -/
def recRead (s : State) (i off : Nat) : Word := if i < s.nAxes then (s.axis i).word off else 0

/-- A write of a word through the record window, by the host or by an Eddy core (R103). -/
def recWrite (s : State) (eddy : Bool) (i off : Nat) (v : Word) : State :=
  if i ≥ s.nAxes then s
  else if 0x1500 ≤ off ∧ off < 0x1600 then s.writeMbx eddy i ((off - 0x1500) / 32) (off % 32) v
  else if off = 0x1604 then s.clearSticky i v
  else if off = 0x1620 then s.writeHistCtrl i v
  else if off = 0x1704 then s.modAxis i fun a => { a with prof := { a.prof with decelLatch := v.getLsbD 0 } }
  else if off = 0x1708 then s.writeMarkRd i v
  else s

/-- What the unwritten half of a word keeps when one halfword is written: write-one-to-clear bits stay as they are. -/
def recKeep (s : State) (i off : Nat) : Word :=
  if off = 0x1604 then 0 else if off = 0x1620 then s.recRead i off &&& 0x7FFFFFFF else s.recRead i off

/-- A write of one halfword through the record window (07 R218, R219). -/
def recWriteHalf (s : State) (eddy : Bool) (i off : Nat) (upper : Bool) (h : Half) : State :=
  let w := s.recKeep i off
  s.recWrite eddy i off (if upper then h ++ w.extractLsb' 0 16 else w.extractLsb' 16 16 ++ h)

end State

end Sys2Proof.Machine
end

