-- ==== Sys2Proof/Machine/RegNet.lean ====
section
/-! DEFINITION. The NET_ and LPE_ registers as they read (05, 03), and words of the counter registers (12 R343). -/
namespace Sys2Proof.Machine

/-- Nominal time of a stage, in ns (03 R73). -/
def Stage.ns : Stage → Nat
  | .inn => 100
  | .pe => 150
  | .se => 100
  | .sp => 150
  | .ct => 100
  | .sl => 60
  | .xc => 25
  | .bq => 60
  | .lmT => 70
  | .lmV => 40
  | .cu3 => 440
  | .cu2 => 360
  | .out => 90

/-- Nominal and planning times of a recipe (03 R73, R76). -/
def Recipe.nominal (r : Recipe) : Nat := sumNat (r.stages.map Stage.ns)
def Recipe.planned (r : Recipe) : Nat := ceilDiv r.nominal 9 * 10

namespace State

/-! ## NET_ (05) -/

/-- A word of a Millrace port's span. -/
def netPortWord (s : State) (port off : Nat) : Word :=
  let p := s.mport port
  if port ≥ s.nPorts then 0
  else if off = 0x0000 then s.netState port
  else if off = 0x0004 then BitVec.ofNat 32 (b2n p.joinEn + 2 ^ 8 * p.linkLoss.toNat + 2 ^ 16 * p.joinInterval.toNat)
  else if off = 0x0008 then p.stat.setWidth 32
  else if off = 0x000C then p.actLead.setWidth 32
  else if off = 0x0010 then p.fArrive.setWidth 32
  else if off = 0x0014 then p.cArrive.setWidth 32
  else if off = 0x0020 then s.netCnt port
  else if 0x0100 ≤ off ∧ off < 0x0180 then
    match p.pos[(off - 0x100) / 4]? with
    | some n => BitVec.ofNat 32 (n + 2 ^ 30 * b2n ((s.node n).used && !(s.node n).lost) + 2 ^ 31 * b2n (s.node n).used)
    | none => 0
  else if 0x0200 ≤ off ∧ off < 0x0280 then (p.linkDly.getD ((off - 0x200) / 4) 0).setWidth 32
  else if 0x0280 ≤ off ∧ off < 0x0300 then (p.fwd.getD ((off - 0x280) / 4) 0).setWidth 32
  else 0

/-- The pending generation's number: of one loaded, or of one whose chunks arrive. -/
def pendingGen (s : State) : Nat :=
  match s.net.pending, s.net.arriving with
  | some g, _ => g.gen
  | none, some a => a.1
  | none, none => 0

/-- Word j of a node table entry. -/
def nodeWordAt (s : State) (n j : Nat) : Word :=
  let x := s.node n
  if n ≥ s.nNodes then 0
  else
    match j with
    | 0 => x.identity.setWidth 32
    | 1 => x.identity.extractLsb' 32 32
    | 2 => BitVec.ofNat 32 (2 ^ 8 * x.axes.toNat + 2 ^ 12 * x.cls.toNat + 2 ^ 16 * x.pos.toNat + 2 ^ 24 * x.port.toNat
        + 2 ^ 30 * b2n x.lost + 2 ^ 31 * b2n x.used)
    | _ => x.cmdMissCnt ++ x.tieCnt

/-- Word of an entry of the copy list. -/
def copyWord (c : Copy) : Word :=
  BitVec.ofNat 32 (c.dst.toNat + 2 ^ 15 * c.src.toNat + 2 ^ 22 * c.axis.toNat + 2 ^ 30 * b2n c.wide + 2 ^ 31 * b2n c.en)

/-- A word of a byte buffer. -/
def bufWord (b : Cells 8) (off : Nat) : Word := BitVec.ofNat 32 (leNat (cellGets b off 1 4))

/-- A word of the common span, from NET_ + 0xC_0000. -/
def netComWord (s : State) (off : Nat) : Word :=
  let n := s.net
  if off = 0x0000 then n.etype.setWidth 32
  else if off = 0x0004 then n.claimBase.setWidth 32
  else if off = 0x0008 then BitVec.ofNat 32 ((match n.active with | some g => g.gen | none => 0) + 2 ^ 16 * s.pendingGen)
  else if off = 0x000C then BitVec.ofNat 32 (n.pendState + 2 ^ 8 * b2n n.joinGen)
  else if off = 0x0010 then n.actCycle.setWidth 32
  else if off = 0x0014 then n.actCycle.extractLsb' 32 32
  else if off = 0x0018 then
    BitVec.ofNat 32 ((n.nodes.filter Node.used).length + 2 ^ 16 * (n.nodes.filter fun x => x.used && x.lost).length)
  else if off = 0x0020 then
    BitVec.ofNat 32 (n.conf.mMul.toNat + 2 ^ 16 * n.conf.index.toNat + 2 ^ 28 * n.conf.level.toNat + 2 ^ 30 * b2n n.conf.upSafe
      + 2 ^ 31 * b2n n.conf.role)
  else if 0x0400 ≤ off ∧ off < 0x0600 then copyWord (n.conf.copy.getD ((off - 0x400) / 4) {})
  else if 0x1000 ≤ off ∧ off < 0x5000 then s.nodeWordAt ((off - 0x1000) / 16) (off % 16 / 4)
  else if 0x8000 ≤ off ∧ off < 0x8400 then bufWord n.conf.confIn (off - 0x8000)
  else if 0x8400 ≤ off ∧ off < 0x8800 then bufWord n.conf.confOut (off - 0x8400)
  else 0

/-- A word of the NET_ block. -/
def netWord (s : State) (off : Nat) : Word :=
  if off < 0xC0000 then s.netPortWord (off / 0x4000) (off % 0x4000) else s.netComWord (off - 0xC0000)

/-! ## LPE_ (03) -/

/-- Axes for which a test holds, 32n to 32n + 31, as a mask. -/
def axisSum (s : State) (n : Nat) (p : Axis → Bool) : Word :=
  BitVec.ofNat 32 ((mapI (fun j a => if p a then 2 ^ j else 0) ((s.axes.drop (32 * n)).take 32)).foldl (· + ·) 0)

/-- A word of the LPE_ block. -/
def lpeWord (s : State) (off : Nat) : Word :=
  let e := s.lpe
  if off = 0x0000 then BitVec.ofNat 32 (b2n e.spareCheck + 2 * b2n e.xcOff)
  else if off = 0x0004 then
    BitVec.ofNat 32 (s.faultCount + 2 ^ 16 * (s.axes.filter fun a => a.state == .enabled || a.state == .stopping).length)
  else if off = 0x0010 then BitVec.ofNat 32 (e.slack.toNat + 2 ^ 28 * e.slackLat.toNat)
  else if off = 0x0014 then BitVec.ofNat 32 (e.slackLow.toNat + 2 ^ 28 * e.slackLowLat.toNat)
  else if 0x0100 ≤ off ∧ off < 0x0140 then
    let l := e.lats.getD ((off - 0x100) / 4) {}
    if (off - 0x100) / 4 ≥ s.nLats then 0
    else BitVec.ofNat 32 (l.done.toNat + 2 ^ 24 * l.unfinished.toNat + 2 ^ 31 * b2n l.valid)
  else if 0x0200 ≤ off ∧ off < 0x0220 then s.axisSum ((off - 0x200) / 4) fun a => a.state == .fault
  else if 0x0220 ≤ off ∧ off < 0x0240 then e.missSum.extractLsb' (32 * ((off - 0x220) / 4)) 32
  else if 0x0240 ≤ off ∧ off < 0x0260 then e.fbMissSum.extractLsb' (32 * ((off - 0x240) / 4)) 32
  else
    match s.net.active with
    | none => 0
    | some g =>
      if 0x1000 ≤ off ∧ off < 0x1400 then
        match g.slots.find? fun x => x.lattice == (off - 0x1000) / 0x40 && x.slot == off % 0x40 / 4 with
        | some x => BitVec.ofNat 32 (x.axis + 2 ^ 16 * x.recipe + 2 ^ 31)
        | none => 0
      else if 0x2000 ≤ off ∧ off < 0x2100 then
        match g.recipes.find? fun r => r.id == (off - 0x2000) / 4 with
        | some r => BitVec.ofNat 32 (r.nominal % 2 ^ 13 + 2 ^ 15 * b2n r.selPoint + 2 ^ 16 * (r.planned % 2 ^ 13) + 2 ^ 29 * Mode.code r.mode + 2 ^ 31)
        | none => 0
      else 0

/-! ## Counter registers of an acquisition (12 R343) -/

/-- A register of NET_, SCH_ or LPE_, by its BAR0 offset, read without effect. -/
def counterWord (s : State) (a : Nat) : Word :=
  if a < 0x200000 then 0
  else if a < 0x300000 then s.netWord (a - 0x200000)
  else if a < 0x400000 then s.schWord (a - 0x300000)
  else if a < 0x500000 then s.lpeWord (a - 0x400000)
  else 0

end State

end Sys2Proof.Machine
end

