-- ==== Sys2Proof/Machine/EddyMem.lean ====
section
/-! DEFINITION. What an Eddy core reads and writes: its memories, the windows to shared memory, the control page and the descriptors of
its DMA (07 R203-R221). -/
namespace Sys2Proof.Machine

/-- Fault codes (R227). -/
def fRtLimit : Nat := 1
def fIllegal : Nat := 2
def fPcRange : Nat := 3
def fAddr : Nat := 4
def fWinDenied : Nat := 5
def fDmaDenied : Nat := 6
def fLoop : Nat := 7
def fPtrMode : Nat := 8
def fMemUncorr : Nat := 9
def fSem : Nat := 10

/-- The region of a shared byte address (R217). -/
def region (a : Nat) : Option Nat :=
  if 0x1000000 ≤ a ∧ a < 0x1400000 then some 0
  else if 0x2000000 ≤ a ∧ a < 0x2800000 then some 1
  else if 0x3000000 ≤ a ∧ a < 0x3800000 then some 2
  else if 0x2C8000 ≤ a ∧ a < 0x2C8800 then some 3
  else none

/-- A 24-bit word as the host's window shows it (R204). -/
def showWord (v : Q23) : Word := BitVec.ofInt 32 (signed 24 v.toNat)

namespace State

/-! ## Shared memory (R204, R217) -/

/-- A word of the Eddy memory window. -/
def edyMemWord (s : State) (off : Nat) : Word :=
  let n := off / 0x40000
  let o := off % 0x40000
  let c := s.core n
  if n ≥ s.nCores then 0
  else if o < 0x10000 then showWord (cellGet c.x (o / 4))
  else if o < 0x20000 then showWord (cellGet c.y ((o - 0x10000) / 4))
  else if o < 0x30000 then cellGet c.prog ((o - 0x20000) / 4)
  else 0

/-- A write of a word into the Eddy memory window: X and Y take it, P does not. -/
def edyMemWrite (s : State) (off : Nat) (v : Word) : State :=
  let n := off / 0x40000
  let o := off % 0x40000
  if n ≥ s.nCores then s
  else if o < 0x10000 then s.modCore n fun c => { c with x := cellSet c.x (o / 4) (v.setWidth 24) }
  else if o < 0x20000 then s.modCore n fun c => { c with y := cellSet c.y ((o - 0x10000) / 4) (v.setWidth 24) }
  else s

/-- A word of the acquisition SRAM window: the view buffers, and below them the staging buffer, whose layout is not defined (12 R358;
log entry 3). -/
def acqMemWord (s : State) (off : Nat) : Word × State := if off < 0x400000 then s.free 32 else (cellGet s.acq.sram (off / 4), s)

/-- A shared word at a multiple of 4 (R217). -/
def sharedWord (s : State) (a : Nat) : Word × State :=
  match region a with
  | some 0 => (s.recRead ((a - 0x1000000) / 0x4000) (a % 0x4000), s)
  | some 1 => (s.edyMemWord (a - 0x2000000), s)
  | some 2 => s.acqMemWord (a - 0x3000000)
  | some _ => (s.netComWord (a - 0x2C0000), s)
  | none => (0, s)

/-- CONF_OUT takes a word of an Eddy core (R217). -/
def confOutWrite (s : State) (off : Nat) (v : Word) : State :=
  if 0x8400 ≤ off ∧ off < 0x8800 then
    s.modConf fun c => { c with confOut := cellPuts c.confOut (off - 0x8400) 1 (leBytes 4 v.toNat) }
  else s

/-- A shared word written by a core. -/
def sharedWrite (s : State) (a : Nat) (v : Word) : State :=
  match region a with
  | some 0 => s.recWrite true ((a - 0x1000000) / 0x4000) (a % 0x4000) v
  | some 1 => s.edyMemWrite (a - 0x2000000) v
  | some 3 => s.confOutWrite (a - 0x2C0000) v
  | _ => s

/-- One halfword of a word. -/
def withHalf (w : Word) (upper : Bool) (h : Half) : Word := if upper then h ++ w.extractLsb' 0 16 else w.extractLsb' 16 16 ++ h

/-- A shared halfword written by a core. -/
def sharedWriteHalf (s : State) (a : Nat) (upper : Bool) (h : Half) : State :=
  match region a with
  | some 0 => s.recWriteHalf true ((a - 0x1000000) / 0x4000) (a % 0x4000) upper h
  | some 1 => s.edyMemWrite (a - 0x2000000) (withHalf (s.edyMemWord (a - 0x2000000)) upper h)
  | some 3 => s.confOutWrite (a - 0x2C0000) (withHalf (s.netComWord (a - 0x2C0000)) upper h)
  | _ => s

/-! ## Formats (R218) -/

/-- A halfword of a shared word. -/
def pickHalf (w : Word) (upper : Bool) : Half := if upper then w.extractLsb' 16 16 else w.extractLsb' 0 16

/-- HALF as read: Q1.15 to Q1.23. -/
def halfRead (h : Half) : Q23 := h ++ (0 : Byte)

/-- HALF as written: rounded at bit 8 to nearest, ties up, and saturated. -/
def halfWrite (v : Q23) : Half := BitVec.ofInt 16 (clampI (-32768) 32767 ((signed 24 v.toNat + 128) / 256))

/-! ## Windows (R218-R220) -/

def win (s : State) (c n : Nat) : Win := (s.core c).wins.getD n {}
def modWin (s : State) (c n : Nat) (f : Win → Win) : State := s.modCore c fun x => { x with wins := updAt x.wins n f }

/-- Byte address of the shared word that local word w of a window maps, and which half of it. -/
def winAddr (x : Win) (w : Nat) : Nat × Bool :=
  let base := x.base.toNat * 256
  if x.fmt = 0 then (base + 4 * w, false) else (base + 4 * (w / 2), w % 2 == 1)

/-- Why an access to a window faults, if it does (R217, R218). -/
def winFault (s : State) (c a : Nat) : Option Nat :=
  let x := s.win c ((a - 0x4000) / 0x1000)
  if x.fmt = 3 then some fAddr
  else if (region (x.base.toNat * 256)).isNone || (region (winAddr x (a % 0x1000)).1).isNone then some fWinDenied
  else none

/-- A read that takes the latched upper half needs no shared memory (R219). -/
def winLatched (s : State) (c a : Nat) : Option Half :=
  let x := s.win c ((a - 0x4000) / 0x1000)
  let w := a % 0x1000
  if x.fmt = 2 ∧ w % 2 = 1 then (match x.latch with | some l => if l.1 = w / 2 then some l.2 else none | none => none) else none

/-- A read through a window. -/
def winRead (s : State) (c a : Nat) : Q23 × State :=
  let n := (a - 0x4000) / 0x1000
  let x := s.win c n
  let w := a % 0x1000
  match s.winLatched c a with
  | some h => (h.setWidth 24, s.modWin c n fun x => { x with latch := none })
  | none =>
    let ad := winAddr x w
    let r := s.sharedWord ad.1
    let s := r.2.modWin c n fun x => { x with latch := if x.fmt = 2 ∧ w % 2 = 0 then some (w / 2, pickHalf r.1 true) else none }
    if x.fmt = 0 then (r.1.extractLsb' 8 24, s)
    else if x.fmt = 1 then (halfRead (pickHalf r.1 ad.2), s)
    else ((pickHalf r.1 ad.2).setWidth 24, s)

/-- A write through a window; it reaches shared memory at once (log entry 48). -/
def winWrite (s : State) (c a : Nat) (v : Q23) : State :=
  let n := (a - 0x4000) / 0x1000
  let x := s.win c n
  let w := a % 0x1000
  let ad := winAddr x w
  let s := s.modWin c n fun x => { x with latch := none }
  if x.fmt = 0 then s.sharedWrite ad.1 (v ++ (0 : Byte))
  else if x.fmt = 1 then s.sharedWriteHalf ad.1 ad.2 (halfWrite v)
  else if w % 2 = 0 then s.modWin c n fun x => { x with staged := some (w / 2, v.setWidth 16) }
  else
    match x.staged with
    | some (p, lo) =>
      if p = w / 2 then (s.sharedWrite ad.1 ((v.setWidth 16 : Half) ++ lo)).modWin c n fun x => { x with staged := none }
      else s.sharedWriteHalf ad.1 true (v.setWidth 16)
    | none => s.sharedWriteHalf ad.1 true (v.setWidth 16)

/-! ## The control page (R221) -/

/-- Served time with the task in service, in ns, apart from time halted (R226). -/
def taskTime (s : State) (c : Nat) : Nat :=
  let x := s.core c
  let t := if x.state = .halted then x.haltNs else s.now
  t - x.started

/-- The runtime limit of the task in service. -/
def rtLimit (s : State) (c : Nat) : Nat := match (s.core c).flow with | some f => (s.flow f).rtLimit | none => 0

/-- A word of the control page, as a core reads it. -/
def pageRead (s : State) (c a : Nat) : Q23 × State :=
  let x := s.core c
  let at_ (v : DWord) (i : Nat) : Q23 := if i = 2 then (v.extractLsb' 48 16).setWidth 24 else v.extractLsb' (24 * i) 24
  let r (v : Nat) : Q23 × State := (BitVec.ofNat 24 v, s)
  if a = 0x7F00 then r c
  else if a = 0x7F01 then r (x.flow.getD 0)
  else if a = 0x7F02 then r x.coalesce.toNat
  else if 0x7F03 ≤ a ∧ a ≤ 0x7F05 then (at_ x.taskCycle (a - 0x7F03), s)
  else if 0x7F06 ≤ a ∧ a ≤ 0x7F08 then (at_ x.waitCycle (a - 0x7F06), s)
  else if a = 0x7F09 then (BitVec.ofNat 24 s.now, s.modCore c fun x => { x with timeHi := BitVec.ofNat 24 (s.now / 2 ^ 24) })
  else if a = 0x7F0A then (x.timeHi, s)
  else if a = 0x7F0B then r (min 0xFFFFFF (s.rtLimit c - s.taskTime c))
  else if 0x7F10 ≤ a ∧ a < 0x7F18 then
    let w := s.win c ((a - 0x7F10) / 2)
    if a % 2 = 0 then r w.base.toNat else r w.fmt.toNat
  else if a = 0x7F20 then r x.dmaLocal.toNat
  else if a = 0x7F21 then r x.dmaShared.toNat
  else if a = 0x7F22 then r x.dmaCount.toNat
  else if a = 0x7F24 then r (x.descs.length + 2 ^ 8 * x.dmaDone.toNat)
  else r 0

/-- The descriptor that a write to DMA_GO submits. -/
def descOf (x : Core) (v : Q23) : Desc :=
  { localAddr := x.dmaLocal.extractLsb' 0 16, memY := x.dmaLocal.getLsbD 16, shared := x.dmaShared, count := x.dmaCount
    toShared := v.getLsbD 0, fmt := v.extractLsb' 1 2, upper := v.getLsbD 3 }

/-- Byte address in shared memory of local word i of a descriptor, and which half of its word (R218, R221). -/
def descAddr (d : Desc) (i : Nat) : Nat × Bool :=
  let base := d.shared.toNat * 4
  if d.fmt = 0 then (base + 4 * i, false)
  else if d.fmt = 1 then let h := 2 * i + (if d.upper then 2 else 0); (base + h / 4 * 4, h % 4 == 2)
  else (base + 4 * (i / 2), i % 2 == 1)

/-- Why a descriptor is denied, if it is (R217, R221, R227). -/
def descFault (d : Desc) : Option Nat :=
  let n := d.count.toNat
  if d.fmt = 3 then some fAddr
  else if n = 0 ∨ d.localAddr.toNat + n > 0x4000 ∨ (d.fmt = 2 ∧ n % 2 = 1) then some fDmaDenied
  else
    match region (descAddr d 0).1, region (descAddr d (n - 1)).1 with
    | some a, some b => if a = b then none else some fDmaDenied
    | _, _ => some fDmaDenied

/-- A write of a word to the control page; DMA_GO has been checked. -/
def pageWrite (s : State) (c a : Nat) (v : Q23) : State :=
  if 0x7F10 ≤ a ∧ a < 0x7F18 then
    s.modWin c ((a - 0x7F10) / 2) fun w =>
      if a % 2 = 0 then { w with base := v.extractLsb' 0 18, latch := none, staged := none }
      else { w with fmt := v.extractLsb' 0 2, latch := none, staged := none }
  else if a = 0x7F20 then s.modCore c fun x => { x with dmaLocal := v.extractLsb' 0 17 }
  else if a = 0x7F21 then s.modCore c fun x => { x with dmaShared := v }
  else if a = 0x7F22 then s.modCore c fun x => { x with dmaCount := v.extractLsb' 0 15 }
  else if a = 0x7F23 then s.modCore c fun x => { x with descs := x.descs ++ [descOf x v] }
  else s

/-! ## Accesses of an instruction (R212) -/

/-- Why an access at an address of X, or of Y, faults, if it does. -/
def accessFault (s : State) (c : Nat) (spaceY : Bool) (a : Nat) : Option Nat :=
  if spaceY then (if a < 0x4000 ∨ (0x7F00 ≤ a ∧ a < 0x8000) then none else some fAddr)
  else if a < 0x4000 then none
  else if a < 0x8000 then s.winFault c a
  else some fAddr

/-- A read waits for shared memory (R220). -/
def readWaits (s : State) (c : Nat) (spaceY : Bool) (a : Nat) : Bool :=
  !spaceY && decide (0x4000 ≤ a) && (s.winLatched c a).isNone

/-- A word read by an instruction. -/
def memRead (s : State) (c : Nat) (spaceY : Bool) (a : Nat) : Q23 × State :=
  if spaceY then (if a < 0x4000 then (cellGet (s.core c).y a, s) else s.pageRead c a)
  else if a < 0x4000 then (cellGet (s.core c).x a, s)
  else s.winRead c a

/-- A word written by an instruction. -/
def memWrite (s : State) (c : Nat) (spaceY : Bool) (a : Nat) (v : Q23) : State :=
  if spaceY then (if a < 0x4000 then s.modCore c fun x => { x with y := cellSet x.y a v } else s.pageWrite c a v)
  else if a < 0x4000 then s.modCore c fun x => { x with x := cellSet x.x a v }
  else s.winWrite c a v

/-! ## DMA (R221) -/

/-- Word i of a descriptor is moved. -/
def dmaWord (c : Nat) (d : Desc) (i : Nat) (s : State) : State :=
  let a := d.localAddr.toNat + i
  let ad := descAddr d i
  let loc (j : Nat) : Q23 := (s.memRead c d.memY (d.localAddr.toNat + j)).1
  if d.toShared then
    if d.fmt = 0 then s.sharedWrite ad.1 (loc i ++ (0 : Byte))
    else if d.fmt = 1 then s.sharedWriteHalf ad.1 ad.2 (halfWrite (loc i))
    else if i % 2 = 0 then s
    else s.sharedWrite ad.1 (((loc i).setWidth 16 : Half) ++ ((loc (i - 1)).setWidth 16 : Half))
  else
    let r := s.sharedWord ad.1
    let v : Q23 := if d.fmt = 0 then r.1.extractLsb' 8 24
      else if d.fmt = 1 then halfRead (pickHalf r.1 ad.2)
      else (pickHalf r.1 ad.2).setWidth 24
    r.2.memWrite c d.memY a v

/-- The oldest descriptor of a core completes. -/
def dmaDone (s : State) (c : Nat) : State :=
  match (s.core c).descs with
  | [] => s
  | d :: t =>
    let s := runAll (dmaWord c d) (List.range d.count.toNat) s
    s.modCore c fun x => { x with descs := t, dmaDone := x.dmaDone + 1 }

end State

end Sys2Proof.Machine
end

