-- ==== Sys2Proof/Machine/EddyExec.lean ====
section
/-! DEFINITION. How an Eddy core executes an instruction: its faults, stalls and completion, and the end of a task (07 R205-R230,
08 R236-R252). Each row of an instruction is one call of `edy`. -/
namespace Sys2Proof.Machine

/-- The state codes of EDY_STATE (07 R222). -/
def CState.code : CState → Nat
  | .idle => 0
  | .run => 1
  | .wait => 2
  | .parked => 3
  | .halted => 4
  | .faulted => 5

namespace State

def setRegs (s : State) (c : Nat) (r : ERegs) : State := s.modCore c fun x => { x with regs := r }

/-! ## Halting and stopping (07 R222, R225-R227) -/

/-- A core halts: the runtime limit stops counting. -/
def enterHalt (s : State) (c : Nat) (was : CState) : State :=
  s.modCore c fun x => { x with state := .halted, haltedFrom := was, haltNs := s.now }

/-- A halted core goes on in a state: time halted does not count against the limit, but the task was in service. -/
def leaveHalt (s : State) (c : Nat) (dest : CState) : State :=
  s.modCore c fun x =>
    let d := s.now - x.haltNs
    { x with state := dest, started := x.started + d, busy := if x.flow.isSome then x.busy + BitVec.ofNat 64 d else x.busy
             idleSince := s.now }

/-- The task of a core is to end: its writes and DMA drain first (R225, R226). Whatever it waited for is given up. -/
def beginEnd (s : State) (c : Nat) (counts : Bool) : State :=
  let s := if (s.core c).state = .halted then s.leaveHalt c .wait else s
  let s := s.modCore c fun x => { x with
    state := .wait, waitKind := 6, stall := none, posted := none, ending := true, endCounts := counts }
  { s with
    eddy := { s.eddy with semWait := s.eddy.semWait.filter fun w => w.2.2 != c }
    sch := { s.sch with held := s.sch.held.filter fun h => match h with | .core m _ _ _ => m != c | _ => true } }

/-- A task faults: code, flow and PC are recorded, and it is stopped (R227). -/
def taskFault (s : State) (c code pc : Nat) : State :=
  let s := s.modCore c fun x => { x with
    faultCode := BitVec.ofNat 4 code, faultFlow := BitVec.ofNat 10 (x.flow.getD 0), faultPc := BitVec.ofNat 14 pc
    cntRt := if code = fRtLimit then satInc x.cntRt else x.cntRt
    cntFault := if code = fRtLimit then x.cntFault else satInc x.cntFault }
  s.beginEnd c false

/-- An address lies in the loaded image (R227, 08 R249). -/
def inImage (x : Core) (pc : Nat) : Bool := x.image.any fun r => decide (r.1 ≤ pc) && decide (pc < r.1 + r.2)

/-- The next instruction is fetched: one outside the image, or an illegal word, stops the task (R227, 08 R233). -/
def fetch (s : State) (c pc : Nat) : State :=
  let x := s.core c
  if !inImage x pc then s.taskFault c fPcRange pc
  else if decodeIns (cellGet x.prog pc) = .illegal then s.taskFault c fIllegal pc
  else s

/-- An instruction is complete: the registers, the steps it took, and where the program goes on (R206, R231). A core that is to
halt, halts here. -/
def complete (s : State) (c : Nat) (r : ERegs) (steps pc : Nat) : State :=
  let s := s.modCore c fun x => { x with
    regs := { r with pc := BitVec.ofNat 14 pc }, steps := x.steps + BitVec.ofNat 64 steps
    state := .run, waitKind := 0, stall := none, posted := none }
  if (s.core c).haltReq then s.enterHalt c .run else s.fetch c pc

/-- A complete instruction that does not jump (08 R246). -/
def stepOn (s : State) (c : Nat) (r : ERegs) (steps : Nat) : State :=
  let e := r.loopEnd (s.core c).regs.pc.toNat 5
  s.complete c e.1 steps e.2

/-- An instruction stalls. -/
def stallOn (s : State) (c kind : Nat) (i : EIns) : State :=
  s.modCore c fun x => { x with state := .wait, waitKind := kind, stall := some i }

/-! ## Parallel and single moves (08 R235, R240) -/

/-- Address and pointer of a parallel move. -/
def pmovePtr (spaceY : Bool) (m : PMove) : Nat := m.ptr.val + (if spaceY then 4 else 0)

/-- An access to memory by an instruction: space, address, and whether it writes. -/
structure Acc1 where
  spaceY : Bool
  addr : Nat
  ptr : Option Nat := none
  write : Bool := false
  deriving DecidableEq, Repr

/-- Why some accesses fault, if they do: a pointer first, then its address (07 R212, R214, R215). -/
def accFault (s : State) (c : Nat) : List Acc1 → Option Nat
  | [] => none
  | a :: t =>
    let bad := match a.ptr with | some p => (s.core c).regs.ptrBad p | none => false
    if bad then some fPtrMode
    else match s.accessFault c a.spaceY a.addr with
      | some f => some f
      | none => s.accFault c t

/-- A DMA_GO among the accesses stalls while four descriptors are outstanding (07 R221). -/
def goWaits (s : State) (c : Nat) (l : List Acc1) : Bool :=
  decide ((s.core c).descs.length ≥ 4) && l.any fun a => a.write && a.spaceY && a.addr == 0x7F23

/-- The register of a parallel move as a 6-bit code (08 R235). -/
def pmoveCode (r : BitVec 4) : Nat := if r.toNat < 8 then r.toNat else 57 + (r.toNat - 8)

/-- A parallel move with its access. -/
def pmoveAcc (r : ERegs) (spaceY : Bool) (m : PMove) : Acc1 :=
  let p := pmovePtr spaceY m
  { spaceY := spaceY, addr := (r.p.getD p 0).toNat, ptr := some p, write := m.write }

/-- Guards of an instruction's accesses: a fault, a stall, or go on. -/
def guarded (s : State) (c : Nat) (granted : Bool) (i : EIns) (l : List Acc1) (go : State → State) : State :=
  match s.accFault c l with
  | some f => s.taskFault c f (s.core c).regs.pc.toNat
  | none =>
    if s.goWaits c l then s.stallOn c 5 i
    else if !granted && l.any fun a => !a.write && s.readWaits c a.spaceY a.addr then s.stallOn c 4 i
    else go s

/-- The descriptor a DMA_GO write would submit is denied. -/
def goDenied (s : State) (c : Nat) (a : Acc1) (v : Q23) : Option Nat :=
  if a.spaceY && a.addr == 0x7F23 then descFault (descOf (s.core c) v) else none

/-- The moves of a PA instruction beside its arithmetic (08 R235, R238; 07 R208). The arithmetic is given the registers before; the
moves read those too, and write after it. -/
def runPA (s : State) (c : Nat) (granted : Bool) (i : EIns) (mv : PMoves) (arith : ERegs → Arith) : State :=
  let r := (s.core c).regs
  let ms := (match mv.x with | some m => [(false, m)] | none => []) ++ (match mv.y with | some m => [(true, m)] | none => [])
  s.guarded c granted i (ms.map fun m => pmoveAcc r m.1 m.2) fun s =>
    let out (m : Bool × PMove) : Q23 × Bool × Bool := r.read (pmoveCode m.2.reg)
    match ms.findSome? (fun m => if m.2.write then s.goDenied c (pmoveAcc r m.1 m.2) (out m).1 else none) with
    | some f => s.taskFault c f r.pc.toNat
    | none =>
      let a := (arith r).1
      let lim := ms.any fun m => m.2.write && (out m).2.1
      let big := ms.any fun m => m.2.write && (out m).2.2
      let a := a.setFlags a.flags false lim big
      let one (x : State × ERegs) (m : Bool × PMove) : State × ERegs :=
        let p := pmovePtr m.1 m.2
        let addr := (r.p.getD p 0).toNat
        let post (q : ERegs) : ERegs := q.setPtr p (r.postMod p m.2.mode)
        if m.2.write then (x.1.memWrite c m.1 addr (out m).1, post x.2)
        else let v := x.1.memRead c m.1 addr; (v.2, post (x.2.write (pmoveCode m.2.reg) v.1))
      let z := ms.foldl one (s, a)
      z.1.stepOn c z.2 1

/-- A read of memory into a register (08 R240). -/
def loadReg (s : State) (c : Nat) (granted : Bool) (i : EIns) (a : Acc1) (code : Nat) (post : ERegs → ERegs) : State :=
  s.guarded c granted i [a] fun s =>
    let v := s.memRead c a.spaceY a.addr
    v.2.stepOn c ((post (v.2.core c).regs).write code v.1) 1

/-- A register written to memory (08 R240). -/
def storeReg (s : State) (c : Nat) (i : EIns) (a : Acc1) (code : Nat) (post : ERegs → ERegs) : State :=
  s.guarded c true i [{ a with write := true }] fun s =>
    let r := (s.core c).regs
    let v := r.read code
    match s.goDenied c a v.1 with
    | some f => s.taskFault c f r.pc.toNat
    | none => (s.memWrite c a.spaceY a.addr v.1).stepOn c ((post r).setFlags r.flags false v.2.1 v.2.2) 1

/-- Access of a single move: address and pointer, and the pointer afterwards (07 R213, 08 R240). -/
def ptrAcc (r : ERegs) (a : PtrRef) : Acc1 × (ERegs → ERegs) :=
  let n := a.ptr.val
  let at_ := if a.idx then r.next n (r.mod n) else r.p.getD n 0
  ({ spaceY := a.spaceY, addr := at_.toNat, ptr := some n }, fun q => if a.idx then q else q.setPtr n (r.postMod n a.mode))

/-! ## Block search (08 R251, R252) -/

/-- Words i to the end of a scan, at most `fuel` of them: the registers, and the fault that stopped it. -/
def scan (c : Nat) (minimum : Bool) (n : Nat) (spaceY : Bool) (ptr : Nat) (byM : Bool) : Nat → Nat → State → State × Option Nat
  | 0, _, s => (s, none)
  | fuel + 1, i, s =>
    let r := (s.core c).regs
    let a := (r.p.getD ptr 0).toNat
    match s.accFault c [{ spaceY := spaceY, addr := a, ptr := some ptr }] with
    | some f => (s, some f)
    | none =>
      let v := s.memRead c spaceY a
      let s := v.2
      let w := wholeAcc v.1
      let better := decide (i = 0) || (if minimum then decide (accInt w < accInt (r.acc n)) else decide (accInt w > accInt (r.acc n)))
      let r := if better then { r.setAcc n w with i0 := BitVec.ofNat 16 i } else r
      let s := s.setRegs c (r.setPtr ptr (if byM then r.next ptr (r.mod ptr) else r.next ptr 1))
      scan c minimum n spaceY ptr byM fuel (i + 1) s

/-- Words that a count names: 0 means 16 384. -/
def scanCount (count : BitVec 14) : Nat := if count = 0 then 16384 else count.toNat

/-- vmax and vmin (08 R251). -/
def runScan (s : State) (c : Nat) (granted : Bool) (i : EIns) (minimum : Bool) (n : Nat) (spaceY : Bool) (ptr : Nat) (byM : Bool) (count : Nat) :
    State :=
  let pc := (s.core c).regs.pc.toNat
  let a := ((s.core c).regs.p.getD ptr 0).toNat
  if !granted && s.readWaits c spaceY a && (s.accessFault c spaceY a).isNone then s.stallOn c 4 i
  else
    match scan c minimum n spaceY ptr byM count 0 s with
    | (s, some f) => s.taskFault c f pc
    | (s, none) =>
      let r := (s.core c).regs
      s.stepOn c (r.setFlags { resultFlags r.flags (r.acc n) with v := false } false false false) (count + 2)

/-! ## Semaphores (07 R230) -/

/-- Order of waiting acquires: by instant, then by core. -/
def insertWait (w : Nat × Nat × Nat) : List (Nat × Nat × Nat) → List (Nat × Nat × Nat)
  | [] => [w]
  | x :: t => if w.2.1 < x.2.1 ∨ (w.2.1 = x.2.1 ∧ w.2.2 < x.2.2) then w :: x :: t else x :: insertWait w t

def semOwner (s : State) (n : Nat) : Option Nat := s.eddy.sems.getD n none

/-- A semaphore is freed: its oldest waiting acquire becomes its owner at once. -/
def freeSem (s : State) (n : Nat) : State :=
  let next := (s.eddy.semWait.find? fun w => w.1 == n).map fun w => w.2.2
  { s with eddy := { s.eddy with sems := updAt s.eddy.sems n fun _ => next } }

/-- Z alone is written. -/
def ERegs.setZ (r : ERegs) (z : Bool) : ERegs := r.setFlags { r.flags with z := z } false false false

/-- acquire. -/
def semAcquire (s : State) (c n : Nat) (i : EIns) : State :=
  match s.semOwner n with
  | none => ({ s with eddy := { s.eddy with sems := updAt s.eddy.sems n fun _ => some c } }).stepOn c (s.core c).regs 1
  | some o =>
    if o = c then s.stepOn c (s.core c).regs 1
    else ({ s with eddy := { s.eddy with semWait := insertWait (n, s.now, c) s.eddy.semWait } }).stallOn c 3 i

/-- try. -/
def semTry (s : State) (c n : Nat) : State :=
  let take := match s.semOwner n with | none => true | some o => o == c
  let s' := if take then { s with eddy := { s.eddy with sems := updAt s.eddy.sems n fun _ => some c } } else s
  s'.stepOn c (ERegs.setZ (s.core c).regs take) 1

/-- release. -/
def semRelease (s : State) (c n : Nat) : State :=
  if s.semOwner n = some c then (s.freeSem n).stepOn c (s.core c).regs 1
  else s.taskFault c fSem (s.core c).regs.pc.toNat

/-! ## Posting (08 R250, 07 R229) -/

/-- post: the task is queued with Z = 1, not queued with Z = 0 when the flow does not exist, or the core stalls for room. -/
def post (s : State) (c : Nat) (i : EIns) (rf : Nat) (pair : Nat) (dly : Bool) (t : Nat) : State :=
  let r := (s.core c).regs
  let n := field (r.read rf).1.toNat 0 10
  let arg : BitVec 48 := r.data (2 * pair + 1) ++ r.data (2 * pair)
  let dt := if dly then some (r.data t).toNat else none
  if !(s.flow n).exist then s.stepOn c (ERegs.setZ r false) 2
  else if s.flowRoom n then (s.postTask n arg dt).stepOn c (ERegs.setZ r true) 2
  else (s.hold n (.core c n arg dt)).stallOn c 2 i

/-! ## Program control (08 R244-R249) -/

/-- A jump: outside the image it stops the task (R249). -/
def jump (s : State) (c : Nat) (r : ERegs) (steps pc : Nat) : State :=
  if inImage (s.core c) pc then s.complete c r steps pc else s.taskFault c fPcRange (s.core c).regs.pc.toNat

/-- A CTL instruction at the end address of an active loop is illegal (R247). -/
def control (s : State) (c : Nat) (go : ERegs → Nat → State) : State :=
  let r := (s.core c).regs
  if r.stack.any fun e => e.2.1 == r.pc then s.taskFault c fIllegal r.pc.toNat else go r r.pc.toNat

/-- loop and loopr (R245). -/
def beginLoop (s : State) (c : Nat) (n : Nat) (last : BitVec 14) : State :=
  s.control c fun r pc =>
    if last.toNat ≤ pc then s.taskFault c fIllegal pc
    else if r.stack.length ≥ 4 then s.taskFault c fLoop pc
    else if n = 0 then s.complete c r 2 (last.toNat + 1)
    else s.complete c (r.pushLoop (BitVec.ofNat 14 (pc + 1)) last (BitVec.ofNat 16 n)) 2 (pc + 1)

/-! ## Execution -/

/-- The arithmetic of a register-only instruction, then on. -/
def plain (s : State) (c : Nat) (steps : Nat) (f : ERegs → Arith) : State := s.stepOn c (f (s.core c).regs).1 steps

/-- An instruction is executed at the core's PC; `granted` when its wait for a window is over (07, 08). -/
def run (s : State) (c : Nat) (granted : Bool) (i : EIns) : State :=
  let r0 := (s.core c).regs
  let bad := s.taskFault c fIllegal r0.pc.toNat
  let pa (mv : PMoves) (f : ERegs → Arith) : State := s.runPA c granted i mv f
  let ext (minimum : Bool) (n : Fin 4) (k : Fin 8) (j byPtr : Bool) (mv : PMoves) : State :=
    pa mv fun r => extreme r minimum n.val k.val j (if byPtr then r.p.getD mv.xptr.val 0 else r.lc)
  let imm (v : Half) : Int := signed 16 v.toNat * 2 ^ 32
  if !i.legal then bad
  else
    match i with
    | .nop mv => pa mv fun r => (r, false)
    | .mpy n a b mv => pa mv fun r => putResult r n.val (r.prod a.val (b.val + 4)) false
    | .mac n a b mv => pa mv fun r =>
        let p := r.prod a.val (b.val + 4)
        putResult r n.val (accInt (r.acc n.val) + p) (carryAdd (accInt (r.acc n.val)) p)
    | .msu n a b mv => pa mv fun r =>
        let p := r.prod a.val (b.val + 4)
        putResult r n.val (accInt (r.acc n.val) - p) (borrowSub (accInt (r.acc n.val)) p)
    | .dmpy pair sel n0 n1 mv => pa mv fun r => dual r false pair sel.toNat n0 n1
    | .dmac pair sel n0 n1 mv => pa mv fun r => dual r true pair sel.toNat n0 n1
    | .add n k mv => pa mv fun r => putResult r n.val (accInt (r.acc n.val) + r.src k.toNat) (carryAdd (accInt (r.acc n.val)) (r.src k.toNat))
    | .sub n k mv => pa mv fun r => putResult r n.val (accInt (r.acc n.val) - r.src k.toNat) (borrowSub (accInt (r.acc n.val)) (r.src k.toNat))
    | .cmp n k mv => pa mv fun r => cmpResult r (accInt (r.acc n.val) - r.src k.toNat) (borrowSub (accInt (r.acc n.val)) (r.src k.toNat))
    | .cpy n k mv => pa mv fun r =>
        let a := toAcc (r.src k.toNat)
        ((r.setAcc n.val a).setFlags { resultFlags r.flags a with v := false } false false false, false)
    | .zero n mv => pa mv fun r =>
        ((r.setAcc n.val 0).setFlags { r.flags with z := true, n := false, v := false, g := false, h := true } false false false, false)
    | .neg n mv => pa mv fun r => putResult r n.val (-(accInt (r.acc n.val))) (borrowSub 0 (accInt (r.acc n.val)))
    | .abs n mv => pa mv fun r => putResult r n.val (accInt (r.acc n.val)).natAbs r.flags.c
    | .round n mv => pa mv fun r =>
        let y := narrow false (roundAt24 (r.mr.getLsbD 3) (accInt (r.acc n.val)) * 2 ^ 24)
        ((r.setAcc n.val y.1).setFlags { resultFlags r.flags y.1 with v := y.2 } y.2 false false, y.2)
    | .lim n mv => pa mv fun r =>
        let y := narrow true (accInt (r.acc n.val))
        ((r.setAcc n.val y.1).setFlags { resultFlags r.flags y.1 with v := y.2 } y.2 false false, y.2)
    | .shl n k mv => pa mv fun r => shiftLeft r n.val k.val
    | .shr n k mv => pa mv fun r => shiftRight r n.val k.val
    | .and n k mv => pa mv fun r => logical r n.val fun w => w &&& r.data k.val
    | .or n k mv => pa mv fun r => logical r n.val fun w => w ||| r.data k.val
    | .xor n k mv => pa mv fun r => logical r n.val fun w => w ^^^ r.data k.val
    | .maxi n k j byPtr mv => ext false n k j byPtr mv
    | .mini n k j byPtr mv => ext true n k j byPtr mv
    | .ldp a k => s.loadReg c granted i (ptrAcc r0 a).1 k.toNat (ptrAcc r0 a).2
    | .stp a k => s.storeReg c i (ptrAcc r0 a).1 k.toNat (ptrAcc r0 a).2
    | .mov rd rs =>
        if 57 ≤ rd.toNat ∧ 57 ≤ rs.toNat then s.stepOn c (r0.setAcc (rd.toNat - 57) (r0.acc (rs.toNat - 57))) 1
        else
          let v := r0.read rs.toNat
          s.stepOn c ((r0.setFlags r0.flags false v.2.1 v.2.2).write rd.toNat v.1) 1
    | .lda y k a => s.loadReg c granted i { spaceY := y, addr := a.toNat } k.toNat id
    | .sta y k a => s.storeReg c i { spaceY := y, addr := a.toNat } k.toNat id
    | .ldi k v => s.stepOn c (r0.write k.toNat v) 1
    | .addi n v => s.plain c 1 fun r => putResult r n.val (accInt (r.acc n.val) + imm v) (carryAdd (accInt (r.acc n.val)) (imm v))
    | .cmpi n v => s.plain c 1 fun r => cmpResult r (accInt (r.acc n.val) - imm v) (borrowSub (accInt (r.acc n.val)) (imm v))
    | .ldis k v => s.stepOn c (r0.write k.toNat (BitVec.ofInt 24 (signed 16 v.toNat))) 1
    | .ldif k v => s.stepOn c (r0.write k.toNat (v ++ (0 : Byte))) 1
    | .padd n v => if r0.ptrBad n.val then s.taskFault c fPtrMode r0.pc.toNat
        else s.stepOn c (r0.setPtr n.val (r0.next n.val (signed 16 v.toNat))) 1
    | .pmod n => if r0.ptrBad n.val then s.taskFault c fPtrMode r0.pc.toNat
        else s.stepOn c (r0.setPtr n.val (r0.next n.val (r0.mod n.val))) 1
    | .andi k u =>
        let w := r0.data k.val &&& u.setWidth 24
        s.stepOn c ((r0.setData k.val w).setFlags { r0.flags with z := w == 0, n := w.getLsbD 23 } false false false) 1
    | .ori k u =>
        let w := r0.data k.val ||| u.setWidth 24
        s.stepOn c ((r0.setData k.val w).setFlags { r0.flags with z := w == 0, n := w.getLsbD 23 } false false false) 1
    | .norm n k => s.plain c 2 fun r => normalForm r n.val k.val
    | .loop n e => s.beginLoop c n.toNat e
    | .loopr k e => s.beginLoop c (field (r0.read k.toNat).1.toNat 0 16) e
    | .lexit => s.control c fun r pc => if r.stack.isEmpty then s.taskFault c fLoop pc else s.complete c r.popLoop 1 (pc + 1)
    | .goto a => s.control c fun r _ => s.jump c r 2 a.toNat
    | .gotoc cond a => s.control c fun r pc => if r.holds cond.toNat then s.jump c r 2 a.toNat else s.complete c r 1 (pc + 1)
    | .link a n => s.control c fun r pc => s.jump c (r.setPtr n.val (BitVec.ofNat 16 (pc + 1))) 2 a.toNat
    | .ret n => s.control c fun r pc =>
        let a := (r.p.getD n.val 0).toNat
        if a ≥ 0x4000 then s.taskFault c fPcRange pc else s.jump c r 2 a
    | .done => (s.modCore c fun x => { x with steps := x.steps + 1 }).beginEnd c true
    | .waitcy _ => s.stallOn c 1 i
    | .post k pair dly t => s.post c i k.toNat pair.toNat dly t.toNat
    | .semAcquire n => s.semAcquire c n.val i
    | .semTry n => s.semTry c n.val
    | .semRelease n => s.semRelease c n.val
    | .vext minimum n y p byM count => s.runScan c granted i minimum n.val y p.val byM (scanCount count)
    | .illegal => bad

/-- A running core executes an instruction (R223). -/
def edy (s : State) (c : Nat) (i : EIns) : State :=
  if c < s.nCores ∧ (s.core c).state = .run then s.run c false i else s

/-! ## The end of stalls and of tasks (07 R220, R225-R230) -/

/-- WAITCY_RETURN: the awaited event occurs, and its cycle number is shown (R228). -/
def waitcyReturn (s : State) (c : Nat) : State :=
  let x := s.core c
  if x.state = .wait ∧ x.waitKind = 1 then
    (s.modCore c fun x => { x with waitCycle := BitVec.ofNat 64 s.k }).stepOn c x.regs 1
  else s

/-- POST_STALL_END: the held task has been queued, or its flow is gone (R229, 09 R257). -/
def postStallEnd (s : State) (c : Nat) : State :=
  let s := s.retryHeld
  let x := s.core c
  match x.posted with
  | some z => if x.state = .wait ∧ x.waitKind = 2 then s.stepOn c (ERegs.setZ x.regs z) 2 else s
  | none => s

/-- SEM_GRANT: the oldest waiting acquire of a semaphore owns it and goes on (R230). -/
def semGrant (s : State) (n : Nat) : State :=
  let s := if (s.semOwner n).isNone then s.freeSem n else s
  match s.eddy.semWait.find? (fun w => w.1 == n), s.semOwner n with
  | some w, some o =>
    if w.2.2 = o then
      ({ s with eddy := { s.eddy with semWait := s.eddy.semWait.erase w } }).stepOn o (s.core o).regs 1
    else s
  | _, _ => s

/-- WINDOW_READ_RETURN: the stalled instruction reads, and goes on (R220). -/
def windowReturn (s : State) (c : Nat) : State :=
  let x := s.core c
  match x.stall with
  | some i => if x.state = .wait ∧ x.waitKind = 4 then (s.modCore c fun x => { x with state := .run }).run c true i else s
  | none => s

/-- DMA_DESCRIPTOR_DONE: a descriptor completes, and a core stalled in DMA_GO goes on (R221). -/
def descriptorDone (s : State) (c : Nat) : State :=
  let s := s.dmaDone c
  let x := s.core c
  match x.stall with
  | some i => if x.state = .wait ∧ x.waitKind = 5 ∧ x.descs.length < 4 then (s.modCore c fun x => { x with state := .run }).run c true i else s
  | none => s

/-- The registers that a parked core has lost: free values (R222). -/
def lostRegs (s : State) : ERegs × State :=
  let f := s.free 1024
  let at_ (lo n : Nat) : Nat := field f.1.toNat lo n
  ({ d := (List.range 8).map fun i => BitVec.ofNat 24 (at_ (24 * i) 24), a := (List.range 4).map fun i => BitVec.ofNat 56 (at_ (192 + 56 * i) 56)
     p := (List.range 8).map fun i => BitVec.ofNat 16 (at_ (416 + 16 * i) 16), b := (List.range 8).map fun i => BitVec.ofNat 16 (at_ (544 + 16 * i) 16)
     l := (List.range 8).map fun i => BitVec.ofNat 15 (at_ (672 + 15 * i) 15), m := (List.range 8).map fun i => BitVec.ofNat 16 (at_ (792 + 16 * i) 16)
     i0 := BitVec.ofNat 16 (at_ 920 16), i1 := BitVec.ofNat 16 (at_ 936 16), lc := BitVec.ofNat 16 (at_ 952 16)
     pc := BitVec.ofNat 14 (at_ 968 14) }, f.2)

/-- A core is parked: power-gated, its memories kept and its registers lost (R222). -/
def parkCore (s : State) (c : Nat) : State :=
  let r := s.lostRegs
  r.2.modCore c fun x => { x with state := .parked, regs := r.1, parkPending := false, waking := false }

/-- Semaphores that a core still owns are released (R225). -/
def releaseAll (s : State) (c : Nat) : State :=
  runAll (fun n s => if s.semOwner n = some c then (s.freeSem n).modCore c fun x => { x with semAuto := satInc x.semAuto } else s)
    (List.range 64) s

/-- TASK_END: after draining, semaphores are released, the flow is freed, and the core is IDLE, PARKED, HALTED or FAULTED (R225-R227). -/
def taskEnd (s : State) (c : Nat) : State :=
  let x := s.core c
  if !(x.ending && x.descs.isEmpty) then s
  else
    let s := s.releaseAll c
    let s := match x.flow with | some f => s.freeFlow f | none => s
    let s := s.modCore c fun x => { x with
      state := .idle, waitKind := 0, ending := false, flow := none, idleSince := s.now
      busy := x.busy + BitVec.ofNat 64 (s.now - x.started), cntDone := if x.endCounts then x.cntDone + 1 else x.cntDone }
    let x := s.core c
    if x.uncorr then s.modCore c fun x => { x with state := .faulted, uncorr := false }
    else if x.parkPending then s.parkCore c
    else if x.haltReq then s.enterHalt c .idle
    else s

/-- RUNTIME_LIMIT: the task has had its time, and is stopped; a vmax or vmin under way stops between two words, how many of them read
being a free value (R226, 08 R252). -/
def runtimeLimit (s : State) (c : Nat) : State :=
  let x := s.core c
  if x.ending ∨ x.flow.isNone = true ∨ ¬ (x.state = .run ∨ x.state = .wait) ∨ s.taskTime c < s.rtLimit c then s
  else
    let s := match x.state, decodeIns (cellGet x.prog x.regs.pc.toNat) with
      | .run, .vext minimum n y p byM count =>
        let f := s.free 14
        (scan c minimum n.val y p.val byM (f.1.toNat % scanCount count) 0 f.2).1
      | _, _ => s
    s.taskFault c fRtLimit x.regs.pc.toNat

/-! ## Debug control (07 EDY_CTRL, R222, 08 R252) -/

/-- A halted core with a task executes one instruction. -/
def stepHalted (s : State) (c : Nat) : State :=
  let x := s.core c
  if x.state = .halted ∧ x.haltedFrom = .run then
    let pc := x.regs.pc.toNat
    let s := s.leaveHalt c .run
    if inImage x pc then s.run c false (decodeIns (cellGet x.prog pc)) else s.taskFault c fPcRange pc
  else s

/-- HALT written: at the next instruction boundary the core halts, or it resumes. -/
def writeHalt (s : State) (c : Nat) (halt : Bool) : State :=
  let x := s.core c
  let s := s.modCore c fun x => { x with haltReq := halt }
  if halt then
    match x.state with
    | .run => s.enterHalt c .run
    | .idle => s.enterHalt c .idle
    | _ => s
  else if x.state = .halted then
    if x.haltedFrom = .run then (s.leaveHalt c .run).fetch c x.regs.pc.toNat
    else if x.parkPending then (s.leaveHalt c .idle).parkCore c
    else s.leaveHalt c .idle
  else s

/-- A write of EDY_CTRL. -/
def writeEdyCtrl (s : State) (c : Nat) (v : Word) : State :=
  if c ≥ s.nCores then s
  else
    let s := if v.getLsbD 1 then s.stepHalted c else s
    s.writeHalt c (v.getLsbD 0)

/-- A write of EDY_REG_i, taken while the core is HALTED. -/
def writeEdyReg (s : State) (c i : Nat) (v : Word) : State :=
  if c < s.nCores ∧ (s.core c).state = .halted ∧ i < 57 then s.modCore c fun x => { x with regs := x.regs.write i (v.setWidth 24) } else s

end State

end Sys2Proof.Machine
end

