-- ==== Sys2Proof/Machine/EddyRows.lean ====
section
/-! DEFINITION. The rows of the Eddy cores: one meaning for each instruction and core event, and EDDY_LOAD (07 R232). -/
namespace Sys2Proof.Machine

/-! ## EDDY_LOAD (R232) -/

def loadMem (p : Pkt) : Nat := p.fld 0 0 2
def loadIsFirst (p : Pkt) : Bool := p.fld 0 8 1 == 1
def loadIsLast (p : Pkt) : Bool := p.fld 0 9 1 == 1
def loadAt (p : Pkt) : Nat := p.fld 1 0 14

/-- Length rule: 12 + n bytes, and 4 more with LAST. -/
def loadLen (p : Pkt) : Option Half :=
  if p.own < 12 then some noWord
  else if p.own = 12 + p.w 2 + (if loadIsLast p then 4 else 0) then none else some 2

/-- The data words of a chunk, and all data since FIRST with them. -/
def loadWords (p : Pkt) : List Word := (p.words.drop 3).take (p.w 2 / 4)
def loadAll (p : Pkt) (x : Core) : List Byte :=
  (if loadIsFirst p then [] else x.loading.getD []) ++ wordsBytes (loadWords p)

namespace State

/-- A chunk is written into a core's memory. -/
def loadChunk (s : State) (n : Nat) (p : Pkt) : State :=
  let ws := loadWords p
  let s := if loadIsFirst p then
      let s := if (s.core n).state = .faulted then (s.parkCore n).modCore n fun x => { x with hostPark := true } else s
      s.modCore n fun x => { x with imageValid := false, image := [] }
    else s
  s.modCore n fun x =>
    let all := loadAll p x
    let x := match loadMem p with
      | 0 => { x with x := cellPuts x.x (loadAt p) 1 (ws.map (BitVec.setWidth 24)) }
      | 1 => { x with y := cellPuts x.y (loadAt p) 1 (ws.map (BitVec.setWidth 24)) }
      | _ => { x with prog := cellPuts x.prog (loadAt p) 1 ws, image := x.image ++ [(loadAt p, ws.length)] }
    if loadIsLast p then { x with imageValid := true, loading := none } else { x with loading := some all }

end State

/-- EDDY_LOAD: its checks and effect. -/
def eddyLoadBody (_ : Ctx) (p : Pkt) (s : State) : Verdict :=
  let x := s.core p.unit
  let n := p.w 2
  if !((x.state == .parked && x.hostPark) || x.state == .faulted) || x.flow.isSome then .fail stDenied 0
  else if !loadIsFirst p && x.loading.isNone then .fail stNotReady 0
  else if loadMem p = 3 then badParam 0
  else if loadAt p + n / 4 > 16384 then badParam 1
  else if n = 0 then badParam 2
  else if loadIsLast p && crc32 (loadAll p x) != BitVec.ofNat 32 (p.w (3 + n / 4)) then badParam (3 + n / 4)
  else .done [] (s.loadChunk p.unit p)

def opEddyLoad : Op := { opcode := 0x0600, kind := 4, len := loadLen, body := eddyLoadBody }

/-! ## Rows -/

/-- PA_NOP (08 R236). -/
def execENop (c : Nat) (mv : PMoves) (s : State) : Result := .next (s.edy c (.nop mv))
/-- MPY (08 R236). -/
def execEMpy (c : Nat) (n i j : Fin 4) (mv : PMoves) (s : State) : Result := .next (s.edy c (.mpy n i j mv))
/-- MAC (08 R236). -/
def execEMac (c : Nat) (n i j : Fin 4) (mv : PMoves) (s : State) : Result := .next (s.edy c (.mac n i j mv))
/-- MSU (08 R236). -/
def execEMsu (c : Nat) (n i j : Fin 4) (mv : PMoves) (s : State) : Result := .next (s.edy c (.msu n i j mv))
/-- DMPY (08 R237). -/
def execEDmpy (c : Nat) (pair : Bool) (sel : BitVec 3) (neg0 neg1 : Bool) (mv : PMoves) (s : State) : Result := .next (s.edy c (.dmpy pair sel neg0 neg1 mv))
/-- DMAC (08 R237). -/
def execEDmac (c : Nat) (pair : Bool) (sel : BitVec 3) (neg0 neg1 : Bool) (mv : PMoves) (s : State) : Result := .next (s.edy c (.dmac pair sel neg0 neg1 mv))
/-- ADD (08 R236). -/
def execEAdd (c : Nat) (n : Fin 4) (src : BitVec 4) (mv : PMoves) (s : State) : Result := .next (s.edy c (.add n src mv))
/-- SUB (08 R236). -/
def execESub (c : Nat) (n : Fin 4) (src : BitVec 4) (mv : PMoves) (s : State) : Result := .next (s.edy c (.sub n src mv))
/-- CMP (08 R236). -/
def execECmp (c : Nat) (n : Fin 4) (src : BitVec 4) (mv : PMoves) (s : State) : Result := .next (s.edy c (.cmp n src mv))
/-- CPY (08 R236). -/
def execECpy (c : Nat) (n : Fin 4) (src : BitVec 4) (mv : PMoves) (s : State) : Result := .next (s.edy c (.cpy n src mv))
/-- ZERO (08 R236). -/
def execEZero (c : Nat) (n : Fin 4) (mv : PMoves) (s : State) : Result := .next (s.edy c (.zero n mv))
/-- NEG (08 R236). -/
def execENeg (c : Nat) (n : Fin 4) (mv : PMoves) (s : State) : Result := .next (s.edy c (.neg n mv))
/-- ABS (08 R236). -/
def execEAbs (c : Nat) (n : Fin 4) (mv : PMoves) (s : State) : Result := .next (s.edy c (.abs n mv))
/-- ROUND (08 R236). -/
def execERound (c : Nat) (n : Fin 4) (mv : PMoves) (s : State) : Result := .next (s.edy c (.round n mv))
/-- LIM (08 R236). -/
def execELim (c : Nat) (n : Fin 4) (mv : PMoves) (s : State) : Result := .next (s.edy c (.lim n mv))
/-- SHL (08 R236). -/
def execEShl (c : Nat) (n : Fin 4) (count : Fin 16) (mv : PMoves) (s : State) : Result := .next (s.edy c (.shl n count mv))
/-- SHR (08 R236). -/
def execEShr (c : Nat) (n : Fin 4) (count : Fin 16) (mv : PMoves) (s : State) : Result := .next (s.edy c (.shr n count mv))
/-- AND (08 R236). -/
def execEAnd (c : Nat) (n : Fin 4) (k : Fin 8) (mv : PMoves) (s : State) : Result := .next (s.edy c (.and n k mv))
/-- OR (08 R236). -/
def execEOr (c : Nat) (n : Fin 4) (k : Fin 8) (mv : PMoves) (s : State) : Result := .next (s.edy c (.or n k mv))
/-- XOR (08 R236). -/
def execEXor (c : Nat) (n : Fin 4) (k : Fin 8) (mv : PMoves) (s : State) : Result := .next (s.edy c (.xor n k mv))
/-- MAXI_L (08 R239). -/
def execEMaxiL (c : Nat) (n : Fin 4) (k : Fin 8) (j : Bool) (mv : PMoves) (s : State) : Result := .next (s.edy c (.maxi n k j false mv))
/-- MAXI_P (08 R239). -/
def execEMaxiP (c : Nat) (n : Fin 4) (k : Fin 8) (j : Bool) (mv : PMoves) (s : State) : Result := .next (s.edy c (.maxi n k j true mv))
/-- MINI_L (08 R239). -/
def execEMiniL (c : Nat) (n : Fin 4) (k : Fin 8) (j : Bool) (mv : PMoves) (s : State) : Result := .next (s.edy c (.mini n k j false mv))
/-- MINI_P (08 R239). -/
def execEMiniP (c : Nat) (n : Fin 4) (k : Fin 8) (j : Bool) (mv : PMoves) (s : State) : Result := .next (s.edy c (.mini n k j true mv))
/-- LD_POINTER (08 R240). -/
def execELdPointer (c : Nat) (a : PtrRef) (r : BitVec 6) (s : State) : Result := .next (s.edy c (.ldp a r))
/-- ST_POINTER (08 R240). -/
def execEStPointer (c : Nat) (a : PtrRef) (r : BitVec 6) (s : State) : Result := .next (s.edy c (.stp a r))
/-- MOV (08 R240). -/
def execEMov (c : Nat) (rd rs : BitVec 6) (s : State) : Result := .next (s.edy c (.mov rd rs))
/-- LD_ABSOLUTE (08 R240). -/
def execELdAbsolute (c : Nat) (spaceY : Bool) (r : BitVec 6) (addr : Half) (s : State) : Result := .next (s.edy c (.lda spaceY r addr))
/-- ST_ABSOLUTE (08 R240). -/
def execEStAbsolute (c : Nat) (spaceY : Bool) (r : BitVec 6) (addr : Half) (s : State) : Result := .next (s.edy c (.sta spaceY r addr))
/-- CONTROL_PAGE_DMA_GO (07 R221): a store to DMA_GO of the control page. -/
def execControlPageDmaGo (c : Nat) (r : BitVec 6) (s : State) : Result := .next (s.edy c (.sta true r 0x7F23))
/-- TIME_LO_READ (07 R221): a load of TIME_LO of the control page. -/
def execTimeLoRead (c : Nat) (r : BitVec 6) (s : State) : Result := .next (s.edy c (.lda true r 0x7F09))
/-- LDI (08 R241). -/
def execELdi (c : Nat) (r : BitVec 6) (v : Q23) (s : State) : Result := .next (s.edy c (.ldi r v))
/-- ADDI (08 R242). -/
def execEAddi (c : Nat) (n : Fin 4) (v : Half) (s : State) : Result := .next (s.edy c (.addi n v))
/-- CMPI (08 R242). -/
def execECmpi (c : Nat) (n : Fin 4) (v : Half) (s : State) : Result := .next (s.edy c (.cmpi n v))
/-- LDIS (08 R242). -/
def execELdis (c : Nat) (r : BitVec 6) (v : Half) (s : State) : Result := .next (s.edy c (.ldis r v))
/-- LDIF (08 R242). -/
def execELdif (c : Nat) (r : BitVec 6) (v : Half) (s : State) : Result := .next (s.edy c (.ldif r v))
/-- PADD (08 R242). -/
def execEPadd (c : Nat) (n : Fin 8) (v : Half) (s : State) : Result := .next (s.edy c (.padd n v))
/-- PMOD (08 R242). -/
def execEPmod (c : Nat) (n : Fin 8) (s : State) : Result := .next (s.edy c (.pmod n))
/-- ANDI (08 R242). -/
def execEAndi (c : Nat) (k : Fin 8) (u : Half) (s : State) : Result := .next (s.edy c (.andi k u))
/-- ORI (08 R242). -/
def execEOri (c : Nat) (k : Fin 8) (u : Half) (s : State) : Result := .next (s.edy c (.ori k u))
/-- NORM (08 R243). -/
def execENorm (c : Nat) (n : Fin 4) (k : Fin 8) (s : State) : Result := .next (s.edy c (.norm n k))
/-- LOOP (08 R245). -/
def execELoop (c : Nat) (n : BitVec 10) (last : BitVec 14) (s : State) : Result := .next (s.edy c (.loop n last))
/-- LOOPR (08 R245). -/
def execELoopr (c : Nat) (r : BitVec 6) (last : BitVec 14) (s : State) : Result := .next (s.edy c (.loopr r last))
/-- LEXIT (08 R247). -/
def execELexit (c : Nat) (s : State) : Result := .next (s.edy c (.lexit))
/-- GOTO (08 R244). -/
def execEGoto (c : Nat) (addr : BitVec 14) (s : State) : Result := .next (s.edy c (.goto addr))
/-- GOTO_COND (08 R248). -/
def execEGotoCond (c : Nat) (cond : BitVec 4) (addr : BitVec 14) (s : State) : Result := .next (s.edy c (.gotoc cond addr))
/-- LINK (08 R249). -/
def execELink (c : Nat) (addr : BitVec 14) (n : Fin 8) (s : State) : Result := .next (s.edy c (.link addr n))
/-- RET (08 R249). -/
def execERet (c : Nat) (n : Fin 8) (s : State) : Result := .next (s.edy c (.ret n))
/-- DONE (07 R225). -/
def execEDone (c : Nat) (s : State) : Result := .next (s.edy c (.done))
/-- WAITCY (07 R228). -/
def execEWaitcy (c : Nat) (ev : BitVec 3) (s : State) : Result := .next (s.edy c (.waitcy ev))
/-- POST (08 R250). -/
def execEPost (c : Nat) (r : BitVec 6) (pair : BitVec 2) (dly : Bool) (t : BitVec 3) (s : State) : Result := .next (s.edy c (.post r pair dly t))
/-- SEM_ACQUIRE (07 R230). -/
def execESemAcquire (c : Nat) (sem : Fin 64) (s : State) : Result := .next (s.edy c (.semAcquire sem))
/-- SEM_TRY (07 R230). -/
def execESemTry (c : Nat) (sem : Fin 64) (s : State) : Result := .next (s.edy c (.semTry sem))
/-- SEM_RELEASE (07 R230). -/
def execESemRelease (c : Nat) (sem : Fin 64) (s : State) : Result := .next (s.edy c (.semRelease sem))
/-- VMAX (08 R251). -/
def execEVmax (c : Nat) (n : Fin 4) (spaceY : Bool) (ptr : Fin 8) (byM : Bool) (count : BitVec 14) (s : State) : Result := .next (s.edy c (.vext false n spaceY ptr byM count))
/-- VMIN (08 R251). -/
def execEVmin (c : Nat) (n : Fin 4) (spaceY : Bool) (ptr : Fin 8) (byM : Bool) (count : BitVec 14) (s : State) : Result := .next (s.edy c (.vext true n spaceY ptr byM count))
/-- WAITCY_RETURN (07 R228). -/
def execWaitcyReturn (core : Nat) (s : State) : Result := .next (s.waitcyReturn core)
/-- POST_STALL_END (07 R229). -/
def execPostStallEnd (core : Nat) (s : State) : Result := .next (s.postStallEnd core)
/-- WINDOW_READ_RETURN (07 R220). -/
def execWindowReadReturn (core : Nat) (s : State) : Result := .next (s.windowReturn core)
/-- DMA_DESCRIPTOR_DONE (07 R221). -/
def execDmaDescriptorDone (core : Nat) (s : State) : Result := .next (s.descriptorDone core)
/-- TASK_END (07 R225). -/
def execTaskEnd (core : Nat) (s : State) : Result := .next (s.taskEnd core)
/-- RUNTIME_LIMIT (07 R226). -/
def execRuntimeLimit (core : Nat) (s : State) : Result := .next (s.runtimeLimit core)
/-- SEM_GRANT (07 R230). -/
def execSemGrant (sem : Nat) (s : State) : Result := .next (s.semGrant sem)
/-- EDY_HALT (07 R222): a write of EDY_CTRL with HALT. -/
def execEdyHalt (core : Nat) (v : Word) (s : State) : Result := .next (s.writeEdyCtrl core v)
/-- EDY_STEP (08 R252): a write of EDY_CTRL with STEP. -/
def execEdyStep (core : Nat) (v : Word) (s : State) : Result := .next (s.writeEdyCtrl core v)
/-- EDDY_LOAD (07 R232). -/
def execEddyLoad (p : Pkt) (s : State) : Result := .next (State.carry opEddyLoad p s)

end Sys2Proof.Machine
end

