-- ==== Sys2Proof/Machine/Sched.lean ====
section
/-! DEFINITION. Flows, tasks and cores as commands and events act on them (09 R253-R267). -/
namespace Sys2Proof.Machine

/-! ## FLOW_CREATE (R255) -/

/-- The flow that the parameters describe; counters are those of the flow before. -/
def flowOf (p : Pkt) (f : Flow) : Flow :=
  { exist := true, prio := BitVec.ofNat 3 (p.w 0), dlist := BitVec.ofNat 2 (p.fld 0 4 2), depth := BitVec.ofNat 7 (p.fld 0 8 7)
    periodic := p.fld 0 16 1 == 1, event := BitVec.ofNat 3 (p.fld 0 24 3), entry := BitVec.ofNat 14 (p.w 1)
    mask := BitVec.ofNat 32 (p.w 2), rtLimit := p.w 3, perDiv := p.fld 4 0 16, perPhase := p.fld 4 16 16
    perArg := BitVec.ofNat 48 (p.w 5 + 2 ^ 32 * p.fld 6 0 16), coalesced := f.coalesced, holds := f.holds }

/-- A task of the flow waits, is delayed or is in service. -/
def Flow.active (f : Flow) : Bool := !f.queue.isEmpty || decide (f.delayed > 0) || f.service.isSome

/-- FLOW_CREATE: DEPTH 0 deletes, and its other fields are not looked at. -/
def flowCreateBody (_ : Ctx) (p : Pkt) (s : State) : Verdict :=
  let n := p.unit
  let f := s.flow n
  let depth := p.fld 0 8 7
  let g := flowOf p f
  if depth = 0 then
    if !f.exist then .done [] s
    else if f.active then .fail stDenied 0
    else .done [] (State.retryHeld (s.modFlow n fun f => { coalesced := f.coalesced, holds := f.holds }))
  else if p.w 2 ≥ 2 ^ s.nCores then .fail stBadTarget 0
  else if f.exist && f.active then .fail stDenied 0
  else if depth > 64 ∨ p.fld 0 24 3 > 5 then badParam 0
  else if p.w 2 = 0 then badParam 2
  else if p.w 3 < 200 ∨ p.w 3 > 100000000 then badParam 3
  else if p.fld 4 0 16 = 0 ∨ p.fld 4 16 16 ≥ p.fld 4 0 16 then badParam 4
  else if s.reserved - f.reserve + g.reserve > 4096 then .fail stCapacity 0
  else .done [] (State.retryHeld (s.modFlow n fun _ => g))

def opFlowCreate : Op := { opcode := 0x0601, kind := 5, len := lenIs 32, body := flowCreateBody }

/-! ## TASK_POST (R257) -/

/-- TASK_POST: queued at once, or held back for room; its completion then comes when it is queued. -/
def taskPostBody (_ : Ctx) (p : Pkt) (s : State) : Verdict :=
  let n := p.unit
  if !(s.flow n).exist then .fail stNotReady 0
  else if s.flowRoom n then .done [] (s.postTask n (State.postArg p) (State.postTicks p))
  else .later (s.hold n (.other p))

def opTaskPost : Op := { opcode := 0x0602, kind := 5, len := lenIs 16, body := taskPostBody }

/-! ## CORE_PARK (R266, R267) -/

/-- A core comes under host park: at once, or when its task ends. -/
def hostPark (n : Nat) (s : State) : State :=
  let s := s.modCore n fun x => { x with hostPark := true, govPark := false }
  match (s.core n).state with
  | .idle => s.parkCore n
  | .parked => s.modCore n fun x => { x with waking := false }
  | .faulted => s
  | _ => s.modCore n fun x => { x with parkPending := true }

/-- A core returns to governor control, awake: within 2 µs when it was parked. -/
def hostRelease (n : Nat) (s : State) : State :=
  s.modCore n fun x => { x with hostPark := false, govPark := false, parkPending := false, waking := x.waking || x.state == .parked }

/-- CORE_PARK. -/
def coreParkBody (_ : Ctx) (p : Pkt) (s : State) : Verdict :=
  let n := p.unit
  if p.fld 0 0 1 = 1 then
    let s := hostPark n s
    .done [BitVec.ofNat 32 (b2n ((s.core n).state == .parked))] s
  else if !(s.core n).imageValid || (s.core n).state == .faulted then .fail stDenied 0
  else .done [] (hostRelease n s)

def opCorePark : Op :=
  { opcode := 0x0603, kind := 4, len := lenIs 4, res := fun p _ => if p.fld 0 0 1 = 1 then 4 else 0, body := coreParkBody }

namespace State

/-! ## Dispatch (R263) -/

/-- The class of a priority is admitted (R261). -/
def admitted (s : State) (p : Nat) : Bool := decide (p < 2) || (if p < 5 then s.pwr.firm else s.pwr.soft)

/-- A core is eligible for a flow. -/
def eligible (s : State) (f c : Nat) : Bool :=
  let x := s.core c
  decide (c < s.nCores) && (s.flow f).mask.getLsbD c && x.state == .idle && x.imageValid

/-- Lowest-numbered core that a test accepts. -/
def lowestCore (s : State) (p : Nat → Bool) : Option Nat := (List.range s.nCores).find? p

/-- A core is set up for a task and begins it (07 R224). -/
def beginTask (s : State) (c f : Nat) (t : Task) : State :=
  let fl := s.flow f
  let s := s.modCore c fun x => { x with
    state := .run, waitKind := 0, stall := none, posted := none, ending := false, flow := some f, coalesce := t.coalesce
    taskCycle := BitVec.ofNat 64 s.k, started := s.now
    regs := { x.regs with
      pc := fl.entry, d := updAt (updAt x.regs.d 0 fun _ => t.arg.extractLsb' 0 24) 1 fun _ => t.arg.extractLsb' 24 24
      sr := 0, mr := 0, l := List.replicate 8 0, lc := 0, stack := [] } }
  s.fetch c fl.entry.toNat

/-- The first flow of the ready lists, in their order, that has an eligible core. -/
def nextDispatch (s : State) : Option (Nat × Nat) :=
  ((List.range 8).filter s.admitted).findSome? fun p =>
    (s.sch.ready.getD p []).findSome? fun f => (s.lowestCore (s.eligible f)).map fun c => (f, c)

/-- The oldest waiting task of a flow is given to a core. -/
def giveTask (s : State) (f c : Nat) : State :=
  let fl := s.flow f
  match fl.queue with
  | [] => s
  | t :: rest =>
    let s := { s with sch := { s.sch with ready := updAt s.sch.ready fl.prio.toNat fun l => l.filter fun g => g != f } }
    let s := s.modFlow f fun x => { x with queue := rest, service := some c }
    s.beginTask c f t

/-- Dispatches until no ready flow has an eligible core, at most `fuel` of them. -/
def dispatchAll : Nat → State → State
  | 0, s => s
  | n + 1, s => match s.nextDispatch with
    | some fc => dispatchAll n (s.giveTask fc.1 fc.2)
    | none => s

/-- For a waiting flow without an eligible core, the lowest governor-parked core that may run it is woken. -/
def wakeFor (f : Nat) (s : State) : State :=
  if (s.lowestCore (s.eligible f)).isSome then s
  else
    match s.lowestCore fun c => (s.flow f).mask.getLsbD c && (s.core c).govPark && !(s.core c).hostPark with
    | some c => s.modCore c fun x => { x with govPark := false, waking := true }
    | none => s

/-- A dispatch decision (R263), then the held sources that descriptors it freed may serve (R257). -/
def dispatchDecision (s : State) : State :=
  if s.twn.noDispatch || s.sch.stopped then s
  else
    let s := dispatchAll 64 s
    let s := runAll wakeFor (((List.range 8).filter s.admitted).flatMap fun p => s.sch.ready.getD p []) s
    s.retryHeld

/-- A woken core is IDLE, or halts when a halt was asked for (R266). -/
def coreWoken (s : State) (c : Nat) : State :=
  if (s.core c).waking then
    let s := s.modCore c fun x => { x with state := .idle, waking := false, govPark := false, idleSince := s.now }
    if (s.core c).haltReq then s.enterHalt c .idle else s
  else s

/-! ## Periodic triggers and delay lists (R258-R260) -/

/-- A flow's trigger: its periodic task is queued, or the trigger merged into the one that waits. -/
def triggerFlow (n : Nat) (s : State) : State :=
  let f := s.flow n
  if f.perWait then
    s.modFlow n fun f => { f with
      queue := f.queue.map fun t => if t.periodic then { t with coalesce := satInc t.coalesce } else t
      coalesced := satInc f.coalesced }
  else s.enqueueTask n { arg := f.perArg, periodic := true }

/-- The flow is triggered in cycle k. -/
def triggersAt (f : Flow) (ev k : Nat) : Bool :=
  f.exist && f.periodic && f.event.toNat == ev && decide (((k : Int) - f.perPhase) % (max 1 f.perDiv : Nat) = 0)

/-- An event of the cycle triggers its periodic flows, in their order. -/
def periodicTrigger (s : State) (ev : Nat) : State :=
  runAll triggerFlow (indicesOf (fun f => triggersAt f ev s.k) s.sch.flows) s

/-- Delayed tasks in ascending due boundary, those of the same one in post order. -/
def insertDue (d : Delayed) : List Delayed → List Delayed
  | [] => [d]
  | x :: t => if d.due < x.due then d :: x :: t else x :: insertDue d t

/-- A delay-list boundary: every task that is due moves into its flow's queue. -/
def delayBoundary (s : State) (l : Nat) : State :=
  let items := (s.sch.dly.getD l {}).items
  let now := s.boundaryNow l
  let due := (items.filter fun d => decide (d.due ≤ now)).foldl (fun a d => insertDue d a) []
  let s := { s with sch := { s.sch with dly := updAt s.sch.dly l fun x => { x with items := x.items.filter fun d => !decide (d.due ≤ now) } } }
  runAll (fun d s => (s.modFlow d.flow fun f => { f with delayed := f.delayed - 1 }).enqueueTask d.flow { arg := d.arg }) due s

/-- A write of SCH_DLY_CFGn: ERR is cleared by a 1, and set when the tick is ignored. -/
def writeDlyTick (s : State) (l : Nat) (v : Word) : State :=
  { s with sch := { s.sch with dly := updAt s.sch.dly l fun x =>
    let t := v.extractLsb' 0 14
    let x := { x with err := x.err && !v.getLsbD 31 }
    if x.items.isEmpty && decide (1 ≤ t.toNat) && decide (t.toNat ≤ 10000) then { x with tick := t } else { x with err := true } } }

end State

/-! ## Rows -/

/-- FLOW_CREATE (R255). -/
def execFlowCreate (p : Pkt) (s : State) : Result := .next (State.carry opFlowCreate p s)
/-- TASK_POST (R257). -/
def execTaskPost (p : Pkt) (s : State) : Result := .next (State.carry opTaskPost p s)
/-- CORE_PARK (R267). -/
def execCorePark (p : Pkt) (s : State) : Result := .next (State.carry opCorePark p s)
/-- TASK_DISPATCH (R263). -/
def execTaskDispatch (s : State) : Result := .next s.dispatchDecision
/-- CORE_WOKEN (R266). -/
def execCoreWoken (core : Nat) (s : State) : Result := .next (s.coreWoken core)
/-- PERIODIC_TRIGGER (R258). -/
def execPeriodicTrigger (ev : Nat) (s : State) : Result := .next (s.periodicTrigger ev)
/-- DELAY_BOUNDARY (R260). -/
def execDelayBoundary (list : Nat) (s : State) : Result := .next (s.delayBoundary list)
/-- SCH_DLY_TICK_WRITE (R260). -/
def execSchDlyTickWrite (list : Nat) (v : Word) (s : State) : Result := .next (s.writeDlyTick list v)

end Sys2Proof.Machine
end

