-- ==== Sys2Proof/Machine/Governor.lean ====
section
/-! DEFINITION. The Weir governor and its PMBus (09 R268-R279), with POWER_BUDGET_SET (02) and POWER_STATUS. -/
namespace Sys2Proof.Machine

/-! ## PMBus (R277, R278) -/

/-- Signed fields of PWR_PMB_CFG and PWR_PMB_COEF. -/
def pmbExp (cfg : Word) : Int := signed 5 (field cfg.toNat 16 5)

/-- A number times a power of ten, as a numerator and a denominator. -/
def tenth (r : Int) : Nat × Nat := if r < 0 then (1, 10 ^ r.natAbs) else (10 ^ r.toNat, 1)

/-- The word of VOUT_COMMAND for a setpoint in mV: linear16 or direct. -/
def voutWord (cfg coef : Word) (mv : Nat) : Half :=
  if cfg.getLsbD 27 then
    let r := tenth (signed 4 (field coef.toNat 28 4))
    let m := signed 16 (field coef.toNat 0 16)
    let b := signed 12 (field coef.toNat 16 12)
    BitVec.ofInt 16 (roundDiv ((m * mv + b * 1000) * r.1) (1000 * r.2))
  else
    let n := pmbExp cfg
    if n ≤ 0 then BitVec.ofInt 16 (roundDiv ((mv * 2 ^ n.natAbs : Nat) : Int) 1000)
    else BitVec.ofInt 16 (roundDiv (mv : Int) (1000 * 2 ^ n.toNat))

/-- A linear11 value times a number, divided by `d`, rounded to nearest. -/
def lin11Mul (w : Half) (x d : Nat) : Int :=
  let e := signed 5 (field w.toNat 11 5)
  let m := signed 11 (field w.toNat 0 11)
  if e < 0 then roundDiv (m * x) (d * 2 ^ e.natAbs) else roundDiv (m * x * 2 ^ e.toNat) d

/-- A settings word for PWR_GOV within its ranges (R272). -/
def govOk (v : Word) : Bool :=
  let lo := field v.toNat 0 9
  let hi := field v.toNat 9 9
  decide (10 ≤ lo ∧ lo ≤ 400 ∧ lo + 50 ≤ hi ∧ 1 ≤ field v.toNat 18 4 ∧ 1 ≤ field v.toNat 22 4)

namespace State

/-- A transaction begins, where a regulator is fitted and the setpoint is not fixed. -/
def pmbSend (s : State) (k : PmbKind) (data : Half) : State :=
  if s.pwr.pmbCfg.getLsbD 31 && !s.pwr.fixed then s.emit (.pmbus k data) else s

/-- A new setpoint is sent. -/
def sendVout (s : State) : State :=
  if s.pwr.pmbCfg.getLsbD 31 && !s.pwr.fixed then
    ({ s with pwr := { s.pwr with sent := s.pwr.sent ++ [s.pwr.vset] } }).pmbSend .voutCommand (voutWord s.pwr.pmbCfg s.pwr.pmbCoef s.pwr.vset)
  else s

/-- A transaction succeeds. -/
def pmbOk (s : State) (k : PmbKind) (data : Half) : State :=
  let s := { s with pwr := { s.pwr with failRun := 0, retry := none } }
  match k with
  | .voutCommand =>
    match s.pwr.sent with
    | v :: t => { s with pwr := { s.pwr with ackVset := v, sent := t, bootAck := true } }
    | [] => s
  | .readIout => ({ s with pwr := { s.pwr with iout := data } }).pmbSend .statusByte 0
  | .statusByte =>
    let b : Byte := data.extractLsb' 0 8
    let s := { s with pwr := { s.pwr with statusByte := b } }
    if b = 0 then s else ({ s with pwr := { s.pwr with pmbFault := true } }).pmbSend .clearFaults 0
  | .clearFaults => s

/-- A transaction fails: it is retried once, and after that given up. A regulator that does not acknowledge at boot leaves the setpoint
fixed (R279). -/
def pmbFail (s : State) (k : PmbKind) : State :=
  let again := decide (s.pwr.retry = some k)
  let s := { s with pwr := { s.pwr with
    fails := satInc s.pwr.fails, failRun := s.pwr.failRun + 1, retry := if again then none else some k } }
  match k with
  | .voutCommand =>
    if again then { s with pwr := { s.pwr with sent := s.pwr.sent.tail, fixed := s.pwr.fixed || !s.pwr.bootAck } }
    else s.pmbSend k (voutWord s.pwr.pmbCfg s.pwr.pmbCoef (s.pwr.sent.headD s.pwr.vset))
  | .readIout => if again then s.pmbSend .statusByte 0 else s.pmbSend k 0
  | _ => if again then s else s.pmbSend k 0

/-- PMBUS_TRANSACTION_DONE (R277, R278). -/
def pmbDone (s : State) (k : PmbKind) (ok : Bool) (data : Half) : State :=
  if !s.pwr.pmbCfg.getLsbD 31 || s.pwr.fixed then s else if ok then s.pmbOk k data else s.pmbFail k

/-! ## Events (R276) -/

/-- Bytes 24 to 29 of the governor events. -/
def govMeas (s : State) : List Byte := leBytes 2 s.pwr.pMeas.toNat ++ leBytes 2 s.pwr.tMax.toNat ++ leBytes 2 s.pwr.vset

/-- CLASS_SHED. -/
def eventShed (s : State) (reason : Nat) : State :=
  s.event 0x0802 0 (leBytes 1 s.admitMask ++ leBytes 1 reason ++ leBytes 2 0 ++ s.govMeas)

/-- BUDGET_CONFLICT. -/
def eventConflict (s : State) (raised : Bool) (limits : Nat) : State :=
  s.event 0x0801 0 (leBytes 1 (b2n raised) ++ leBytes 1 limits ++ leBytes 2 0 ++ s.govMeas ++ leBytes 2 0
    ++ leBytes 4 (wrap 32 s.pwr.lastLow))

/-- PMB_FAULT: after three failures in a row the setpoint is fixed at the last one acknowledged (R278). -/
def pmbFaulted (s : State) : State :=
  if decide (s.pwr.failRun < 3) || s.pwr.fixed then s
  else ({ s with pwr := { s.pwr with pmbFault := true, fixed := true, vset := s.pwr.ackVset, sent := [], retry := none } }).eventConflict true 0

/-! ## Parking (R268) -/

/-- Cores under governor control that are awake and IDLE. -/
def idleCores (s : State) : List Nat := (List.range s.nCores).filter fun c => (s.core c).state == .idle && !(s.core c).hostPark

/-- The governor parks the highest core that was IDLE for the whole period, until none qualifies. -/
def parkIdle (since : Nat) : Nat → State → State
  | 0, s => s
  | n + 1, s =>
    let idle := s.idleCores
    match (idle.filter fun c => decide ((s.core c).idleSince ≤ since)).getLast? with
    | some c =>
      if idle.length ≥ s.pwr.idleKeep.toNat + 1 then parkIdle since n ((s.parkCore c).modCore c fun x => { x with govPark := true }) else s
    | none => s

/-! ## The rules of R271 -/

/-- The fast path, at the end of a cycle with this slack; none is unlimited. -/
def govCycle (s : State) (slack : Option Int) : State :=
  match slack with
  | none => s
  | some x =>
    let p := { s.pwr with lowSlack := some (match s.pwr.lowSlack with | some l => min l x | none => x) }
    let due := match p.lastRaise with | some t => decide (t + 50000 ≤ s.now) | none => true
    if decide (x < p.slackLow.toNat * 10) && due && !p.fixed && decide (p.vset + 5 ≤ 900) then
      ({ s with pwr := { p with vset := p.vset + 5, raised := true, lastRaise := some s.now } }).sendVout
    else { s with pwr := p }

/-- TEMPERATURE_SAMPLE: readings in 0.1 °C (R269). -/
def takeTemps (s : State) (ts : List Int) : State :=
  let ts := (ts.take 16).map (clampI (-32768) 32767)
  let top := ts.foldl (fun m t => match m with | some x => some (max x t) | none => some t) s.pwr.hot
  { s with pwr := { s.pwr with temps := mapI (fun i t => BitVec.ofInt 16 (ts.getD i (signed 16 t.toNat))) s.pwr.temps, hot := top } }

/-- The measurements of the period that ends (R269). The estimates are in 0.1 W. -/
def measure (s : State) (coreEst other : Nat) : State :=
  let core := if s.pwr.fixed || !s.pwr.pmbCfg.getLsbD 31 then (coreEst : Int) else lin11Mul s.pwr.iout s.pwr.vset 100
  let f := match s.pwr.lowSlack with
    | some x => (x, s)
    | none => let z := s.free 32; (signed 32 z.1.toNat, z.2)
  { f.2 with pwr := { f.2.pwr with
    coreP := BitVec.ofInt 16 (clampI 0 65535 core), pMeas := BitVec.ofInt 16 (clampI 0 65535 (core + other))
    tMax := match s.pwr.hot with | some t => BitVec.ofInt 16 t | none => s.pwr.tMax
    lastLow := f.1 } }

/-- The limits exceeded: power, and temperature. -/
def overPower (s : State) : Bool := decide (s.pwr.pMeas.toNat > s.pwr.pCap.toNat)
def overHeat (s : State) : Bool := decide (signed 16 s.pwr.tMax.toNat > signed 16 s.pwr.tCeil.toNat)

/-- Both stayed under their limits by the hysteresis. -/
def underLimits (s : State) : Bool :=
  decide (s.pwr.pMeas.toNat * 10 + 25 * s.pwr.pHyst.toNat < s.pwr.pCap.toNat * 10)
    && decide (signed 16 s.pwr.tMax.toNat + 5 * s.pwr.tHyst.toNat < signed 16 s.pwr.tCeil.toNat)

/-- Shedding and readmission at the end of a period. A standby follows the active head (R275). -/
def govAdmit (s : State) : State :=
  let p := s.pwr
  if s.twn.state = .standby then s
  else if s.overPower || s.overHeat then
    let reason := if s.overPower && s.overHeat then 2 else if s.overPower then 0 else 1
    if p.soft then ({ s with pwr := { p with soft := false } }).eventShed reason
    else if p.firm then ({ s with pwr := { p with firm := false } }).eventShed reason
    else s
  else if s.underLimits then
    if !p.firm then ({ s with pwr := { p with firm := true } }).eventShed 3
    else if !p.soft then ({ s with pwr := { p with soft := true } }).eventShed 3
    else s
  else s

/-- The setpoint may be lowered in this period. -/
def canLower (s : State) : Bool :=
  let p := s.pwr
  !p.fixed && !p.raised && decide (p.vset > 650) && (match p.lowSlack with | some x => decide (x > p.slackHigh.toNat * 10) | none => true)

/-- BUDGET_CONFLICT is raised or clears (R273); `shed` when both classes were shed for the whole period. -/
def govConflict (s : State) (shed lowered : Bool) : State :=
  let limits := b2n s.overPower + 2 * b2n s.overHeat
  if limits = 0 then (if s.pwr.conflict then ({ s with pwr := { s.pwr with conflict := false } }).eventConflict false 0 else s)
  else if shed && !lowered && !s.pwr.conflict then ({ s with pwr := { s.pwr with conflict := true } }).eventConflict true limits
  else s

/-- Fields of PWR_GOV (R272). -/
def setGov (p : Pwr) (v : Word) : Pwr :=
  { p with idleKeep := v.extractLsb' 28 4, period := v.extractLsb' 26 2, tHyst := v.extractLsb' 22 4, pHyst := v.extractLsb' 18 4
           slackHigh := v.extractLsb' 9 9, slackLow := v.extractLsb' 0 9 }

/-- New limits and settings take effect, and a period begins (R272, R274). -/
def nextPeriod (s : State) : State :=
  let p := s.pwr
  let p := match p.capNext with | some c => { p with pCap := c.1, tCeil := c.2 } | none => p
  let p := match p.govNext with | some v => setGov p v | none => p
  let p := { p with pmbCfg := p.pmbNext.getD p.pmbCfg, pmbCoef := p.coefNext.getD p.pmbCoef
                    capNext := none, govNext := none, pmbNext := none, coefNext := none
                    lowSlack := none, raised := false, hot := none, periodStart := s.now }
  ({ s with pwr := p }).pmbSend .readIout 0

/-- GOVERNOR_PERIOD_END (R268-R274). -/
def periodEnd (s : State) (coreEst other : Nat) : State :=
  let shed := !s.pwr.firm && !s.pwr.soft
  let s := (s.measure coreEst other).govAdmit
  let low := s.canLower
  let s := if low then ({ s with pwr := { s.pwr with vset := s.pwr.vset - 5 } }).sendVout else s
  let s := s.govConflict shed low
  (parkIdle s.pwr.periodStart 32 s).nextPeriod

/-- A write of PWR_GOV, ignored as a whole when it breaks a range (R272). -/
def writeGov (s : State) (v : Word) : State := if govOk v then { s with pwr := { s.pwr with govNext := some v } } else s

/-- The result of POWER_STATUS (R276). -/
def powerWords (s : State) : List Word :=
  let p := s.pwr
  [BitVec.ofNat 32 (p.vset + 65536 * p.pMeas.toNat), BitVec.ofNat 32 (p.coreP.toNat + 65536 * p.tMax.toNat),
   BitVec.ofNat 32 (p.pCap.toNat + 65536 * p.tCeil.toNat),
   BitVec.ofNat 32 (s.admitMask + 256 * (b2n p.fixed + 2 * b2n p.conflict + 4 * b2n p.pmbFault)),
   BitVec.ofInt 32 p.lastLow, s.schWord 0x000C, s.schWord 0x0008, 0]

/-- A word of the PWR_ block, at a multiple of 4. -/
def pwrWord (s : State) (off : Nat) : Word :=
  let p := s.pwr
  if off = 0x00 then BitVec.ofNat 32 (p.vset + 2 ^ 26 * s.admitMask + 2 ^ 29 * b2n p.pmbFault + 2 ^ 30 * b2n p.conflict + 2 ^ 31 * b2n p.fixed)
  else if off = 0x04 then p.pMeas ++ p.tMax
  else if off = 0x08 then p.tCeil ++ p.pCap
  else if off = 0x0C then BitVec.ofNat 32 (p.slackLow.toNat + 2 ^ 9 * p.slackHigh.toNat + 2 ^ 18 * p.pHyst.toNat + 2 ^ 22 * p.tHyst.toNat
    + 2 ^ 26 * p.period.toNat + 2 ^ 28 * p.idleKeep.toNat)
  else if 0x10 ≤ off ∧ off < 0x30 then let n := (off - 0x10) / 2; p.temps.getD (n + 1) 0 ++ p.temps.getD n 0
  else if off = 0x40 then p.pmbCfg
  else if off = 0x44 then p.pmbCoef
  else if off = 0x48 then p.statusByte ++ (0 : Byte) ++ p.fails
  else if off = 0x4C then p.iout.setWidth 32
  else 0

end State

/-! ## Commands -/

/-- POWER_BUDGET_SET (02 R60, 09 R274). -/
def powerBudgetBody (_ : Ctx) (p : Pkt) (s : State) : Verdict :=
  let cap := p.fld 0 0 16
  let ceil := p.fld 0 16 16
  if cap < 50 ∨ cap > 400 ∨ ceil < 600 ∨ ceil > 1100 then badParam 0
  else .done [] { s with pwr := { s.pwr with capNext := some (BitVec.ofNat 16 cap, BitVec.ofNat 16 ceil) } }

def opPowerBudgetSet : Op := { opcode := 0x0800, len := lenIs 4, body := powerBudgetBody }
def opPowerStatus : Op := { opcode := 0x0801, len := lenIs 0, res := fun _ _ => 32, body := fun _ _ s => .done s.powerWords s }

/-! ## Rows -/

/-- POWER_BUDGET_SET (R274). -/
def execPowerBudgetSet (p : Pkt) (s : State) : Result := .next (State.carry opPowerBudgetSet p s)
/-- POWER_STATUS (R276). -/
def execPowerStatus (p : Pkt) (s : State) : Result := .next (State.carry opPowerStatus p s)
/-- GOVERNOR_PERIOD_END (R271). -/
def execGovernorPeriodEnd (coreEst otherPower : Nat) (s : State) : Result := .next (s.periodEnd coreEst otherPower)
/-- TEMPERATURE_SAMPLE (R269). -/
def execTemperatureSample (temps : List Int) (s : State) : Result := .next (s.takeTemps temps)
/-- PMBUS_TRANSACTION_DONE (R277). -/
def execPmbusTransactionDone (kind : PmbKind) (ok : Bool) (data : Half) (s : State) : Result := .next (s.pmbDone kind ok data)
/-- PMB_FAULT (R278). -/
def execPmbFault (s : State) : Result := .next s.pmbFaulted
/-- PWR_GOV_WRITE (R272). -/
def execPwrGovWrite (v : Word) (s : State) : Result := .next (s.writeGov v)

end Sys2Proof.Machine
end

