-- ==== Sys2Proof/Machine/Acq.lean ====
section
/-! DEFINITION. Mark inputs, capture, arming, reading and copying of records: the commands and events of the acquisition engine
(12 R341-R363), and the ACQ_ registers as they read. -/
namespace Sys2Proof.Machine

/-! ## ACQ_CONFIGURE (R361) -/

def acqPart (p : Pkt) : Nat := p.fld 0 0 2

/-- Length rule, by part. -/
def acqConfigLen (p : Pkt) : Option Half :=
  if p.own < 4 then some noWord
  else match acqPart p with
    | 0 => if p.own = 64 then none else some noWord
    | 1 => if p.own < 16 then some noWord else if p.own = 16 + 4 * p.w 2 then none else some 2
    | 2 => if p.own = 104 then none else some noWord
    | _ => none

/-- The first word of PART 0 out of range. -/
def settingsFault (full : Bool) (p : Pkt) : Option Nat :=
  if p.w 1 < 2 ∨ p.w 1 > 16777216 then some 1
  else if p.fld 2 0 7 > 100 then some 2
  else if full = false ∧ p.fld 3 0 13 > 4096 then some 3
  else if p.w 4 % 4096 ≠ 0 then some 4
  else if p.fld 6 0 16 = 0 then some 6
  else if p.fld 7 7 1 = 1 ∧ p.fld 7 0 7 > 63 then some 7
  else if p.w 8 % 4096 ≠ 0 then some 8
  else if p.w 10 % 65536 ≠ 0 then some 10
  else none

/-- A signal word names a signal (R343). -/
def signalOk (w : Nat) : Bool :=
  match field w 28 4 with
  | 0 | 1 | 2 => true
  | 3 => decide (field w 0 2 ≤ 2)
  | 4 => decide (1 ≤ field w 8 16 ∧ field w 8 16 ≤ 20000 ∧ field w 4 2 ≠ 0)
  | _ => false

/-- The first word of PART 1 out of range. -/
def signalsFault (p : Pkt) : Option Nat :=
  if p.fld 1 0 12 + p.w 2 > 4096 then some 1
  else if p.w 2 = 0 ∨ p.w 2 > 1016 then some 2
  else ((List.range (p.w 2)).find? fun i => !signalOk (p.w (4 + i))).map (· + 4)

/-- The first word of a condition block out of range (log entry 61). -/
def condFault (p : Pkt) (c : Nat) : Option Nat :=
  let b := 2 + 6 * c
  let kind := p.fld b 0 3
  if kind > 5 ∨ ((kind = 1 ∨ kind = 2) ∧ p.fld b 4 2 = 0) then some b
  else if kind ≥ 2 ∧ p.fld (b + 3) 0 16 = 0 then some (b + 3)
  else none

/-- ACQ_CONFIGURE. -/
def acqConfigBody (_ : Ctx) (p : Pkt) (s : State) : Verdict :=
  let a := s.acq
  if a.state ≠ .idle ∧ a.state ≠ .done then .fail stDenied 0
  else
    match acqPart p with
    | 0 => match settingsFault s.full p with
      | some i => badParam i
      | none => .done [] { s with acq := { a with settings := some (p.words.take 16), slots := [], areaPos := 0, blocks := [], copyOff := 0 } }
    | 1 => match signalsFault p with
      | some i => badParam i
      | none =>
        let old : Cells 32 := if p.fld 0 8 1 = 1 then [] else a.signals
        .done [] { s with acq := { a with signals := cellPuts old (p.fld 1 0 12) 1 ((p.words.drop 4).take (p.w 2)) } }
    | 2 => match [0, 1, 2, 3].findSome? (condFault p) with
      | some i => badParam i
      | none => .done [] { s with acq := { a with trigger := p.words.take 26, conds := List.replicate 4 {} } }
    | _ => badParam 0

def opAcqConfigure : Op := { opcode := 0x0500, len := acqConfigLen, body := acqConfigBody }

/-! ## Admission (R356) -/

/-- A sum of fractions a / b, as one. -/
def addFrac (x y : Nat × Nat) : Nat × Nat := (x.1 * y.2 + y.1 * x.2, x.2 * y.2)

/-- A list holds one of its elements twice. -/
def hasDup {α : Type} [BEq α] : List α → Bool
  | [] => false
  | x :: t => t.contains x || hasDup t

namespace State

/-- Rate of the configuration in bytes per second, as a fraction. -/
def acqRate (s : State) : Nat × Nat :=
  let a := s.acq
  let frame := frameLen (a.sigs fun k => k == 1 || k == 2).length
  let sd := (a.sigs (· == 3)).map fun x => (2 * 1000000000, max 1 (s.sdPeriod (field x.2.toNat 16 4)))
  let mk := ((a.sigs (· == 4)).map fun x => 16000 * field x.2.toNat 8 16).foldl (· + ·) 0
  (sd.foldl addFrac (frame * 1000000000, s.tmb.tc * a.div)) |> addFrac (mk, 1)

/-- Bytes of one slot (R348). -/
def slotBytes (s : State) : Nat :=
  let a := s.acq
  let r : QRec := {
    num := 0, slot := 0, tNs := 0, tFrac := 0, cond := 0, len := a.len, p := s.acqP, nPre := a.nPre
    nSig := (a.sigs fun k => k == 1 || k == 2).length
    sdLanes := (a.sigs (· == 3)).map fun x => (x.1, s.sdPeriod (field x.2.toNat 16 4))
    markCap := s.markCap, gapMax := if s.full then 0 else field (a.set 3) 0 13 }
  roundUp r.bytes 4096

/-- The DRAM channel of the region: C, or on the VHV-1281 the one that CHANNEL names. -/
def acqChannel (s : State) : Nat := if s.full then 2 else field (s.acq.set 2) 17 1

/-- The sigma-delta inputs of a port are set up. -/
def sdSetUp (s : State) (port : Nat) : Bool := decide (port < s.nLocal) && decide ((s.lport port).func ≠ 0) && decide (s.sdPeriod port > 0)

/-- An arm is inconsistent (R362). -/
def armInvalid (s : State) : Bool :=
  let a := s.acq
  let sigs := a.sigs (· != 0)
  let conds := [0, 1, 2, 3].filter fun c => a.condKind c != 0
  let marks := (a.sigs (· == 4)).map fun x => field x.2.toNat 0 4
  let counterAt (w : Word) : Nat := 4 * field w.toNat 0 21
  (sigs.isEmpty && !conds.any fun c => a.condKind c != 1)
    || hasDup (sigs.map Prod.snd) || hasDup marks
    || (conds.any fun c => a.condKind c == 1 &&
          !(let k := sigKind (cellGet a.signals (field (a.cond c 1) 0 12)); k == 1 || k == 2 || k == 3))
    || ((a.sigs (· == 1)).any fun x => decide (field x.2.toNat 16 8 ≥ s.nAxes))
    || ((a.sigs (· == 2)).any fun x => decide (counterAt x.2 < 0x200000 ∨ counterAt x.2 ≥ 0x500000))
    || (match a.ringOf with | some n => (s.ring n).type != 3 | none => false)

/-- Why an arm is refused: status (R362). -/
def armFault (s : State) : Option (Half × Half) :=
  let a := s.acq
  let rate := s.acqRate
  if a.state ≠ .idle ∧ a.state ≠ .done then some (stDenied, 0)
  else if a.settings.isNone || (a.sigs (· == 3)).any fun x => !s.sdSetUp (field x.2.toNat 16 4) then some (stNotReady, 0)
  else if s.armInvalid then some (stBadParam, noWord)
  else if s.full && decide (rate.1 > 3200000000 * rate.2) then some (stCapacity, 0)
  else if a.set 4 + 2 ^ 32 * a.set 5 + a.nSlots * s.slotBytes > Config.dramBytes s.acqChannel then some (stCapacity, 0)
  else none

/-- Served time in 2^-16 ns. -/
def nowFine (s : State) : Nat := s.now * 65536 + s.tmb.served.frac.toNat / 65536

/-- An arm reaches its D_X (R353). -/
def commitAcqArm (p : Pkt) (s : State) : State :=
  match s.armFault with
  | some (st, d) => s.reply p st d []
  | none =>
    let rate := s.acqRate
    let a := s.acq
    let s := { s with
      acq := { a with
        loop := p.fld 0 4 1 == 1, nRec := p.w 1, taken := 0, recNo := 0, armedAt := s.now, lastT := none, ignoredRec := 0
        conds := List.replicate 4 {}, frames := [], sds := [], edges := [], cur := none, slots := [], copyOff := 0
        rate := if s.full then BitVec.ofNat 16 (satNat 16 (ceilDiv rate.1 (rate.2 * 1000000))) else a.rate }
      spw := { s.spw with acqSettings := a.settings } }
    (s.fillFrom (s.nextFrameAfter s.now)).finish p []

end State

/-- ACQ_ARM. -/
def acqArmBody (c : Ctx) (p : Pkt) (s : State) : Verdict :=
  match p.fld 0 0 2 with
  | 0 => match s.armFault with
    | some (st, d) => .fail st d
    | none => .later (s.enqueueDx 0x0501 p (s.dxDue c))
  | 1 => .done [] s.disarm
  | 2 => .done [] (s.fireEvent 5 s.nowFine fun _ => true)
  | _ => badParam 0

def opAcqArm : Op := { opcode := 0x0501, len := lenIs 8, body := acqArmBody }

/-! ## ACQ_READ (R360) -/

namespace State

/-- A slot is freed; an engine that waited for one fills again from the next sample instant (R353). -/
def freeRecord (s : State) (num : Nat) : State :=
  let s := { s with acq := { s.acq with slots := s.acq.slots.filter fun r => r.num != num } }
  if s.acq.state = .waitSlot then s.fillFrom (s.nextFrameAfter s.now) else s

end State

/-- ACQ_READ. -/
def acqReadBody (_ : Ctx) (p : Pkt) (s : State) : Verdict :=
  let off := p.w 1
  let len := p.w 2
  let rel := p.fld 3 0 1 = 1
  match s.acq.slots.find? fun r => r.num == p.w 0 with
  | none => if (match s.acq.cur with | some r => r.num == p.w 0 | none => false) then .fail stNotReady 0 else badParam 0
  | some r =>
    if off % 8 ≠ 0 ∨ off > r.bytes then badParam 1
    else if len % 8 ≠ 0 ∨ off + len > r.bytes then badParam 2
    else if rel ∧ s.acq.ringOf.isSome = true then badParam 3
    else .done (((wordsOf r.image).drop (off / 4)).take (len / 4)) (if rel then s.freeRecord r.num else s)

def opAcqRead : Op := { opcode := 0x0502, len := lenIs 16, res := fun p _ => p.w 2, body := acqReadBody }

namespace State

/-! ## Capture (R344-R346) -/

/-- The value of a cycle-lane signal, and whether its source is absent (R344). -/
def frameValue (s : State) (w : Word) : Half × Bool :=
  if sigKind w = 1 then
    let i := field w.toNat 16 8
    if (s.slotOf i).isNone then (0, true) else (halfAt (s.axis i).live.words (2 * field w.toNat 0 6), false)
  else
    let v := s.counterWord (4 * field w.toNat 0 21)
    (if w.getLsbD 21 then v.extractLsb' 16 16 else v.extractLsb' 0 16, false)

/-- Conditions see a sample of each of some signals, taken at an instant. -/
def levelAll (a : Acq) (period t : Nat) (xs : List (Nat × Half)) : Acq × List (Nat × Nat) :=
  xs.foldl (fun r x => let y := levelSample r.1 x.1 period x.2 t; (y.1, r.2 ++ y.2)) (a, [])

/-- The frame of the present cycle is captured at D_X (R344), and the conditions on it are evaluated (R350). -/
def captureFrame (s : State) : State :=
  if !(s.acq.armed && decide (s.k % s.acq.div = 0)) then s
  else
    let inst := s.cycleNs s.k + s.sampleOffset
    let sigs := s.acq.sigs fun k => k == 1 || k == 2
    let vals := sigs.map fun x => (x.1, s.frameValue x.2)
    let capt := s.captures inst
    let z := if capt then s.sampleLost else (false, s)
    let s := z.2
    let f : QFrame := { cycle := s.k, inst := inst, vals := vals.map fun x => x.2.1, absent := vals.any fun x => x.2.2, lost := z.1 }
    let s := if capt then { s with acq := { s.acq with frames := s.acq.frames ++ [f] } } else s
    let lv := if z.1 then (s.acq, []) else levelAll s.acq s.acqP inst (vals.map fun x => (x.1, x.2.1))
    (({ s with acq := lv.1 }).fireConds lv.2).pruneSamples inst

/-- ACQ_SD_SAMPLE: a decimated output of a sigma-delta channel (R345, 11 R318, R319). -/
def sdSample (s : State) (port ch : Nat) (v : Half) (stamp : Nat) : State :=
  if port ≥ s.nLocal ∨ ch ≥ 3 then s
  else
    let s := s.modLPort port fun p => { p with
      sdFree := updAt p.sdFree ch fun _ => v
      sdStuck := if p.sdFree.getD ch 0 = v then p.sdStuck else p.sdStuck &&& ~~~(BitVec.ofNat 3 (2 ^ ch)) }
    match (s.acq.sigs (· == 3)).find? fun x => field x.2.toNat 16 4 == port && field x.2.toNat 0 2 == ch with
    | none => s
    | some x =>
      if !s.acq.armed then s
      else
        let capt := s.captures stamp
        let z := if capt then s.sampleLost else (false, s)
        let s := z.2
        let q : QSd := { signal := x.1, inst := stamp, val := v, lost := z.1 }
        let s := if capt then { s with acq := { s.acq with sds := s.acq.sds ++ [q] } } else s
        let lv := if z.1 then (s.acq, []) else levelSample s.acq x.1 (s.sdPeriod port) v stamp
        ({ s with acq := lv.1 }).fireConds lv.2

/-- The filtered count of a local axis at an instant, where its port has one (10 R298). -/
def localCount (s : State) (t i : Nat) : Option Word :=
  match s.localPort i with
  | some n =>
    let p := s.lport n
    if p.serial || p.func == 0 then none
    else if p.func = 2 then some (BitVec.ofInt 32 (p.step.micro (p.fld 1 16 4) t))
    else some p.fbk.filt
  | none => none

/-- MARK_EDGE: stamped, or counted as too close to the edge before (R341, R342). -/
def markEdge (s : State) (input : Nat) (rising : Bool) (ns : Nat) (frac : Half) : State :=
  if input ≥ 16 then s
  else
    let t := ns * 65536 + frac.toNat
    let m := s.acq.marks.getD input {}
    let tooClose := match m.prev with | some p => decide (t < p + 50 * 65536) | none => false
    let set (f : MarkIn → MarkIn) (a : Acq) : Acq := { a with marks := updAt a.marks input f }
    if tooClose then { s with acq := set (fun m => { m with prev := some t }) { s.acq with close := satInc s.acq.close } }
    else
      let s := { s with acq := set (fun m => {
        ns := BitVec.ofNat 64 ns, frac := frac, rising := rising, count := m.count + 1, prev := some t }) s.acq }
      let capt := s.acq.wantsEdge input rising && s.captures ns
      let z := if capt then s.sampleLost else (false, s)
      let s := z.2
      let e : QEdge := { ns := ns, frac := frac, input := input, rising := rising, lost := z.1 }
      let s := if capt then { s with acq := { s.acq with edges := s.acq.edges ++ [e] } } else s
      let s := s.acqMark input t rising
      runAll (offerMark ns frac input rising (s.localCount ns)) (List.range s.nAxes) s

/-! ## The engine's own events -/

/-- ACQ_READY: the pre-trigger part is captured (R352, R353). -/
def acqReady (s : State) : State :=
  if s.acq.state = .filling ∧ s.acq.tA.isSome = true ∧ s.acq.readyAt ≤ s.now then { s with acq := { s.acq with state := .ready } } else s

/-- ACQ_HOLD_EXPIRY: an event condition has been true for HOLD cycles (R351). -/
def holdExpiry (s : State) (c : Nat) : State :=
  { s with acq := { s.acq with conds := updAt s.acq.conds c fun x =>
    match x.trueTill with
    | some t => if t ≤ s.now then { x with isTrue := false, trueTill := none } else x
    | none => x } }

/-- ACQ_RECORD_DONE: the window has closed and its last sample is stored (R353). -/
def recordDone (s : State) : State :=
  match s.acq.cur with
  | none => s
  | some r =>
    if s.acq.state = .recording ∧ r.endFine ≤ s.nowFine ∧ (s.acq.frames.filter fun f => r.holds (f.inst * 65536)).length = r.len then
      (s.closeRecord r).afterRecord r
    else s

/-- Two byte ranges of the host area meet. -/
def rangesMeet (a b : Nat × Nat) : Bool := decide (a.1 < b.1 + b.2) && decide (b.1 < a.1 + a.2)

/-- The record that is copied next: the lowest number held. -/
def nextCopy (a : Acq) : Option QRec :=
  a.slots.foldl (fun m r => match m with | some x => if r.num < x.num then some r else m | none => some r) none

/-- ACQ_RING_BLOCK: the next block of a completed record goes to the host, where its ring and the area have room (R359). -/
def ringBlock (s : State) : State :=
  match s.acq.ringOf, nextCopy s.acq with
  | some n, some r =>
    let g := s.ring n
    if !(g.room 3) then s
    else
      let a := s.acq
      let size := a.set 10
      let len := min 65536 (r.bytes - a.copyOff)
      let pos := if a.areaPos + len > size then 0 else a.areaPos
      let used := a.blocks.drop (a.blocks.length - g.fill)
      if len > size ∨ used.any (rangesMeet (pos, len)) = true then s
      else
        let last := decide (a.copyOff + len = r.bytes)
        let addr := a.set 8 + 2 ^ 32 * a.set 9 + pos
        let phase := decide (g.tail.toNat < g.size)
        let words : List Word := [BitVec.ofNat 32 r.num, BitVec.ofNat 32 a.copyOff, BitVec.ofNat 32 len,
          BitVec.ofNat 32 (2 ^ 31 * b2n phase + 2 ^ 30 * b2n last)] ++ leWords 2 addr ++ List.replicate 10 0
        let s := (s.emit (.acqBlock r.num a.copyOff (BitVec.ofNat 64 addr))).emit (.acqEntry n (g.tail.toNat % g.size) words)
        let s := ({ s with acq := { s.acq with
          copyOff := if last then 0 else a.copyOff + len, areaPos := pos + len, blocks := used ++ [(pos, len)] } }).advanceTail n
        if last then s.freeRecord r.num else s
  | _, _ => s

/-! ## ACQ_ registers -/

def QState.code : QState → Nat
  | .idle => 0
  | .filling => 1
  | .ready => 2
  | .recording => 3
  | .waitSlot => 4
  | .done => 5

/-- A word of the ACQ_ block, at a multiple of 4. -/
def acqWord (s : State) (off : Nat) : Word :=
  let a := s.acq
  if off = 0x00 then BitVec.ofNat 32 (a.slots.length % 65536 + 2 ^ 28 * b2n a.viewEn + 2 ^ 29 * QState.code a.state)
  else if off = 0x04 then a.rate.setWidth 32
  else if off = 0x08 then a.ignored ++ a.busy
  else if off = 0x0C then a.close ++ a.excess
  else if off = 0x10 then a.dead.extractLsb' 0 32
  else if off = 0x14 then a.dead.extractLsb' 32 32
  else if off = 0x18 then a.lost
  else if off = 0x40 then a.view0
  else if off = 0x44 then a.view1
  else if 0x100 ≤ off ∧ off < 0x200 then
    let m := a.marks.getD ((off - 0x100) / 16) {}
    match off % 16 / 4 with
    | 0 => m.ns.extractLsb' 0 32
    | 1 => m.ns.extractLsb' 32 32
    | 2 => BitVec.ofNat 32 (m.frac.toNat + 65536 * b2n m.rising)
    | _ => m.count
  else 0

end State

/-! ## Rows -/

/-- ACQ_CONFIGURE (R361). -/
def execAcqConfigure (p : Pkt) (s : State) : Result := .next (State.carry opAcqConfigure p s)
/-- ACQ_ARM (R362). -/
def execAcqArm (p : Pkt) (s : State) : Result := .next (State.carry opAcqArm p s)
/-- ACQ_READ (R360). -/
def execAcqRead (p : Pkt) (s : State) : Result := .next (State.carry opAcqRead p s)
/-- MARK_EDGE (R341). -/
def execMarkEdge (input : Nat) (rising : Bool) (ns : Nat) (frac : Half) (s : State) : Result := .next (s.markEdge input rising ns frac)
/-- ACQ_SD_SAMPLE (R345). -/
def execAcqSdSample (port ch : Nat) (v : Half) (stamp : Nat) (s : State) : Result := .next (s.sdSample port ch v stamp)
/-- ACQ_READY (R353). -/
def execAcqReady (s : State) : Result := .next s.acqReady
/-- ACQ_HOLD_EXPIRY (R351). -/
def execAcqHoldExpiry (cond : Nat) (s : State) : Result := .next (s.holdExpiry cond)
/-- ACQ_RECORD_DONE (R353). -/
def execAcqRecordDone (s : State) : Result := .next s.recordDone
/-- ACQ_RING_BLOCK (R359). -/
def execAcqRingBlock (s : State) : Result := .next s.ringBlock

end Sys2Proof.Machine
end

