-- ==== Sys2Proof/Machine/Twin.lean ====
section
/-! DEFINITION. Twin operation: states, claims, cycle records, failover, joining, switchover, self-test and the TWN_ registers
(13 R364-R387). -/
namespace Sys2Proof.Machine

/-- State codes (R367). -/
def TState.code : TState → Nat
  | .single => 0
  | .joining => 1
  | .active => 2
  | .standby => 3
  | .alone => 4
  | .outOfStep => 5
  | .isolated => 6

/-- A pair's head sends cycle records. -/
def TState.paired (t : TState) : Bool := t != .single

namespace State

/-! ## Claims (R368) -/

/-- What the claim adds to CLAIM_BASE in a cycle; none when the C-frames are IDLE or not sent. -/
def claimOff (s : State) (k : Nat) : Option Nat :=
  match s.twn.claims.find? fun c => c.1 == k with
  | some c => some c.2
  | none =>
    match s.twn.state with
    | .single | .active | .alone => some (if s.twn.promoted then 2 else 1)
    | .standby => some 0
    | _ => none

/-- The claim in this head's C-frames of a cycle on its twin rings; an IDLE C-frame carries claim 0. -/
def claimAt (s : State) (k : Nat) : Half :=
  match s.claimOff k with
  | some d => s.net.claimBase + BitVec.ofNat 16 d
  | none => 0

/-! ## The partner -/

/-- The Oxbow link is up (R365). -/
def oxbowUp (s : State) : Bool := s.twn.lane0 || s.twn.lane1

/-- The partner's state is known. -/
def peerKnown (s : State) : Bool := s.oxbowUp && s.twn.peer.isSome

/-! ## Changes of state (R387) -/

/-- A head enters a state: TWIN_ROLE, with IRQ_CAUSE.TWIN_ROLE. -/
def setTwin (s : State) (new : TState) (reason : Nat) : State :=
  let old := s.twn.state
  if new = old then s
  else
    let s := { s with twn := { s.twn with state := new } }
    (s.event 0x0701 0 (leBytes 1 new.code ++ leBytes 1 old.code ++ leBytes 1 reason ++ leBytes 1 0 ++ leBytes 2 (s.claimAt s.k).toNat
      ++ leBytes 2 (if s.peerKnown then s.twn.peerClaim.toNat else 0xFFFF) ++ leBytes 8 s.k)).raiseCause 2

/-- TWIN_DIVERGED. -/
def eventDiverged (s : State) (cause first : Nat) (own peer : Word) : State :=
  s.event 0x0702 0 (leBytes 1 cause ++ leBytes 1 0 ++ leBytes 2 s.twn.mismatchRun ++ leBytes 8 first ++ leBytes 4 own.toNat ++ leBytes 4 peer.toNat)

/-- Ports of twin rings. -/
def twinPorts (s : State) : List Nat := (List.range s.nPorts).filter fun i => (s.mport i).topo == 2 && (s.mport i).state != .dark

/-- The links of the twin rings go down (R367). -/
def twinLinksDown (s : State) : State := runAll (fun i s => s.linkDown i) s.twinPorts s

/-- A join begins at this head: its rings are turned at its end, unless it was in step before (R379, R380). -/
def beginJoin (s : State) (reason : Nat) : State :=
  let fresh := s.twn.state != .outOfStep
  let s := if fresh then runAll (fun i s => s.modMPort i fun p => { p with turned := true }) s.twinPorts s else s
  ({ s with twn := { s.twn with phase := 1, entry := none, marked := 0 } }).setTwin .joining reason

/-- A standby leaves the pair; with AUTO_RESYNC it joins again at once (R380). -/
def outOfStep (s : State) : State :=
  let s := s.setTwin .outOfStep 5
  if s.twn.autoResync then s.beginJoin 5 else s

/-- The active head goes on without its partner. -/
def goAlone (s : State) (reason : Nat) : State := s.setTwin .alone reason

/-- The node at the partner's end of a twin ring. -/
def endNode (s : State) (port : Nat) : Option Nat :=
  if s.twn.sideB then (s.mport port).pos.head? else (s.mport port).pos.getLast?

/-- The end node of a ring is told to loop, or to forward again (R379). -/
def sendEnd (loop : Bool) (s : State) (port : Nat) : State :=
  match s.endNode port with
  | some n => match (s.node n).cfg with
    | some c => s.sendCfg n { c with endLoop := loop }
    | none => s
  | none => s

/-- The active head keeps every ring turned at the joining head's end (R379). -/
def serveJoin (s : State) : State :=
  let s := { s with twn := { s.twn with phase := 1, entry := none, marked := 0 } }
  runAll (fun i s => if (s.mport i).state = .run ∧ (s.mport i).turned = false then sendEnd true s i else s) s.twinPorts s

/-! ## The end of a cycle (R370, R371, R376, R383) -/

/-- Live nodes of a twin ring with their slots of this cycle. -/
def ringSlots (s : State) (port : Nat) : List FSlot := (s.liveNodes port).filterMap fun n => (s.node n).slotNow

/-- APPLIED as a frame from this head's side shows it (05 R135). -/
def ownApplied (s : State) : BitVec 2 := if s.twn.sideB then 2 else 1
def peerApplied (s : State) : BitVec 2 := if s.twn.sideB then 1 else 2

/-- What the F-slots of this cycle show. -/
def noteApplied (s : State) : State :=
  let rings := s.twinPorts.filter fun i => (s.mport i).state == .run && !(s.liveNodes i).isEmpty
  let own := rings.any fun i => (s.ringSlots i).any fun x => x.applied == s.ownApplied
  let peer := !rings.isEmpty && rings.all fun i => !(s.ringSlots i).isEmpty && (s.ringSlots i).all fun x => x.applied == s.peerApplied
  let any := rings.any fun i => !(s.ringSlots i).isEmpty
  { s with twn := { s.twn with
    appliedOwn := own, appliedPeer := peer
    noValidRun := if any || rings.isEmpty then 0 else s.twn.noValidRun + 1 } }

/-- LINK_LOSS_CYCLES of the twin rings: the largest. -/
def twinLoss (s : State) : Nat := (s.twinPorts.map fun i => (s.mport i).linkLoss.toNat).foldl max 1

/-- A former active head that its partner has overtaken (R376). -/
def isolate (s : State) : State := (s.twinLinksDown).setTwin .isolated 4

/-- A head that no twin ring serves any more is ISOLATED (R376). -/
def checkIsolated (s : State) : State :=
  let active := s.twn.state == .active || s.twn.state == .alone
  if active && (decide (s.twn.noValidRun ≥ s.twinLoss) || (decide (s.twn.missing ≥ s.twn.takeover) && s.twn.appliedPeer)) then s.isolate
  else s

/-- IN_STEP (R383). -/
def inStep (s : State) : Bool := (s.twn.state == .active || s.twn.state == .standby) && s.twn.lastMatch

/-- Highest die temperature as the health word gives it. -/
def healthTemp (s : State) : Nat :=
  let t := (s.pwr.temps.map fun x => signed 16 x.toNat).foldl max (-400)
  (clampI 0 255 (t / 10 + 40)).toNat

/-- The health word (R383). -/
def healthWord (s : State) : Word :=
  let t := s.twn
  let timeOk := match t.state with
    | .standby => (match s.tmb.partnerGap with | some g => decide (g.natAbs ≤ 2 * 2 ^ 32) | none => false)
    | _ => !s.tmb.holdover
  let bit (b : Bool) (i : Nat) : Nat := b2n b * 2 ^ i
  BitVec.ofNat 32 (s.k % 4 * 2 ^ 30 + t.state.code * 2 ^ 27 + bit s.inStep 26 + bit t.lane0 25 + bit t.lane1 24 + bit timeOk 23
    + bit t.eccUnc 22 + bit t.marchFail 21 + bit t.spareFail 20 + bit t.eddyFail 19 + bit (s.eddy.cores.any fun c => c.state == .faulted) 18
    + bit s.pwr.conflict 17 + bit s.pwr.pmbFault 16 + bit (s.twinPorts.any fun i => !(s.mport i).link) 15
    + bit (s.axes.any fun a => a.cnt.now &&& flagDeadlineMiss != 0) 14 + s.healthTemp)

/-- At D_X: the CRC of the cycle's C-slot payloads, the claim and the health word are fixed, and a paired head sends its record. -/
def twinDx (s : State) (crc : Word) : State :=
  let s := s.noteApplied.checkIsolated
  let h := s.healthWord
  let claim := s.claimAt s.k
  let s := { s with twn := { s.twn with
    ownCrc := crc, ownCrcCycle := s.k, ownClaim := claim, health := h
    claims := s.twn.claims.filter fun c => decide (c.1 > s.k)
    noDispatch := match s.twn.entry with
      | some c => s.twn.noDispatch || (s.twn.state == TState.alone && decide (s.k + 1 ≥ c))
      | none => false } }
  if s.twn.state.paired then
    let r : CycleRec := { cycle := BitVec.ofNat 32 s.k, health := h, crc := crc, claim := claim, time := BitVec.ofNat 64 s.now, acks := s.twn.acks }
    ({ s with twn := { s.twn with acks := [] } }).emit (.oxbow r)
  else s

/-! ## The partner's records (R369-R374) -/

/-- The acknowledgements that a record carries (R373). -/
def takeAcks (acks : List (Nat × Bool)) (l : List TFwd) : List TFwd :=
  l.map fun e => match acks.find? fun a => a.1 == e.seq with
    | some a => if e.mine then { e with acked := some a.2 } else e
    | none => e

/-- The CRCs of one cycle are compared (R371). -/
def compareCrc (s : State) (r : CycleRec) : State :=
  let t := s.twn
  if BitVec.ofNat 32 t.ownCrcCycle ≠ r.cycle then s
  else if t.ownCrc = r.crc then { s with twn := { t with mismatchRun := 0, lastMatch := true, lastBoth := BitVec.ofNat 64 t.ownCrcCycle } }
  else
    let s := { s with twn := { t with
      lastMatch := false, lastBoth := BitVec.ofNat 64 t.ownCrcCycle, mismatchRun := t.mismatchRun + 1
      mismatchTotal := t.mismatchTotal + 1, mismatchCnt := satInc t.mismatchCnt
      misFirst := if t.mismatchRun = 0 then (t.ownCrcCycle, t.ownCrc, r.crc) else t.misFirst } }
    if s.twn.state = .standby ∧ s.twn.mismatchRun ≥ 3 then
      (s.eventDiverged 0 s.twn.misFirst.1 s.twn.misFirst.2.1 s.twn.misFirst.2.2).outOfStep
    else s

/-- CYCLE_RECORD_RECEIVED. The gap to the partner's time that the exchange gives is a free value (06 R189; log entry 62). -/
def cycleRecord (s : State) (r : CycleRec) : State :=
  if !(s.twn.state.paired && s.oxbowUp) then s
  else
    let peer := field r.health.toNat 27 3
    let f := s.free 64
    let s := f.2
    let follows := s.twn.state == .standby || s.twn.state == .joining
    let s := { s with
      tmb := { s.tmb with partnerGap := if follows then some (signed 64 f.1.toNat) else none }
      twn := { s.twn with
        missing := 0, peerHealth := r.health, peerState := peer, peerCrc := r.crc, peerClaim := r.claim
        fwds := takeAcks r.acks s.twn.fwds } }
    let s := s.compareCrc r
    let s := if s.twn.state = .standby ∧ r.claim = s.twn.ownClaim then s.outOfStep else s
    match s.twn.state with
    | .active => if peer = 0 ∨ peer = 1 ∨ peer = 5 ∨ peer = 6 then s.goAlone 5 else s
    | .alone =>
      if peer = 1 ∧ s.twn.phase = 0 then s.serveJoin
      else if peer ≠ 1 ∧ peer ≠ 3 ∧ s.twn.phase ≠ 0 then { s with twn := { s.twn with phase := 0, entry := none, noDispatch := false } }
      else s
    | _ => s

/-- CYCLE_RECORD_MISSING: at C(k) + D_X + 2 000 ns (R370, R375, R376). -/
def recordMissing (s : State) : State :=
  if !s.twn.state.paired then s
  else
    let t := s.twn
    let s := { s with twn := { t with
      missing := t.missing + 1, missTotal := t.missTotal + 1, missCnt := satInc t.missCnt
      missFirst := if t.missing = 0 then (s.k, t.ownCrc) else t.missFirst } }
    match s.twn.state with
    | .standby =>
      if s.twn.missing ≥ s.twn.takeover ∧ s.twn.appliedOwn = true then
        ({ s with twn := { s.twn with promoted := true, claims := [] }, tmb := { s.tmb with partnerGap := none } }).goAlone 1
      else s
    | .outOfStep => s.twinLinksDown
    | _ => s.checkIsolated

/-- TWIN_HOLD_TIMEOUT: 64 records are missing (R374). -/
def holdTimeout (s : State) : State :=
  if s.twn.missing < 64 then s
  else
    match s.twn.state with
    | .active => s.goAlone 5
    | .standby => (s.eventDiverged 3 s.twn.missFirst.1 s.twn.missFirst.2 0).outOfStep
    | _ => s

/-! ## Lanes (R365) -/

/-- An Oxbow lane goes down. -/
def laneDown (s : State) (lane : Nat) : State :=
  if lane = 0 then { s with twn := { s.twn with lane0 := false } }
  else if lane = 1 then { s with twn := { s.twn with lane1 := false } }
  else s

/-- An Oxbow lane comes up, and the partner reports itself; not before the SerDes is released (14 R391). -/
def laneUp (s : State) (lane : Nat) (peer : PeerInfo) : State :=
  if s.rst.islands.getD 2 .inReset ≠ .running then s
  else if lane = 0 then { s with twn := { s.twn with lane0 := true, peer := some peer } }
  else if lane = 1 then { s with twn := { s.twn with lane1 := true, peer := some peer } }
  else s

/-! ## Joining (R379; log entry 63) -/

/-- TWIN_JOIN_PREPARE_DONE: BULK begins. -/
def prepareDone (s : State) : State :=
  if s.twn.phase = 1 then { s with twn := { s.twn with phase := 2 } } else s

/-- Blocks of 256 bytes of the lockstep state: axis records, two generations, node table, flow table, Eddy memories, tags (R379). -/
def lockstepBlocks (s : State) : Nat :=
  (s.nAxes * 0x4000 + 2 * (if s.full then 1048576 else 524288) + s.nNodes * 32 + 1024 * 16 + s.nCores * 0x30000 + 128) / 256

/-- TWIN_CATCHUP_PASS: the bulk copy, or a pass over marked blocks, is done and `marked` blocks are marked; below 16 KB the entry
cycle is named. -/
def catchupPass (s : State) (marked : Nat) : State :=
  let ph := s.twn.phase
  if ph ≠ 2 ∧ ph ≠ 3 then s
  else
    let serving := s.twn.state == .alone
    let n := if ph = 2 then s.lockstepBlocks else s.twn.marked.toNat
    let s := if serving then s.emit (.oxbowCopy n) else s
    let enter := ph = 3 ∧ marked < 64
    { s with twn := { s.twn with
      marked := BitVec.ofNat 16 (satNat 16 marked), phase := if enter then 4 else 3, entry := if enter then some (s.k + 64) else none } }

/-- A ring is whole again from the entry cycle on (R379). -/
def reopenRing (c : Nat) (port : Nat) (s : State) : State :=
  if (s.mport port).turned = false then s
  else
    let s := sendEnd false s port
    let last := if s.twn.sideB then 0 else (s.mport port).pos.length - 1
    (s.modMPort port fun p => { p with
      turned := false, loopedDir0 := false, loopedDir1 := false, turnLo := none, turnHi := none
      dq := p.dq ++ [.resume (BitVec.ofNat 64 c) last 0xFF] }).eventRingTurned port false none none

/-- TWIN_ENTRY: at C(c) the entry stands, when no task is in service and every marked block has arrived. -/
def twinEntry (s : State) (drained : Bool) : State :=
  match s.twn.entry with
  | none => s
  | some c =>
    if s.twn.phase ≠ 4 ∨ s.k < c then s
    else
      let done : Twin := { s.twn with phase := 0, entry := none, noDispatch := false, marked := 0, mismatchRun := 0, promoted := false, joinFails := 0 }
      match s.twn.state with
      | .joining =>
        if drained then
          let s := runAll (fun i s => s.modMPort i fun p => { p with turned := false }) s.twinPorts s
          ({ s with twn := done }).setTwin .standby 3
        else { s with twn := { s.twn with phase := 3, entry := none } }
      | .alone =>
        if drained && s.eddy.cores.all (fun x => x.flow.isNone) then
          let s := runAll (reopenRing c) s.twinPorts s
          ({ s with twn := { done with claims := [(c, 2)] } }).setTwin .active 3
        else { s with twn := { s.twn with phase := 3, entry := none, noDispatch := false } }
      | _ => s

/-- The partner's join ran out of time: after the second in a row, a head that serves it has it reset (14 R388). -/
def partnerTimeout (s : State) : State :=
  let s := { s with twn := { s.twn with phase := 0, entry := none, noDispatch := false, joinFails := s.twn.joinFails + 1 } }
  if s.twn.joinFails ≥ 2 then { s.emit .twinReset with twn := { s.twn with joinFails := 0 } } else s

/-- RESYNC_TIMEOUT: the join did not end in time (R379). -/
def resyncTimeout (s : State) : State :=
  match s.twn.state with
  | .joining =>
    let s := s.eventDiverged 2 s.k s.twn.ownCrc 0
    let s := { s with twn := { s.twn with phase := 0, entry := none } }
    if s.twn.autoResync then { s with twn := { s.twn with phase := 1 } } else s.setTwin .outOfStep 5
  | .active | .alone => if s.twn.phase = 0 then s else s.partnerTimeout
  | _ => s

/-! ## Planned switchover (R381) -/

/-- The standby is healthy (R378). -/
def standbyHealthy (s : State) : Bool :=
  let h := s.twn.peerHealth.toNat
  s.twn.peerState == 3 && s.twn.missing == 0 && s.peerKnown && field h 26 1 == 1 && field h 18 5 == 0

/-- TWIN_YIELD_HANDOVER: at the named cycle the roles change. -/
def yieldHandover (s : State) : State :=
  match s.twn.state, s.twn.yieldAt with
  | .active, some c =>
    if s.k < c then s
    else ({ s with twn := { s.twn with claims := [(c, 1)], promoted := false, yieldAt := none, mismatchRun := 0 } }).setTwin .standby 2
  | .standby, _ =>
    let c := s.k
    ({ s with
      twn := { s.twn with claims := [(c, 2), (c + 1, 2)], promoted := false, mismatchRun := 0 }
      tmb := { s.tmb with partnerGap := none } }).setTwin .active 2
  | _, _ => s

/-- The yield's completion, at C(c) + D_X. -/
def finishYield (s : State) (p : Pkt) : State :=
  let s := { s with twn := { s.twn with yieldAt := none } }
  if s.twn.state = .standby then s.finish p [] else s.reply p stDenied 0 []

/-! ## Self-test (R382, 07 R205, R227) -/

/-- An uncorrectable error in a core's memories: its task stops with MEM_UNCORR, and the core is FAULTED. -/
def memUncorr (c : Nat) (s : State) : State :=
  let x := s.core c
  if c ≥ s.nCores then s
  else if x.flow.isSome then (s.modCore c fun x => { x with uncorr := true }).taskFault c fMemUncorr x.regs.pc.toNat
  else s.modCore c fun x => { x with state := .faulted }

/-- ECC_SCRUB: the cores with a corrected error, those with an uncorrectable one, and whether another SRAM has one. -/
def eccScrub (s : State) (corrected uncorrectable : List Nat) (sram : Bool) : State :=
  let s := runAll (fun c s => s.modCore c fun x => { x with eccCorr := satInc x.eccCorr }) corrected s
  let s := runAll memUncorr uncorrectable s
  { s with twn := { s.twn with eccUnc := s.twn.eccUnc || sram || !uncorrectable.isEmpty } }

/-- MARCH_TEST. -/
def marchTest (s : State) (failed : Bool) : State :=
  if failed then { s with twn := { s.twn with marchFail := true, marchCnt := satInc s.twn.marchCnt, marchTot := s.twn.marchTot + 1 } } else s

/-- EDDY_TEST: on a core that is IDLE. -/
def eddyTest (s : State) (core : Nat) (failed : Bool) : State :=
  if failed && decide (core < s.nCores) && (s.core core).state == .idle then
    { s with twn := { s.twn with eddyFail := true, eddyCnt := satInc s.twn.eddyCnt, eddyTot := s.twn.eddyTot + 1 } }
  else s

/-! ## Commands (R384, R386, R381) -/

/-- A port of a twin ring is in RUN. -/
def twinRuns (s : State) : Bool := s.twinPorts.any fun i => (s.mport i).state == .run

/-- Where TWIN_CONFIGURE takes a head that is not in a pair. -/
def pairUp (s : State) (sideB : Bool) : State :=
  let peerRuns := match s.twn.peer with | some x => x.running | none => false
  let alone := s.twn.state != .isolated && (if s.twinRuns && !peerRuns then true else if peerRuns && !s.twinRuns then false else !sideB)
  let s := { s with twn := { s.twn with mismatchRun := 0, missing := 0, promoted := false, claims := [], lastMatch := false } }
  if alone then s.goAlone 0 else s.beginJoin 0

/-- TWIN_CONFIGURE (R384; log entry 64). -/
def bodyTwinConfigure (_ : Ctx) (p : Pkt) (s : State) : Verdict :=
  let role := p.fld 0 0 2
  let pairing := role = 1 ∨ role = 2
  let take := p.fld 0 8 4
  let base := BitVec.ofNat 16 (p.fld 1 0 16)
  let peer : PeerInfo := s.twn.peer.getD {}
  if role = 3 ∧ s.peerKnown = true ∧ (s.twn.peerState = 2 ∨ s.twn.peerState = 3 ∨ s.twn.peerState = 4) then .fail stDenied 0
  else if pairing ∧ s.peerKnown = false then .fail stNotReady 0
  else if take = 0 ∨ (pairing ∧ peer.side = some (role == 2)) then badParam 0
  else if base ≠ s.net.claimBase ∨ (pairing ∧ base ≠ peer.claimBase) then badParam 1
  else if p.fld 2 0 16 < 100 ∨ p.fld 2 0 16 > 10000 then badParam 2
  else if pairing ∧ peer.code ≠ s.fuse.code then badParamAll
  else
    let s := { s with twn := { s.twn with autoResync := p.fld 0 4 1 == 1, takeover := take, resyncMs := p.fld 2 0 16 } }
    match role with
    | 0 => .done [] (({ s.twinLinksDown with twn := { s.twinLinksDown.twn with
        phase := 0, entry := none, noDispatch := false, claims := [], promoted := false, missing := 0 } }).setTwin .single 0)
    | 3 => .done [] (({ s with twn := { s.twn with phase := 0, entry := none, promoted := false, claims := [], missing := 0 } }).goAlone 0)
    | _ =>
      let s := { s with twn := { s.twn with sideB := role == 2 } }
      match s.twn.state with
      | .single | .isolated | .outOfStep => .done [] (s.pairUp (role == 2))
      | _ => .done [] s

/-- The result of TWIN_HEALTH (R386). -/
def twinWords (s : State) : List Word :=
  let t := s.twn
  [t.health, t.peerHealth,
   BitVec.ofNat 32 (t.state.code + 256 * (if s.peerKnown then t.peerState else 0xFF) + 65536 * t.ownClaim.toNat),
   BitVec.ofNat 32 (t.peerClaim.toNat + 65536 * satNat 16 t.mismatchRun),
   t.mismatchTotal, t.missTotal, t.spareTot, t.marchTot, t.eddyTot] ++ leWords 2 t.lastBoth.toNat ++ [BitVec.ofNat 32 t.phase]
  ++ List.replicate 4 0 ++ packHalves t.tags

/-- TWIN_YIELD: 8 bytes, the cycle (R381; log entry 65). -/
def bodyTwinYield (c : Ctx) (p : Pkt) (s : State) : Verdict :=
  let cyc := p.w64 0
  if s.twn.state ≠ .active ∨ s.standbyHealthy = false then .fail stDenied 0
  else if s.lateCycle c cyc then .fail stLate 0
  else if s.cmdsFull || s.twn.yieldAt.isSome then .fail stBusy 0
  else .accept ({ s with twn := { s.twn with yieldAt := some cyc } }.enqueueCmd 0x0702 p cyc)

/-! ## TWN_ registers -/

/-- A word of the TWN_ block, at a multiple of 4. -/
def twnWord (s : State) (off : Nat) : Word :=
  let t := s.twn
  if off = 0x00 then BitVec.ofNat 32 (t.state.code + 2 ^ 3 * min 15 t.missing + 2 ^ 7 * t.peerState + 2 ^ 10 * b2n t.sideB
    + 2 ^ 11 * b2n t.lane0 + 2 ^ 12 * b2n t.lane1 + 2 ^ 16 * (t.phase % 4))
  else if off = 0x04 then t.peerClaim ++ t.ownClaim
  else if off = 0x08 then t.health
  else if off = 0x0C then t.peerHealth
  else if off = 0x10 then t.ownCrc
  else if off = 0x14 then t.peerCrc
  else if off = 0x18 then t.mismatchCnt ++ t.missCnt
  else if off = 0x1C then t.spareCnt ++ t.marchCnt ++ t.eddyCnt ++ (0 : Byte)
  else if off = 0x20 then t.marked.setWidth 32
  else 0

end State

def opTwinConfigure : Op := { opcode := 0x0700, len := lenIs 16, body := State.bodyTwinConfigure }
def opTwinHealth : Op := { opcode := 0x0701, len := lenIs 0, res := fun _ _ => 192, body := fun _ _ s => .done s.twinWords s }
def opTwinYield : Op := { opcode := 0x0702, len := lenIs 8, cycle := fun p _ => some (p.w64 0), body := State.bodyTwinYield }

/-! ## Rows -/

/-- TWIN_CONFIGURE (R384). -/
def execTwinConfigure (p : Pkt) (s : State) : Result := .next (State.carry opTwinConfigure p s)
/-- TWIN_HEALTH (R386). -/
def execTwinHealth (p : Pkt) (s : State) : Result := .next (State.carry opTwinHealth p s)
/-- TWIN_YIELD (R381). -/
def execTwinYield (p : Pkt) (s : State) : Result := .next (State.carry opTwinYield p s)
/-- CYCLE_RECORD_RECEIVED (R370). -/
def execCycleRecordReceived (r : CycleRec) (s : State) : Result := .next (s.cycleRecord r)
/-- CYCLE_RECORD_MISSING (R370). -/
def execCycleRecordMissing (s : State) : Result := .next s.recordMissing
/-- TWIN_HOLD_TIMEOUT (R374). -/
def execTwinHoldTimeout (s : State) : Result := .next s.holdTimeout
/-- OXBOW_LANE_DOWN (R365). -/
def execOxbowLaneDown (lane : Nat) (s : State) : Result := .next (s.laneDown lane)
/-- OXBOW_LANE_UP (R365). -/
def execOxbowLaneUp (lane : Nat) (peer : PeerInfo) (s : State) : Result := .next (s.laneUp lane peer)
/-- TWIN_JOIN_PREPARE_DONE (R379). -/
def execTwinJoinPrepareDone (s : State) : Result := .next s.prepareDone
/-- TWIN_CATCHUP_PASS (R379). -/
def execTwinCatchupPass (marked : Nat) (s : State) : Result := .next (s.catchupPass marked)
/-- TWIN_ENTRY (R379). -/
def execTwinEntry (drained : Bool) (s : State) : Result := .next (s.twinEntry drained)
/-- RESYNC_TIMEOUT (R379). -/
def execResyncTimeout (s : State) : Result := .next s.resyncTimeout
/-- TWIN_YIELD_HANDOVER (R381). -/
def execTwinYieldHandover (s : State) : Result := .next s.yieldHandover
/-- ECC_SCRUB (R382). -/
def execEccScrub (corrected uncorrectable : List Nat) (sramUncorr : Bool) (s : State) : Result :=
  .next (s.eccScrub corrected uncorrectable sramUncorr)
/-- MARCH_TEST (R382). -/
def execMarchTest (failed : Bool) (s : State) : Result := .next (s.marchTest failed)
/-- EDDY_TEST (R382). -/
def execEddyTest (core : Nat) (failed : Bool) (s : State) : Result := .next (s.eddyTest core failed)

end Sys2Proof.Machine
end

