-- ==== Sys2Proof/Machine/Store.lean ====
section
/-! DEFINITION. The Spillway power-loss store: its tiers, its records, the power-fail sequence, STORE_CONFIGURE, STORE_NOW and
STORE_READ (14 R401-R410). -/
namespace Sys2Proof.Machine

/-! ## Energy and tiers (R402, R403) -/

/-- The hold-up voltage in mV, as a numerator over 4 095 * 256. -/
def Spw.volt (x : Spw) (code : Nat) : Nat := code * 1800 * x.kDiv

/-- E_avail in µJ, as a numerator and a denominator. -/
def Spw.avail (x : Spw) (code : Nat) : Nat × Nat :=
  let d := 4095 * 256
  (x.cHold * ((x.volt code) ^ 2 - (x.vMin * d) ^ 2), 2000000 * d ^ 2)

/-- Bytes of a record (R406). -/
def recordBytes (axes tier : Nat) : Nat := 192 + 32 * axes + (if tier = 2 then 16 * axes + 32768 + 16384 else 0)

/-- E_need of a tier in µJ, as a numerator and a denominator; none while no write rate has been measured. -/
def Spw.need (x : Spw) (pMeas tc bytes : Nat) : Option (Nat × Nat) :=
  if x.rate = 0 then none
  else some ((pMeas * 100 + x.pBoard) * ((tc + 30000) * x.rate + 1000 * bytes), 1000000 * x.rate)

/-- E_need is within 0.8 of E_avail. -/
def tierFits (avail : Nat × Nat) : Option (Nat × Nat) → Bool
  | some n => decide (10 * n.1 * avail.2 ≤ 8 * avail.1 * n.2)
  | none => false

/-- An energy as a register shows it. -/
def needWord (n : Option (Nat × Nat)) : Nat := match n with | some x => satNat 16 (x.1 / x.2) | none => 65535

/-! ## Records (R406) -/

def PosEntry.words (e : PosEntry) : List Word :=
  dword e.extPos.toNat ++ dword e.extCycle.toNat ++ dword e.origin.toNat
    ++ [BitVec.ofNat 32 (b2n e.valid + 2 * b2n e.homed + 16 * e.state.toNat), 0]

/-- An axis as the shadow and a record hold it. -/
def Axis.entry (a : Axis) : PosEntry :=
  { extPos := BitVec.ofInt 64 a.extPos, extCycle := BitVec.ofNat 64 a.extCycle, origin := BitVec.ofInt 64 a.prof.origin
    valid := a.extValid, homed := a.prof.homed, state := BitVec.ofNat 3 a.state.code }

/-- The 64 bytes of an event entry (02 R47). -/
def Evt.words (phase : Bool) (e : Evt) : List Word :=
  [e.target ++ BitVec.ofNat 16 e.code, e.cycle, e.time, BitVec.ofNat 32 (e.path.toNat / 2 ^ 32 + 2 ^ 31 * b2n phase), e.path.extractLsb' 0 32]
    ++ wordsOf (padTo 44 e.data)

/-- Words padded with zeros to a length. -/
def padWords (n : Nat) (ws : List Word) : List Word := (ws ++ List.replicate (n - ws.length) 0).take n

def StoreRec.body (r : StoreRec) : List Word :=
  padWords 32 (State.packHalves r.tags) ++ r.positions.flatMap PosEntry.words
    ++ (if r.tier = 2 then r.setIds ++ padWords 8192 (r.faultLog.flatMap fun x => x.2.words x.1) ++ r.acqContext else [])

/-- Bytes 0 to 59 of the header. -/
def StoreRec.header (r : StoreRec) : List Word :=
  [0x53505752, r.seq, BitVec.ofNat 32 (r.tier + 256 * r.reason + 65536 * r.axes), BitVec.ofNat 32 (4 * r.body.length)]
    ++ leWords 2 r.ks ++ leWords 2 r.time ++ [BitVec.ofNat 32 (satNat 32 r.eAvail)] ++ List.replicate 6 0

/-- A record as the store device holds it. -/
def StoreRec.image (r : StoreRec) : List Word := r.header ++ [crc32 (wordsBytes (r.header ++ r.body))] ++ r.body

/-! ## The store device (R406) -/

/-- Address of a slot. -/
def Spw.slotAddr (x : Spw) (i : Nat) : Nat := x.base.toNat + 0x10000 * i

/-- The valid record of a slot. -/
def Spw.slot (x : Spw) (i : Nat) : Option StoreRec :=
  if x.known then (x.device.find? fun d => d.1 == x.slotAddr i).map Prod.snd else none

def deviceErase (a : Nat) (l : List (Nat × StoreRec)) : List (Nat × StoreRec) := l.filter fun d => d.1 != a

def devicePut (a : Nat) (r : StoreRec) : List (Nat × StoreRec) → List (Nat × StoreRec)
  | [] => [(a, r)]
  | d :: t => if d.1 < a then d :: devicePut a r t else if d.1 = a then (a, r) :: t else (a, r) :: d :: t

/-- The slot of the newest valid record (R398's order of sequences). -/
def Spw.newest (x : Spw) : Option Nat :=
  match x.slot 0, x.slot 1 with
  | some a, some b => if (b.seq - a.seq).toNat < 2 ^ 31 then some 1 else some 0
  | some _, none => some 0
  | none, some _ => some 1
  | none, none => none

def Spw.newestRec (x : Spw) : Option StoreRec := x.newest.bind x.slot

/-- The slot a store writes: the one that does not hold the newest valid record. -/
def Spw.target (x : Spw) : Nat := if x.newest = some 0 then 1 else 0

namespace State

/-- POWER_FAIL (R410). -/
def eventPower (s : State) (what : Nat) : State :=
  let r := s.spw.report
  s.event 0x0901 0 (leBytes 1 what ++ leBytes 1 r.1 ++ leBytes 2 0 ++ leBytes 4 r.2.1 ++ leBytes 8 r.2.2.1 ++ leBytes 4 (satNat 32 r.2.2.2))

/-- Headwater chooses the tier (R403). -/
def tierEvaluate (s : State) (code : BitVec 12) : State :=
  let x := s.spw
  let av := x.avail code.toNat
  let full := x.need s.pwr.pMeas.toNat s.tmb.tc (recordBytes s.nAxes 2)
  let min := x.need s.pwr.pMeas.toNat s.tmb.tc (recordBytes s.nAxes 1)
  { s with spw := { x with
    code := code, vMv := satNat 16 (x.volt code.toNat / (4095 * 256)), eAvail := av.1 / av.2, needFull := needWord full, needMin := needWord min
    tier := if tierFits av full then 2 else if tierFits av min then 1 else 0 } }

/-- The position shadow at D_X (R401). -/
def writeShadow (s : State) : State :=
  { s with spw := { s.spw with shadow := (s.axes.take s.nAxes).map Axis.entry, shadowK := s.k, shadowT := s.now } }

/-! ## The power-fail sequence (R404, R407) -/

/-- A task in service is stopped, its core's writes and DMA still to drain (07 R226). -/
def stopTask (c : Nat) (s : State) : State :=
  if (s.core c).flow.isSome && !(s.core c).ending then s.beginEnd c false else s

/-- PFAIL_QUALIFIED (R404, R405). -/
def pfailQualified (s : State) (code : BitVec 12) : State :=
  if s.spw.pfail then s
  else
    let s := s.tierEvaluate code
    let x := { s.spw with pfail := true }
    let s := { s with spw := x }
    if !x.en then s
    else
      let ks := if s.inCycle < s.dX then s.k else s.k + 1
      let s := { s with
        spw := { x with held := true, report := (x.tier, 0, if x.tier = 0 then 0 else ks, x.eAvail)
                        noneCnt := if x.tier = 0 then satInc x.noneCnt else x.noneCnt }
        sch := { s.sch with stopped := true } }
      let s := (runAll stopTask (List.range s.nCores) (s.eventPower 1)).disarm
      if x.tier = 0 then s
      else
        let pkt := match x.run with | some r => r.pkt | none => none
        { s with spw := { s.spw with run := some { tier := x.tier, reason := 0, eAvail := x.eAvail, slot := x.target, pkt := pkt } } }

/-- Commands and dispatch resume once the power is back and no store is left (R404). -/
def powerResume (s : State) : State :=
  if s.spw.held && !s.spw.pfail && s.spw.run.isNone then
    { s with spw := { s.spw with held := false }, sch := { s.sch with stopped := false } }
  else s

/-- PFAIL_CLEAR (R404, R410). -/
def pfailClear (s : State) : State :=
  if !s.spw.pfail then s
  else
    let s := { s with spw := { s.spw with pfail := false } }
    (if s.spw.held then s.eventPower 3 else s).powerResume

/-- Words of the FULL tier for an axis: which set is active, the tags of both, and the active set's CRC. -/
def setIdWords (a : Axis) : List Word := [BitVec.ofNat 32 (b2n a.hdr.activeSet), cellGet a.setA 0x7F8, cellGet a.setB 0x7F8, cellGet a.set 0x7FC]

/-- The acquisition context. Of its 8 bytes of state the manual gives no layout: the state's code, then a free word. -/
def acqContext (s : State) : List Word × State :=
  let f := s.free 32
  (padWords 4096 (padWords 16 (s.acq.settings.getD []) ++ padWords 26 s.acq.trigger ++ [BitVec.ofNat 32 (QState.code s.acq.state), f.1]
    ++ s.acq.slots.map fun r => BitVec.ofNat 32 (r.slot % 65536 + 65536 * (r.num % 65536))), f.2)

/-- STORE_CAPTURE: the body is captured, the slot's old record gives way, and vector 61 is sent (R404, 02 R62). -/
def storeCapture (s : State) : State :=
  match s.spw.run with
  | none => s
  | some r =>
    if r.captured.isSome then s
    else
      let full := r.tier == 2
      let c := if full then s.acqContext else ([], s)
      let s := c.2
      let x := s.spw
      let cap : StoreRec := {
        seq := (match x.newestRec with | some n => n.seq | none => 0) + 1, tier := r.tier, reason := r.reason, axes := s.nAxes
        ks := s.k, time := s.now, eAvail := r.eAvail, tags := x.tags, positions := (s.axes.take s.nAxes).map Axis.entry
        setIds := if full then (s.axes.take s.nAxes).flatMap setIdWords else []
        faultLog := if full then x.log.reverse else [], acqContext := c.1 }
      ({ s with spw := { x with
        run := some { r with captured := some cap, slot := x.target }
        device := deviceErase (x.slotAddr x.target) x.device } }).raiseCause 1

/-- STORE_WRITE_DONE: the record is valid, the rate counts, the store is reported, and a COLD reset held back takes the domain
(R403, R404, R407). -/
def storeDone (s : State) (rate : Nat) : State :=
  match s.spw.run with
  | none => s
  | some r =>
    match r.captured with
    | none => s
    | some cap =>
      let x := s.spw
      let s := s.emit (.storeRecord r.slot cap)
      let s := { s with spw := { x with
        device := devicePut (x.slotAddr r.slot) cap x.device, run := none, stores := satInc x.stores
        rate := if x.rate = 0 then rate else min x.rate rate, report := (cap.tier, cap.seq.toNat, cap.ks, cap.eAvail) } }
      let s := s.eventPower 2
      let s := match r.pkt with
        | some p => s.finish p [cap.seq, BitVec.ofNat 32 cap.tier]
        | none => s
      let s := if s.spw.coldAfter then { s with spw := { device := s.spw.device, known := s.spw.known, held := s.spw.held } } else s
      s.powerResume

/-- VAUX_FAIL: the store domain is lost, and with it a store in progress (R401, R407). -/
def vauxFail (s : State) : State :=
  ({ s with spw := { device := s.spw.device, known := s.spw.known, held := s.spw.held } }).powerResume

/-! ## Commands (R405, R408, R409) -/

/-- STORE_CONFIGURE. -/
def bodyStoreConfigure (_ : Ctx) (p : Pkt) (s : State) : Verdict :=
  let x := s.spw
  let clock := p.fld 5 0 8
  if p.w 4 % 0x20000 ≠ 0 then badParam 4
  else if clock < 25 ∨ clock > 200 then badParam 5
  else if x.run.isSome then .fail stBusy 0
  else
    let x := { x with
      en := p.fld 0 0 1 == 1, filt := BitVec.ofNat 4 (p.fld 0 4 4), cHold := p.w 1, vMin := p.fld 2 0 16, kDiv := p.fld 2 16 16
      pBoard := p.w 3, base := BitVec.ofNat 32 (p.w 4), clock := clock, dtr := p.fld 5 8 1 == 1, rate := 0, known := true }
    if !x.en then .done [] { s with spw := x }
    else
      let t := Config.storeTest s.freeCtr
      let s' := { s with freeCtr := s.freeCtr + 1 }
      match t with
      | none => .refuse stNotReady 0 { s' with spw := { s.spw with en := false } }
      | some r => .done [] { s' with spw := { x with rate := r, device := deviceErase (x.slotAddr 2) x.device } }

/-- STORE_NOW. -/
def bodyStoreNow (_ : Ctx) (p : Pkt) (s : State) : Verdict :=
  let tier := p.fld 0 0 2
  if !s.spw.en then .fail stDenied 0
  else if tier = 0 ∨ tier = 3 then badParam 0
  else if s.spw.run.isSome then .fail stBusy 0
  else .accept { s with spw := { s.spw with run := some { tier := tier, reason := 1, slot := s.spw.target, pkt := some p } } }

/-- The record that STORE_READ names. The manual gives a record of the shadow no sequence and no E_avail: they are free values. -/
def readRecord (s : State) (p : Pkt) : Option StoreRec :=
  let x := s.spw
  if p.fld 0 1 1 = 1 then
    let f := (s.free 64).1
    x.kept.map fun k => { seq := f.extractLsb' 0 32, tier := 0, reason := 2, axes := k.1.length, ks := k.2.1, time := k.2.2
                          eAvail := (f.extractLsb' 32 32).toNat, tags := x.tags
                          positions := k.1, setIds := [], faultLog := [], acqContext := [] }
  else match x.newest with
    | some n => x.slot (if p.fld 0 0 1 = 0 then n else 1 - n)
    | none => none

/-- A stored position is applied to an axis that is READY (R408). -/
def applyStored (x : Nat × PosEntry) (s : State) : State :=
  let a := s.axis x.1
  if a.state = .ready ∧ x.2.valid = true then
    s.modAxis x.1 fun a =>
      let d := signed 32 (wrap 32 ((a.live.pFb.toNat : Int) - x.2.extPos.toNat))
      { a with extPos := signed 64 x.2.extPos.toNat + d
               prof := { a.prof with origin := signed 64 x.2.origin.toNat, homed := x.2.homed } }
  else s

/-- STORE_READ. -/
def bodyStoreRead (_ : Ctx) (p : Pkt) (s : State) : Verdict :=
  match s.readRecord p with
  | none => .fail stNotReady 0
  | some r =>
    let size := recordBytes r.axes r.tier
    if p.w 1 % 4 ≠ 0 ∨ p.w 1 > size then badParam 1
    else if p.w 2 % 4 ≠ 0 ∨ p.w 1 + p.w 2 > size then badParam 2
    else if r.axes ≠ s.nAxes then badParamAll
    else if p.fld 0 8 1 = 1 then
      let l := (mapI (fun i e => (i, e)) r.positions).filter fun x => (s.axis x.1).state == .ready && x.2.valid
      .done [BitVec.ofNat 32 l.length] (runAll applyStored l s)
    else .done ((r.image.drop (p.w 1 / 4)).take (p.w 2 / 4)) (if p.fld 0 1 1 = 1 then (s.free 64).2 else s)

/-! ## Registers -/

/-- SPW_STATUS.STATE. -/
def spwState (x : Spw) : Nat :=
  match x.run with
  | some r => if r.captured.isSome then 3 else if r.reason = 0 then 1 else 2
  | none => if x.held then 1 else if x.en then 0 else 4

/-- A word of the SPW_ block, at a multiple of 4. -/
def spwWord (s : State) (off : Nat) : Word :=
  let x := s.spw
  if off = 0x00 then BitVec.ofNat 32 (2 ^ 29 * spwState x + 2 ^ 28 * b2n x.pfail + 2 ^ 26 * x.tier + 2 ^ 25 * x.newest.getD 0
    + 2 ^ 24 * b2n (x.slot 1).isSome + 2 ^ 23 * b2n (x.slot 0).isSome)
  else if off = 0x04 then BitVec.ofNat 32 (x.code.toNat + 65536 * x.vMv)
  else if off = 0x08 then BitVec.ofNat 32 (satNat 32 x.eAvail)
  else if off = 0x0C then BitVec.ofNat 32 (x.needMin + 65536 * x.needFull)
  else if off = 0x10 then BitVec.ofNat 32 (satNat 16 x.rate)
  else if off = 0x14 then (match x.newestRec with | some r => r.seq | none => 0)
  else if off = 0x18 then x.stores ++ x.noneCnt
  else 0

end State

def opStoreConfigure : Op := { opcode := 0x0900, len := lenIs 24, body := State.bodyStoreConfigure }
def opStoreNow : Op := { opcode := 0x0901, len := lenIs 4, res := fun _ _ => 8, body := State.bodyStoreNow }
def opStoreRead : Op :=
  { opcode := 0x0902, len := lenIs 16, res := fun p _ => if p.fld 0 8 1 = 1 then 4 else p.w 2, body := State.bodyStoreRead }

/-- STORE_CONFIGURE (R409). -/
def execStoreConfigure (p : Pkt) (s : State) : Result := .next (State.carry opStoreConfigure p s)
/-- STORE_NOW (R405). -/
def execStoreNow (p : Pkt) (s : State) : Result := .next (State.carry opStoreNow p s)
/-- STORE_READ (R408). -/
def execStoreRead (p : Pkt) (s : State) : Result := .next (State.carry opStoreRead p s)
/-- PFAIL_QUALIFIED (R404). -/
def execPfailQualified (code : BitVec 12) (s : State) : Result := .next (s.pfailQualified code)
/-- PFAIL_CLEAR (R404). -/
def execPfailClear (s : State) : Result := .next s.pfailClear
/-- TIER_EVALUATE (R403). -/
def execTierEvaluate (code : BitVec 12) (s : State) : Result := .next (s.tierEvaluate code)
/-- STORE_CAPTURE (R404). -/
def execStoreCapture (s : State) : Result := .next s.storeCapture
/-- STORE_WRITE_DONE (R404). -/
def execStoreWriteDone (rate : Nat) (s : State) : Result := .next (s.storeDone rate)
/-- VAUX_FAIL (R407). -/
def execVauxFail (s : State) : Result := .next s.vauxFail

end Sys2Proof.Machine
end

