-- ==== Sys2Proof/Machine/Reset.lean ====
section
/-! DEFINITION. Reset sources, episodes and reaches; the release sequence; block resets; RESET and BLOCK_QUIESCE (14 R388-R397,
02 R61). -/
namespace Sys2Proof.Machine

/-! ## The fuses (15 R437, R438; 09 R270) -/

/-- CRC-16 over the identity fuses, reserved bits as zero. -/
def Fuse.crc (f : Fuse) : Half := Machine.crc16 (wordsBytes [f.id0 &&& 0xF0FFFFFF, f.id1 &&& 0xFFF01FFF, f.id2 &&& 0x00FFFF0F])

/-- V_BOOT in mV. -/
def Fuse.vBoot (f : Fuse) : Nat := min 900 (750 + 10 * (if f.crcFail then 15 else field f.id2.toNat 0 4))

/-- A list of words with one bit of one of them cleared. -/
def clearBit (i b : Nat) (ws : List Word) : List Word := updAt ws i fun w => w &&& ~~~(BitVec.ofNat 32 (2 ^ b))

namespace State

/-! ## What an episode clears (R389) -/

/-- Every Millrace and Oxbow link is down (13 R377). -/
def allLinksDown (s : State) : State :=
  let s := s.emit .linksDown
  { s with
    net := { s.net with ports := s.net.ports.map fun p => { p with link := false } }
    twn := { s.twn with lane0 := false, lane1 := false } }

/-- Every link goes down while the part runs on. -/
def linksLost (s : State) : State := (runAll (fun n s => s.linkDown n) (List.range s.nPorts) s).allLinksDown

/-- What every reach of the whole part leaves: reset values, but for the model's own fields, the fuses and the flash. The VCORE
setpoint starts at V_BOOT. -/
def cleared (s : State) : State :=
  { State.reset with
    pending := s.pending, out := s.out, freeCtr := s.freeCtr, lastRead := s.lastRead, fuse := s.fuse
    boot := { slots := s.boot.slots, board := s.boot.board, script := s.boot.script }
    pwr := { vset := s.fuse.vBoot, ackVset := s.fuse.vBoot } }

/-- A store whose body has been captured. -/
def storing (s : State) : Bool := match s.spw.run with | some r => r.captured.isSome | none => false

/-- What a COLD reset leaves. A store in progress goes on (R407). -/
def coldClear (s : State) : State :=
  let s' := { s.cleared with fuse := { s.fuse with crcFail := false } }
  if s.storing then
    { s' with spw := { s.spw with coldAfter := true, kept := none
                                  run := s.spw.run.map fun r => { r with pkt := none } } }
  else { s' with spw := { device := s.spw.device } }

/-- A domain during and after a WARM reset (06 R179). -/
def warmDomain (d : Domain) : Domain :=
  { cnt := d.cnt, incr := d.incr, state := match d.state with | .locked => .acquiring | x => x }

/-- Time through a WARM reset: counters, increments, and the period and epoch that cycles are counted by. -/
def warmTime (t : Tmb) : Tmb :=
  { served := t.served, incr := t.incr, incrNom := t.incrNom, holdIncr := t.holdIncr, domP := warmDomain t.domP, domS := warmDomain t.domS
    selected := t.selected, holdover := t.holdover, slewing := t.slewing, usTick := t.usTick, tc := t.tc, epoch := t.epoch }

/-- The store domain through a WARM reset: a store whose body is captured goes on; one still to be captured is dropped (R407). The
shadow of the last D_X is kept to be read (R408). -/
def warmStore (s : State) : Spw :=
  { s.spw with
    run := match s.spw.run with
      | some r => if r.captured.isSome then some { r with pkt := none } else none
      | none => none
    kept := some (s.spw.shadow, s.spw.shadowK, s.spw.shadowT) }

/-- What a WARM reset leaves. The acquisition records complete in DRAM are found again (12 R355). -/
def warmClear (s : State) : State :=
  let spw := s.warmStore
  { s.cleared with
    tmb := warmTime s.tmb, spw := spw
    sch := { stopped := spw.held }
    acq := match spw.acqSettings with
      | some ws => { settings := some (clearBit 7 7 ws), slots := s.acq.slots }
      | none => {} }

/-! ## Sources and episodes (R388, R390) -/

def widest : Reach → Reach → Reach
  | .warm, .warm => .warm
  | _, _ => .cold

/-- Islands at the assertion of a reset: a WARM one leaves the time base and the DRAM running. -/
def assertedIslands (r : Reach) (l : List Island) : List Island :=
  mapI (fun i x => if r = .warm ∧ (i = 0 ∨ i = 4) then x else .inReset) l

/-- A source asserts: the episode begins, or is joined and perhaps widened; what its reach clears is cleared, and the links are
down. `level` is set for a source that stays asserted until it is released. -/
def assertSource (s : State) (bit : Nat) (r : Reach) (level : Bool) : State :=
  let b : Byte := BitVec.ofNat 8 (2 ^ bit)
  let e := match s.rst.episode with
    | some (r', bits) => (widest r r', bits ||| b)
    | none => (r, b)
  let rst : Rst := {
    reach := if e.1 = .cold then 0 else 1, last := e.2, seen := if e.1 = .cold then e.2 else s.rst.seen ||| e.2
    islands := assertedIslands e.1 s.rst.islands
    asserted := if level then s.rst.asserted ||| b else s.rst.asserted
    episode := some e, phase := .asserted }
  let s := match e.1 with | .cold => s.coldClear | .warm => s.warmClear
  ({ s with rst := rst }).allLinksDown

/-- A source that stays asserted changes: it asserts, or is released. -/
def sourceLevel (s : State) (bit : Nat) (r : Reach) (asserted : Bool) : State :=
  if asserted then s.assertSource bit r true
  else { s with rst := { s.rst with asserted := s.rst.asserted &&& ~~~(BitVec.ofNat 8 (2 ^ bit)) } }

/-! ## Release (R391-R394) -/

/-- RELEASE_START: step 1, once no source is asserted. A COLD episode reloads the fuses and checks their CRC. -/
def releaseStart (s : State) : State :=
  if s.rst.phase ≠ .asserted ∨ s.rst.asserted ≠ 0 then s
  else
    let s := { s with rst := { s.rst with phase := .islands } }
    match s.rst.episode with
    | some (.warm, _) => s
    | _ =>
      let f := { s.fuse with crcFail := s.fuse.crc != s.fuse.crc16 }
      { s with fuse := f, pwr := { s.pwr with vset := f.vBoot, ackVset := f.vBoot } }

/-- The order of release. -/
def islandOrder : List Nat := [9, 1, 5, 4, 3, 2, 6, 7, 8]

/-- An island, by its number. -/
def island (s : State) (i : Nat) : Island := s.rst.islands.getD (i - 1) .inReset

/-- An island's turn is over. -/
def Island.past : Island → Bool
  | .running | .absent => true
  | _ => false

/-- The island whose turn it is. -/
def nextIsland (s : State) : Option Nat := islandOrder.find? fun i => !Island.past (s.island i)

/-- An island changes its state; after the last turn the sequence goes on with the DRAM. -/
def setIsland (s : State) (i : Nat) (x : Island) : State :=
  let s := { s with rst := { s.rst with islands := updAt s.rst.islands (i - 1) fun _ => x } }
  if s.rst.phase = .islands ∧ s.nextIsland = none then { s with rst := { s.rst with phase := .dram } } else s

/-- An island is among the nine. -/
def isIsland (i : Nat) : Bool := decide (1 ≤ i) && decide (i ≤ 9)

/-- ISLAND_RELEASE: in its turn, or after the sequence when it has lost its lock. -/
def islandRelease (s : State) (i : Nat) : State :=
  let turn := match s.rst.phase with
    | .asserted => false
    | .islands => s.nextIsland == some i
    | _ => isIsland i && !Island.past (s.island i)
  if turn then s.setIsland i .running else s

/-- ISLAND_ABSENT. -/
def islandAbsent (s : State) (i : Nat) : State :=
  if s.rst.phase = .islands ∧ s.nextIsland = some i then s.setIsland i .absent else s

/-- ISLAND_LATE_CLOCK: an absent island, or one in clock-wait, runs. -/
def lateClock (s : State) (i : Nat) : State :=
  if s.rst.phase ≠ .asserted ∧ isIsland i = true ∧ (s.island i = .absent ∨ s.island i = .clockWait) then s.setIsland i .running else s

/-- ISLAND_LOCK_LOSS: the island is back in reset, and its block raises its own error: links and lanes go down, or the PCI Express
link does. -/
def lockLoss (s : State) (i : Nat) : State :=
  if isIsland i = true ∧ s.island i = .running then
    let s := { s with rst := { s.rst with islands := updAt s.rst.islands (i - 1) fun _ => .inReset } }
    if i = 2 then runAll (fun n s => s.linkDown n) (List.range s.nPorts) s
    else if i = 3 then { s with twn := { s.twn with lane0 := false, lane1 := false } }
    else if i = 4 then { s.resetHostIf with host := { s.resetHostIf.host with linkUp := false } }
    else s
  else s

/-- A write of RST_OVERRIDE: islands that wait for their clock enter clock-wait (R394). -/
def writeOverride (s : State) (v : Word) : State :=
  let s := { s with rst := { s.rst with override := v.extractLsb' 0 9 } }
  if s.rst.phase = .asserted then s
  else { s with rst := { s.rst with islands := mapI (fun i x =>
    if v.getLsbD i && (x == .inReset || x == .absent) then .clockWait else x) s.rst.islands } }

/-- A step of the release that follows another. -/
def releaseStep (s : State) (at_ next : Phase) : State :=
  if s.rst.phase = at_ then { s with rst := { s.rst with phase := next } } else s

/-- HOST_READY: step 6, the end of the episode. -/
def hostReady (s : State) : State :=
  if s.rst.phase = .running then
    { s with host := { s.host with ready := true }, rst := { s.rst with episode := none } }
  else s

/-! ## Block resets (R395, R396) -/

/-- The blocks of R395. -/
inductive Block where
  | acq
  | uplink (i : Nat)
  | oxbow
  | core (c : Nat)
  | mport (n : Nat)
  | lport (n : Nat)
  deriving DecidableEq, Repr

/-- The block of a number. -/
def blockOf (n : Nat) : Option Block :=
  if n = 1 then some .acq
  else if n = 2 ∨ n = 3 then some (.uplink (n - 2))
  else if n = 4 then some .oxbow
  else if 0x10 ≤ n ∧ n < 0x30 then some (.core (n - 0x10))
  else if 0x40 ≤ n ∧ n < 0x70 then some (.mport (n - 0x40))
  else if 0x80 ≤ n ∧ n < 0x90 then some (.lport (n - 0x80))
  else none

/-- A block that this ordering code does not have. -/
def fusedOff (s : State) : Block → Bool
  | .core c => decide (c ≥ s.nCores)
  | .mport n => decide (n ≥ s.nPorts)
  | .lport n => decide (n ≥ s.nLocal)
  | _ => false

/-- The condition of R395. -/
def blockFree (s : State) : Block → Bool
  | .oxbow => s.twn.state == .single
  | .mport n => (s.mport n).state == .dark
  | .lport n => match s.axisOf n with | some i => (s.axis i).state == .disabled | none => true
  | _ => true

/-- A domain's PTP state starts afresh, in ACQUIRING. -/
def restartDomain (u : Nat) (d : Dom) (s : State) : State :=
  if s.domUplink d ≠ some u then s
  else
    let was := (s.domain d).state
    let s := s.modDomain d fun x => { x with
      state := .acquiring, integ := 0, inRun := 0, outRun := 0, recent := [], lockedAt := none, master := none, isMaster := false }
    if was = .locked then s.domainLeft d else s

/-- An Eddy core after a block reset: its memories and its image are kept. -/
def Core.blockReset (x : Core) : Core :=
  { x := x.x, y := x.y, prog := x.prog, image := x.image, imageValid := x.imageValid, loading := x.loading, state := .parked, hostPark := true }

/-- A core is reset: a task stops without a drain, its flow is freed and its semaphores released. -/
def resetCore (s : State) (c : Nat) : State :=
  let s := { s with
    eddy := { s.eddy with semWait := s.eddy.semWait.filter fun w => w.2.2 != c }
    sch := { s.sch with held := s.sch.held.filter fun h => match h with | .core m _ _ _ => m != c | _ => true } }
  let s := s.releaseAll c
  let s := match (s.core c).flow with | some f => s.freeFlow f | none => s
  s.modCore c Core.blockReset

/-- What a block reset clears. -/
def blockClear (s : State) : Block → State
  | .acq => { s with acq := {} }
  | .uplink u =>
    let s := { s with tmb := { s.tmb with uplinks := updAt s.tmb.uplinks u fun x => { x with lastRx := 0, quiet := false } } }
    restartDomain u .s (restartDomain u .p s)
  | .oxbow => { s with twn := { s.twn with lane0 := false, lane1 := false, peer := none } }
  | .core c => s.resetCore c
  | .mport n => (s.endJoin n).modMPort n fun _ => {}
  | .lport n => s.modLPort n fun x => { pins := x.pins }

/-- A block episode (RST_BLOCK). -/
def blockReset (s : State) (n : Nat) (b : Block) : State :=
  let s := { s with rst := { s.rst with blkNum := BitVec.ofNat 8 n, blkCount := satInc s.rst.blkCount } }
  s.blockClear b

/-- Commands pending on a block complete with ABORTED_BY_RESET (02 R61). -/
def abortPending (s : State) (n : Nat) : State :=
  let qs := s.rst.quiesce.filter fun q => q.block == n
  let dx := if n = 1 then s.dxq.filter fun d => d.opcode == 0x0501 else []
  let s := { s with
    rst := { s.rst with quiesce := s.rst.quiesce.filter fun q => q.block != n }
    dxq := if n = 1 then s.dxq.filter fun d => d.opcode != 0x0501 else s.dxq }
  runAll (fun p s => s.reply p stAborted 0 []) (qs.map Quiesce.pkt ++ dx.map DxCmd.pkt) s

/-! ## RESET and BLOCK_QUIESCE (R61, R397) -/

/-- RESET, of the whole part: the reset itself is asserted later. -/
def resetPart (s : State) (p : Pkt) (r : Reach) : Verdict :=
  let bit := if p.src = .upstream then 6 else 7
  let x := match s.rst.pendingReset with
    | some (r', b) => (widest r r', if r' = .cold then b else bit)
    | none => (r, bit)
  .done [] { s with rst := { s.rst with pendingReset := some x } }

/-- RESET. -/
def bodyReset (_ : Ctx) (p : Pkt) (s : State) : Verdict :=
  let up := decide (p.src = .upstream)
  let reach := p.fld 0 0 2
  let n := p.fld 0 8 8
  if reach = 2 then
    match blockOf n with
    | some b =>
      if s.fusedOff b then .fail stBadTarget 0
      else if (up && !s.rst.upstreamEn) || !s.blockFree b then .fail stDenied 0
      else .later (((s.blockReset n b).finish p []).abortPending n)
    | none => if up && !s.rst.upstreamEn then .fail stDenied 0 else badParam 0
  else if up && !s.rst.upstreamEn then .fail stDenied 0
  else if reach = 3 ∨ (reach = 0 ∧ up = true) then badParam 0
  else s.resetPart p (if reach = 0 then .cold else .warm)

/-- What a quiesce does to its block. -/
def quiesceBlock (s : State) : Block → State
  | .acq => s.disarm
  | .uplink u => { s with tmb := { s.tmb with uplinks := updAt s.tmb.uplinks u fun x => { x with quiet := true } } }
  | .core c => hostPark c s
  | _ => s

/-- BLOCK_QUIESCE. -/
def bodyQuiesce (_ : Ctx) (p : Pkt) (s : State) : Verdict :=
  let n := p.fld 0 0 8
  match blockOf n with
  | none => badParam 0
  | some b =>
    if s.fusedOff b then .fail stBadTarget 0
    else if !s.blockFree b then .fail stDenied 0
    else
      let s := s.quiesceBlock b
      .accept { s with rst := { s.rst with quiesce := s.rst.quiesce ++ [{ block := n, pkt := p }] } }

/-- A block has no transfer in flight. -/
def blockQuiet (s : State) : Block → Bool
  | .core c => ((s.core c).state == .parked || (s.core c).state == .faulted) && (s.core c).descs.isEmpty
  | _ => true

/-- QUIESCE_DONE. -/
def quiesceDone (s : State) (n : Nat) : State :=
  match blockOf n with
  | none => s
  | some b =>
    if !s.blockQuiet b then s
    else
      let qs := s.rst.quiesce.filter fun q => q.block == n
      let s := { s with rst := { s.rst with quiesce := s.rst.quiesce.filter fun q => q.block != n } }
      runAll (fun q s => s.finish (Quiesce.pkt q) []) qs s

/-- RESET_ASSERT: a reset by command asserts (R61). -/
def resetAssert (s : State) : State :=
  match s.rst.pendingReset with
  | some (r, bit) => s.assertSource bit r false
  | none => s

/-- WATCHDOG_HALF: vector 63 (02 R62). -/
def watchdogHalf (s : State) : State := if s.rst.phase = .running then s.raiseCause 3 else s

/-- UPSTREAM_RESET: a RESET forwarded by the upstream head asserts, WARM or for a block (R388). A block one is absorbed by a
COLD or WARM episode (R390). -/
def upstreamReset (s : State) (block : Option Nat) : State :=
  if !s.rst.upstreamEn then s
  else
    match block with
    | none => s.assertSource 6 .warm false
    | some n =>
      match blockOf n with
      | some b => if s.rst.episode.isSome || s.fusedOff b || !s.blockFree b then s else (s.blockReset n b).abortPending n
      | none => s

/-- RST_ISLAND. -/
def Island.code : Island → Nat
  | .inReset => 0
  | .clockWait => 1
  | .running => 2
  | .absent => 3

/-- A word of the RST_ block, at a multiple of 4. A block reset and its release are one step, so ACTIVE reads 0. -/
def rstWord (s : State) (off : Nat) : Word :=
  let r := s.rst
  if off = 0x00 then BitVec.ofNat 32 s.rstCause
  else if off = 0x04 then BitVec.ofNat 32 (r.wdogMs.toNat + 2 ^ 30 * b2n r.upstreamEn + 2 ^ 31 * b2n r.twinEn)
  else if off = 0x08 then BitVec.ofNat 32 ((mapI (fun i x => Island.code x * 4 ^ i) r.islands).foldl (· + ·) 0)
  else if off = 0x0C then r.override.setWidth 32
  else if off = 0x10 then BitVec.ofNat 32 (r.blkCount.toNat + 65536 * r.blkNum.toNat)
  else 0

/-- A write of RST_CFG; a timeout outside its range leaves the old one. -/
def writeRstCfg (s : State) (v : Word) : State :=
  let ms := field v.toNat 0 16
  { s with rst := { s.rst with
    twinEn := v.getLsbD 31, upstreamEn := v.getLsbD 30
    wdogMs := if 10 ≤ ms ∧ ms ≤ 1000 then BitVec.ofNat 16 ms else s.rst.wdogMs } }

end State

def opReset : Op := { opcode := 0x0010, len := lenIs 4, body := State.bodyReset }
def opBlockQuiesce : Op := { opcode := 0x0011, len := lenIs 4, body := State.bodyQuiesce }

/-- RESET (02 R61). -/
def execReset (p : Pkt) (s : State) : Result := .next (State.carry opReset p s)
/-- BLOCK_QUIESCE (R397). -/
def execBlockQuiesce (p : Pkt) (s : State) : Result := .next (State.carry opBlockQuiesce p s)
/-- RESET_ASSERT (02 R61). -/
def execResetAssert (s : State) : Result := .next s.resetAssert
/-- POWER_ON_MONITOR (15 R431). -/
def execPowerOnMonitor (asserted : Bool) (s : State) : Result := .next (s.sourceLevel 0 .cold asserted)
/-- PORST_N (R388). -/
def execPorstN (asserted : Bool) (s : State) : Result := .next (s.sourceLevel 1 .cold asserted)
/-- THERMAL_TRIP (R388). -/
def execThermalTrip (asserted : Bool) (s : State) : Result := .next (s.sourceLevel 2 .cold asserted)
/-- WRST_N (R388). -/
def execWrstN (asserted : Bool) (s : State) : Result := .next (s.sourceLevel 3 .warm asserted)
/-- WATCHDOG_HALF (R388). -/
def execWatchdogHalf (s : State) : Result := .next s.watchdogHalf
/-- WATCHDOG_TIMEOUT (R388). -/
def execWatchdogTimeout (s : State) : Result := .next (s.assertSource 4 .warm false)
/-- TWIN_RESET_REQUEST (R388). -/
def execTwinResetRequest (s : State) : Result := .next (if s.rst.twinEn then s.assertSource 5 .warm false else s)
/-- UPSTREAM_RESET (R388). -/
def execUpstreamReset (block : Option Nat) (s : State) : Result := .next (s.upstreamReset block)
/-- VCORE_LOSS (13 R377). -/
def execVcoreLoss (s : State) : Result := .next s.linksLost
/-- RELEASE_START (R390). -/
def execReleaseStart (s : State) : Result := .next s.releaseStart
/-- ISLAND_RELEASE (R392). -/
def execIslandRelease (i : Nat) (s : State) : Result := .next (s.islandRelease i)
/-- ISLAND_ABSENT (R393). -/
def execIslandAbsent (i : Nat) (s : State) : Result := .next (s.islandAbsent i)
/-- ISLAND_LATE_CLOCK (R393). -/
def execIslandLateClock (i : Nat) (s : State) : Result := .next (s.lateClock i)
/-- ISLAND_LOCK_LOSS (R392). -/
def execIslandLockLoss (i : Nat) (s : State) : Result := .next (s.lockLoss i)
/-- RST_OVERRIDE_WRITE (R394). -/
def execRstOverrideWrite (v : Word) (s : State) : Result := .next (s.writeOverride v)
/-- DRAM_TRAINED (R391). -/
def execDramTrained (s : State) : Result := .next (s.releaseStep .dram .sram)
/-- SRAM_CLEARED (R391). -/
def execSramCleared (s : State) : Result := .next (s.releaseStep .sram .image)
/-- HOST_READY (R391). -/
def execHostReady (s : State) : Result := .next s.hostReady
/-- QUIESCE_DONE (R397). -/
def execQuiesceDone (block : Nat) (s : State) : Result := .next (s.quiesceDone block)

end Sys2Proof.Machine
end

