-- ==== Sys2Proof/Machine/Boot.lean ====
section
/-! DEFINITION. The boot flash: selection of the firmware image, the board configuration record, and the image update commands
(14 R398-R400); and the instructions of the test access port (15 R439). -/
namespace Sys2Proof.Machine

namespace State

/-! ## Image selection (R398) -/

/-- The loader can take a slot. -/
def ImgSlot.loads (x : ImgSlot) : Bool := x.headerValid && x.authentic

/-- The slots in the order the loader tries them: the higher sequence first. -/
def slotOrder (s : State) : List Nat :=
  let a := s.boot.slots.getD 0 {}
  let b := s.boot.slots.getD 1 {}
  if a.headerValid && b.headerValid && decide ((a.seq - b.seq).toNat ≥ 2 ^ 31) then [1, 0] else [0, 1]

/-- The board configuration record is valid. -/
def boardOk (ws : List Word) : Bool := ws.getD 0 0 == 0x56484243 && ws.getD 15 0 == crc32 (wordsBytes (ws.take 15))

/-- Headwater loads the board configuration record, and sends the first VOUT_COMMAND with V_BOOT (09 R270, R277, R279). -/
def startGovernor (s : State) : State :=
  let p := match s.boot.board with
    | some ws =>
      if boardOk ws then
        let p := { s.pwr with pmbCfg := ws.getD 1 0, pmbCoef := ws.getD 2 0 }
        if govOk (ws.getD 3 0) then setGov p (ws.getD 3 0) else p
      else s.pwr
    | none => s.pwr
  ({ s with pwr := { p with fixed := !p.pmbCfg.getLsbD 31 } }).sendVout.nextPeriod

/-- IMAGE_SELECT: step 5 of the release (R391, R398). -/
def imageSelect (s : State) : State :=
  if s.rst.phase ≠ .image then s
  else
    let s := { s with rst := { s.rst with phase := .running }, spw := { s.spw with known := true } }
    match s.slotOrder.find? fun i => ImgSlot.loads (s.boot.slots.getD i {}) with
    | some i =>
      let x := s.boot.slots.getD i {}
      ({ s with boot := { s.boot with running := BitVec.ofNat 2 i, seq := x.seq, version := x.version, romOnly := false } }).startGovernor
    | none => { s with boot := { s.boot with running := 3, seq := 0, version := 0, romOnly := true } }

/-- GLB_BOOT. -/
def glbBoot (s : State) : Word :=
  BitVec.ofNat 32 (s.boot.seq.toNat % 65536 + 2 ^ 24 * s.boot.scriptState + 2 ^ 30 * s.boot.running.toNat)

/-! ## Image update (R399, R400) -/

/-- The slot that is not running. -/
def otherSlot (s : State) : Nat := if s.boot.running = 0 then 1 else 0

/-- IMAGE_UPDATE_BEGIN. While a commit is being written it is BUSY. -/
def bodyUpdateBegin (_ : Ctx) (p : Pkt) (s : State) : Verdict :=
  let old := match s.boot.update with | some u => u.beginPkts | none => []
  let committing := match s.boot.update with | some u => u.commit.isSome | none => false
  if p.w 0 % 4 ≠ 0 ∨ p.w 0 > 0x7FF000 then badParam 0
  else if committing then .fail stBusy 0
  else
    .later (({ s with boot := { s.boot with
      slots := updAt s.boot.slots s.otherSlot fun _ => {}
      update := some { length := p.w 0, version := BitVec.ofNat 32 (p.w 1), beginPkts := old ++ [p] } } }).emit (.flashErase s.otherSlot))

/-- IMAGE_ERASE_DONE. -/
def eraseDone (s : State) : State :=
  match s.boot.update with
  | some u =>
    if u.erasing then
      runAll (fun p s => s.finish p []) u.beginPkts
        { s with boot := { s.boot with update := some { u with erasing := false, beginPkts := [] } } }
    else s
  | none => s

/-- IMAGE_UPDATE_WRITE. -/
def bodyUpdateWrite (_ : Ctx) (p : Pkt) (s : State) : Verdict :=
  match s.boot.update with
  | none => .fail stNotReady 0
  | some u =>
    if u.erasing then .fail stNotReady 0
    else if p.w 0 ≠ u.written then badParam 0
    else if p.w 1 % 4 ≠ 0 ∨ p.w 1 > 4072 ∨ u.written + p.w 1 > u.length then badParam 1
    else
      let ws := (p.words.drop 2).take (p.w 1 / 4)
      .done [] (({ s with boot := { s.boot with update := some { u with written := u.written + p.w 1, data := u.data ++ ws } } }).emit
        (.flashWrite s.otherSlot (0x1000 + p.w 0) ws))

/-- IMAGE_UPDATE_COMMIT. -/
def bodyUpdateCommit (_ : Ctx) (p : Pkt) (s : State) : Verdict :=
  match s.boot.update with
  | none => .fail stNotReady 0
  | some u =>
    if u.erasing || decide (u.written ≠ u.length) then .fail stNotReady 0
    else if u.commit.isSome then .fail stBusy 0
    else if !Config.authentic u.data (p.words.take 16) then badParamAll
    else .accept { s with boot := { s.boot with update := some { u with commit := some p } } }

/-- IMAGE_COMMIT_DONE: the header stands, its CRC word last. -/
def commitDone (s : State) : State :=
  match s.boot.update with
  | none => s
  | some u =>
    match u.commit with
    | none => s
    | some p =>
      let seq := s.boot.seq + 1
      let s := s.emit (.flashHeader s.otherSlot seq u.version)
      ({ s with boot := { s.boot with
        update := none
        slots := updAt s.boot.slots s.otherSlot fun _ =>
          { headerValid := true, authentic := true, seq := seq, length := u.length, version := u.version } } }).finish p [seq]

/-! ## Test access port (15 R439) -/

/-- The IDCODE register. -/
def idcode (s : State) : Word :=
  let v := if s.fuse.letter = 0x41 ∧ s.fuse.digit = 0 then 0 else Config.jtagVersion s.fuse.letter s.fuse.digit
  BitVec.ofNat 32 (1 + 2 * Config.jedec.toNat + 2 ^ 12 * s.fuse.code.toNat + 2 ^ 28 * v.toNat)

/-- The debug island runs. -/
def debugRuns (s : State) : Bool := s.island 9 == .running

/-- JTAG_INSTRUCTION: the instruction selects its data register. What the boundary register captures at the balls is a free value. -/
def jtag (s : State) (code : Byte) : State :=
  if !s.debugRuns then s
  else if code = 0x00 ∨ code = 0x01 then
    let f := s.free 64
    { f.2 with tap := { f.2.tap with ir := code, dr := f.1 } }
  else if code = 0x02 then { s with tap := { s.tap with ir := code, dr := s.idcode.setWidth 64 } }
  else if code = 0x40 then { s with tap := { s.tap with ir := code, dr := s.tap.answer.setWidth 64 } }
  else { s with tap := { s.tap with ir := code, dr := 0 } }

end State

def opImageUpdateBegin : Op := { opcode := 0x0020, len := lenIs 16, body := State.bodyUpdateBegin }
def opImageUpdateWrite : Op := { opcode := 0x0021, len := lenVar 8 1, body := State.bodyUpdateWrite }
def opImageUpdateCommit : Op := { opcode := 0x0022, len := lenIs 64, res := fun _ _ => 4, body := State.bodyUpdateCommit }

/-- IMAGE_UPDATE_BEGIN (R399). -/
def execImageUpdateBegin (p : Pkt) (s : State) : Result := .next (State.carry opImageUpdateBegin p s)
/-- IMAGE_UPDATE_WRITE (R399). -/
def execImageUpdateWrite (p : Pkt) (s : State) : Result := .next (State.carry opImageUpdateWrite p s)
/-- IMAGE_UPDATE_COMMIT (R399). -/
def execImageUpdateCommit (p : Pkt) (s : State) : Result := .next (State.carry opImageUpdateCommit p s)
/-- IMAGE_SELECT (R398). -/
def execImageSelect (s : State) : Result := .next s.imageSelect
/-- IMAGE_ERASE_DONE (R399). -/
def execImageEraseDone (s : State) : Result := .next s.eraseDone
/-- IMAGE_COMMIT_DONE (R400). -/
def execImageCommitDone (s : State) : Result := .next s.commitDone
/-- JTAG_INSTRUCTION (15 R439). -/
def execJtagInstruction (code : Byte) (s : State) : Result := .next (s.jtag code)

end Sys2Proof.Machine
end

