-- ==== Sys2Proof/Machine/Loop.lean ====
section
/-! DEFINITION. The loop engine's work on an axis: the mailbox at lattice start, supervision, the computation, the history entry,
and the spare pipeline (03, 04 R113-R122). -/
namespace Sys2Proof.Machine

/-! ## The mailbox (04 R112-R117) -/

/-- KIND, MASK and SECTION of a commit word (R112). -/
def MbxSlot.kind (m : MbxSlot) : Nat := field m.commit.toNat 24 8
def MbxSlot.mask (m : MbxSlot) : Nat := field m.commit.toNat 16 5
def MbxSlot.section (m : MbxSlot) : Nat := field m.commit.toNat 0 2

/-- The 16-bit field of an entry at a byte offset of the slot. -/
def MbxSlot.half (m : MbxSlot) (off : Nat) : Half := halfAt (0 :: 0 :: m.data) off

/-- A malformed entry (R113). -/
def MbxSlot.malformed (m : MbxSlot) : Bool := decide (m.kind > 4) || (m.kind == 2 && m.mask == 0)

/-- REF entries count from this slot (R114). -/
def refSelected (a : Axis) (i : Nat) : Bool := if a.hdr.refSrc then decide (2 ≤ i) else decide (i < 2)

/-- Slots of eligible whole entries of a kind, with their indices. -/
def eligible (k kind : Nat) (snap : List MbxSlot) : List (Nat × MbxSlot) :=
  (mapI (fun i m => (i, m)) snap).filter fun x => x.2.kind == kind && !x.2.malformed && decide (x.2.tag.toNat ≤ k)

/-- The entry of the highest TAG, the higher slot of equals (R114). -/
def newest : List (Nat × MbxSlot) → Option (Nat × MbxSlot)
  | [] => none
  | x :: t => some (t.foldl (fun b c => if c.2.tag.toNat ≥ b.2.tag.toNat then c else b) x)

/-- Insertion by TAG, then slot. -/
def insertTag (x : Nat × MbxSlot) : List (Nat × MbxSlot) → List (Nat × MbxSlot)
  | [] => [x]
  | y :: t => if x.2.tag.toNat < y.2.tag.toNat then x :: y :: t else y :: insertTag x t

/-- Entries in ascending TAG and then ascending slot (R114). -/
def byTag (l : List (Nat × MbxSlot)) : List (Nat × MbxSlot) := l.foldl (fun s x => insertTag x s) []

/-- An entry is retired, unless its slot has been written since the lattice start (R112, R113). -/
def retire (snap : List MbxSlot) (a : Axis) (i : Nat) : Axis :=
  if a.mbx.getD i {} = snap.getD i {} then { a with mbx := updAt a.mbx i fun m => { m with commit := m.commit &&& 0x00FFFFFF } } else a

/-- An entry is rejected (R113). -/
def reject (snap : List MbxSlot) (a : Axis) (i : Nat) : Axis :=
  let a := retire snap a i
  { a with flags := a.flags ||| flagMbxReject, cnt := { a.cnt with mbxRej := satInc a.cnt.mbxRej } }

/-- A REF entry's values come into use (R113, R114). -/
def useRef (a : Axis) (x : Nat × MbxSlot) : Axis :=
  { a with use := { a.use with
      pRef := x.2.data.getD 0 0, pFrac := x.2.half 12, vRef := x.2.half 16, aRef := x.2.half 18
      refTag := x.2.tag, refSlot := some x.1 } }

/-- A SETPT entry's fields come into use (R113). -/
def useSetpt (a : Axis) (x : Nat × MbxSlot) : Axis :=
  let m := x.2.mask
  let on (b : Nat) : Bool := field m b 1 == 1
  { a with use := { a.use with
      spdSp := if on 0 then x.2.half 8 else a.use.spdSp
      trqSp := if on 1 then x.2.half 10 else a.use.trqSp
      r := (List.range 3).map fun j => if on (2 + j) then x.2.half (12 + 2 * j) else a.use.r.getD j 0
      setptTag := x.2.tag } }

/-- A BQ entry overrides its section's coefficients (R113). -/
def useBq (a : Axis) (x : Nat × MbxSlot) : Axis :=
  { a with loop := { a.loop with bq := updAt a.loop.bq x.2.section fun b => { b with
      ovr := true, b0 := x.2.half 8, b1 := x.2.half 10, b2 := x.2.half 12, a1 := x.2.half 14, a2 := x.2.half 16 } } }

/-- A PHASE entry is applied (R113, 10 R289). -/
def usePhase (a : Axis) (x : Nat × MbxSlot) : Axis :=
  State.Axis.phase a (signed 32 (x.2.data.getD 0 0).toNat * 65536 + (x.2.half 12).toNat) ((x.2.half 14).getLsbD 0)

/-- The mailbox of a computed axis is taken as the lattice start found it (R113, R114). -/
def takeMailbox (k : Nat) (snap : List MbxSlot) (a : Axis) : Axis :=
  let bad := indicesOf (fun m : MbxSlot => m.malformed) snap
  let refs := eligible k 1 snap
  let wrong := (refs.filter fun x => !refSelected a x.1).map Prod.fst
  let refs := refs.filter fun x => refSelected a x.1
  let setpts := byTag (eligible k 2 snap)
  let phases := byTag (eligible k 4 snap)
  let a := (bad ++ wrong).foldl (reject snap) a
  let a := match newest refs with
    | some x => (refs.filter fun y => y.1 != x.1).foldl (fun a y => retire snap a y.1) (useRef a x)
    | none => a
  let a := (setpts.foldl useSetpt a)
  let a := (setpts.dropLast).foldl (fun a y => retire snap a y.1) a
  let a := [0, 1, 2, 3].foldl (fun a sec =>
    let es := (eligible k 3 snap).filter fun x => x.2.section == sec
    match newest es with
    | some x => es.foldl (fun a y => retire snap a y.1) (useBq a x)
    | none => a) a
  phases.foldl (fun a x => retire snap (usePhase a x) x.1) a

/-! ## The history entry (04 R118, R121-R123) -/

/-- The cycle's entry: number, state, drive and integrators; the rest is the last computation's (R121, R122). -/
def stampEntry (a : Axis) (k : Nat) : Hist :=
  { a.live with
    cycle := BitVec.ofNat 64 k, flags := BitVec.ofNat 32 a.flags.toNat, state := BitVec.ofNat 3 a.state.code
    drive := BitVec.ofNat 2 a.drive.code, activeSet := a.hdr.activeSet
    iP := word31 a.loop.iP, iS := word31 a.loop.iS, iDint := word31 a.loop.iD, iQint := word31 a.loop.iQ }

/-- Flags of the cycle, their sticky copies, the live state and the history ring are written (R118, R120, R122, R123). -/
def writeHistory (k : Nat) (a : Axis) : Axis :=
  let e := stampEntry a k
  { a with
    live := e
    cnt := { a.cnt with
      now := a.flags, sticky := a.cnt.sticky ||| a.flags
      histLast := if a.cnt.frozen then a.cnt.histLast else BitVec.ofNat 64 k }
    hist := if a.cnt.frozen then a.hist else updAt a.hist (k % 64) fun _ => e }

namespace State

/-! ## Supervision (03 R90, R92-R95) -/

/-- FE_TIMER of a computed cycle (R92). -/
def feTimer (s : State) (i : Nat) : State :=
  let a := s.axis i
  let runs := match a.state with | .enabled | .stopping | .fault => true | _ => false
  if !runs || a.hdr.feLimit == 0 then s
  else if (signed 32 a.live.eInt.toNat).natAbs > a.hdr.feLimit then
    s.modAxis i fun a => { a with flags := a.flags ||| flagFeOver, cnt := { a.cnt with feTimer := satInc a.cnt.feTimer } }
  else (s.modAxis i fun a => { a with cnt := { a.cnt with feTimer := 0 } }).causeClear i 1

/-- A fault bit in the drive's status raises NODE_FAULT (R90, 05 R138). -/
def nodeFault (s : State) (i : Nat) : State :=
  let a := s.axis i
  if (s.localPort i).isSome then s
  else if a.status.getLsbD 0 then s.faultCause i 5 true
  else s.causeClear i 5

/-- The axis runs its full recipe (R97). -/
def runsFull (a : Axis) : Bool :=
  match a.state with
  | .enabled | .stopping => true
  | .fault => a.action == some 3
  | _ => false

/-- The axis is held by action 3 (R89). -/
def held3 (a : Axis) : Bool := a.state == .fault && a.action == some 3

/-- The references follow the feedback (R97, 10 R281). -/
def followFb (a : Axis) (p : Word) : Axis :=
  let x := a.coord p * oneCount
  { a with
    use := { a.use with pRef := p, pFrac := 0, vRef := 0, aRef := 0 }
    prof := { a.prof with x := x, v := 0, a := 0, px := x, pv := 0, pa := 0, plan := [], state := .idle } }

/-- A held axis keeps the position of the fault cycle (R89). -/
def holdRef (a : Axis) : Axis := { a with use := { a.use with pRef := a.holdPos, pFrac := 0, vRef := 0, aRef := 0 } }

/-- The hall code of a port's pins (11 R313). -/
def hallAngle : Nat → Option Nat
  | 1 => some 0x0000
  | 3 => some 0x2AAB
  | 2 => some 0x5555
  | 6 => some 0x8000
  | 4 => some 0xAAAB
  | 5 => some 0xD555
  | _ => none

/-- The first p_rev at or past an electrical angle (log entry 29). -/
def pRevAt (a : Axis) (angle : Nat) : Nat :=
  let mul := a.par 0x0F0
  let t := wrap 16 ((angle : Int) - field (a.par 0x0F4) 0 16)
  if mul = 0 then a.loop.pRev else ceilDiv (t * 65536) mul % countsPerRev a

/-- The hall start at the first computation in ENABLED (11 R313). -/
def hallStart (s : State) (i : Nat) : State :=
  let a := s.axis i
  match s.localPort i with
  | none => s
  | some n =>
    let port := s.lport n
    let w := (port.cfg.getD 0 0).toNat
    if a.hallPending && a.state == .enabled then
      let s := s.modAxis i fun a => { a with hallPending := false }
      if field w 3 1 = 1 then
        match hallAngle (field port.pins.toNat 6 3) with
        | some t => s.modAxis i fun a => { a with loop := { a.loop with pRev := pRevAt a ((t + field w 16 16) % 65536) } }
        | none => (s.modAxis i fun a => { a with loop := { a.loop with pRev := 0 } }).modLPort n fun p =>
            { p with fbk := { p.fbk with stat := p.fbk.stat ||| 0x80 } }
      else s
    else s

/-- Samples, compares and registration marks of an axis at IN (10 R288, R295, R298). -/
def atIn (s : State) (i : Nat) (p : Word) : State :=
  let a := s.axis i
  let port := (s.axisPort i).getD 0
  let now := (a.coord p, s.sampleNs port)
  let s := s.modAxis i fun a => { a with prof := { a.prof with fb1 := some now, fb2 := a.prof.fb1, fb3 := a.prof.fb2 } }
  let s := match a.prof.fb1 with | some prev => s.comparesAtIn i prev now | none => s
  s.closeMarks i now

/-- STOPPING counts the cycles at standstill, and ends at the sixteenth (R96). -/
def countStill (s : State) (i : Nat) : State :=
  let a := s.axis i
  if a.state ≠ .stopping then s
  else
    let still := a.prof.v = 0 ∧ a.prof.plan = [] ∧ (ofHalf a.live.v).natAbs ≤ a.hdr.standstill
    (s.modAxis i fun a => { a with still := if still then a.still + 1 else 0 }).standstill i

/-- Method 3 of HOME counts the cycles above its torque threshold (10 R292). -/
def countTorque (s : State) (i : Nat) : State :=
  let a := s.axis i
  let h := a.prof.homing
  if a.prof.state = .homing ∧ h.method = 3 ∧ h.found = false then
    let above := (ofHalf a.live.tauLm).natAbs > h.tqThresh.natAbs
    (s.modAxis i fun a => { a with prof := { a.prof with homing := { a.prof.homing with tqRun := if above then h.tqRun + 1 else 0 } } }).hardStop i
  else s

/-- A ramp stop that was due with the next computation begins in it (03 R93, 10 R286). -/
def dueRamp (s : State) (i : Nat) : State :=
  let a := s.axis i
  if a.state = .stopping ∧ a.rampDue = true then
    (s.modAxis i fun a => { a with rampDue := false }).startRamp i a.prof.dec true
  else s

/-- The computation of one axis (03 R82, R93, R97, 04 R114-R122). -/
def computeAxis (s : State) (i : Nat) (r : Recipe) (f : Fb) (done : Nat) : State :=
  let k := s.k
  -- the mailbox
  let s := s.modAxis i fun a =>
    let a := if runsFull a then takeMailbox k (a.mbxSnap.getD a.mbx) a else followFb a f.p
    { a with status := f.status, tauPrev := a.live.tauLm, flags := a.flags ||| flagComputed }
  -- IN and SE
  let w := stageIn (s.axis i) r f k
  let s := s.modAxis i fun a => { a with loop := w.loop, live := { w.h with eInt := BitVec.ofInt 32 (eIntOf a.use.pRef f.p) } }
  let s := (s.hallStart i).atIn i f.p
  -- supervision, causes in ascending order
  let s := (((s.feTimer i).followingError i true).nodeFault i).dueRamp i
  -- the pass that the state now calls for
  let a := s.axis i
  let full := runsFull a
  let hold := held3 a
  let stale := decide (a.state = .enabled) && r.stages.contains .pe && decide (a.use.refTag.toNat < k)
  let a := if hold then holdRef a else if full then a else followFb a f.p
  let micro := match s.localPort i with | some n => field (((s.lport n).cfg.getD 1 0).toNat) 16 4 | none => 0
  let ms := (List.range (ctCount r)).map fun j => s.sourceValue (a.par (0x030 + 0x10 * j))
  let xs := (List.range (min 4 (r.stages.count .xc))).map fun j =>
    if s.lpe.xcOff then 0 else (s.sourceValue (a.par (0x060 + 8 * j))).getD 0
  let w := stageRef a (stageAngle a r f micro k { w with loop := a.loop, h := a.live })
  let w := if full then runRecipe a r hold ms xs w else idleRecipe w
  let fl := w.fl ||| flagIf stale flagMbxStale
  let s := s.modAxis i fun b => { a with
    loop := { w.loop with
      out0 := w.h.out0, out1 := w.h.out1, out2 := w.h.out2, pOut := w.h.pRef, pOutFrac := w.h.pFrac }
    live := { w.h with done := BitVec.ofNat 32 done }
    computed := true, held := false
    flags := b.flags ||| fl
    cnt := { a.cnt with
      missRun := 0
      sat := if fl &&& flagSat ≠ 0 then satInc a.cnt.sat else a.cnt.sat
      ctMiss := if fl &&& flagContenderMiss ≠ 0 then satInc a.cnt.ctMiss else a.cnt.ctMiss
      mbxStale := if stale then satInc a.cnt.mbxStale else a.cnt.mbxStale } }
  let s := (s.modAxis i fun a => { a with missAgain := 0 }).causeClear i 2
  let s := (s.countTorque i).countStill i
  s.modAxis i (writeHistory k)

/-! ## Lattices (01 R13, 03 R68) -/

/-- A lattice starts: the mailbox of each of its axes is found as it stands (04 R114, R115). An axis that is DISABLED then is not
computed in this cycle, whatever becomes of it (log entry 95). -/
def startLattice (s : State) (l : Nat) : State :=
  let s := { s with lpe := { s.lpe with lats := updAt s.lpe.lats l fun x => { x with started := true } } }
  runAll (fun x s => s.modAxis x.1 fun a => if a.state = .disabled then a else { a with mbxSnap := some a.mbx }) (s.latAxes l) s

/-- LATTICE_START: all the feedback it waits for has arrived (01 R13). -/
def latticeStart (s : State) (l : Nat) : State :=
  let lat := s.lpe.lats.getD l {}
  if l < s.nLats ∧ lat.started = false ∧ ((s.latAxes l).all fun x => s.axisReady x.1 x.2) = true then s.startLattice l else s

/-- The next slot position of a pipeline whose axis is computed in this cycle, from a position on. -/
def nextSlot (s : State) (l pipe : Nat) : Nat → Nat → Option (Nat × Nat × Recipe × Fb)
  | 0, _ => none
  | fuel + 1, pos =>
    if pos ≥ 4 then none
    else
      match s.slotAxis l (4 * pipe + pos) with
      | none => s.nextSlot l pipe fuel (pos + 1)
      | some (i, r) =>
        if (s.axis i).state = .disabled ∨ (s.axis i).mbxSnap = none ∨ s.offCycle i = true then s.nextSlot l pipe fuel (pos + 1)
        else
          match s.feedback i with
          | some f => some (pos, i, r, f)
          | none => s.nextSlot l pipe fuel (pos + 1)

/-- AXIS_COMPUTE: a pipeline finishes its next axis before D_X (03 R68, 01 R27). -/
def axisCompute (s : State) (l pipe done : Nat) : State :=
  let lat := s.lpe.lats.getD l {}
  if l < s.nLats ∧ pipe < 4 ∧ lat.started = true ∧ done ≤ s.dX then
    match s.nextSlot l pipe 5 (lat.nextPos.getD pipe 0) with
    | none => s
    | some (pos, i, r, f) =>
      let s := s.computeAxis i r f done
      { s with lpe := { s.lpe with lats := updAt s.lpe.lats l fun x => { x with
          nextPos := updAt x.nextPos pipe fun _ => pos + 1, lastDone := max x.lastDone done } } }
  else s

end State

/-- LATTICE_START (01 R13). -/
def execLatticeStart (lat : Nat) (s : State) : Result := .next (s.latticeStart lat)
/-- AXIS_COMPUTE (03 R68): the axis finishes at `doneNs` after C(k). -/
def execAxisCompute (lat pipe doneNs : Nat) (s : State) : Result := .next (s.axisCompute lat pipe doneNs)

end Sys2Proof.Machine
end

