-- ==== Sys2Proof/Machine/RegMap.lean ====
section
/-! DEFINITION. BAR0: every register and window as it reads, as a read clears it, and as a write changes it (02 R36, R37), with
boundary scan's access to it (15 R440). -/
namespace Sys2Proof.Machine

/-- The words of a 64-bit register at offset 0 and 4 from its own. -/
def half64 (v : Nat) (off : Nat) : Word := BitVec.ofNat 32 (if off % 8 = 0 then v else v / 2 ^ 32)

namespace State

/-! ## Words (02, 14, 15) -/

/-- GLB_. -/
def glbWord (s : State) (off : Nat) : Word :=
  if off = 0x00 then s.fuse.code ++ s.fuse.letter ++ s.fuse.digit
  else if off = 0x10 then s.fuse.id0
  else if off = 0x14 then s.fuse.id1
  else if off = 0x18 then s.fuse.id2
  else if off = 0x1C then BitVec.ofNat 32 s.glbId3
  else if off = 0x20 then BitVec.ofNat 32 (s.host.evtRing.toNat + 2 ^ 8 * b2n s.host.evtEn + 2 ^ 16 * s.host.evtDropped.toNat)
  else if off = 0x24 then s.glbBoot
  else 0

/-- A ring's registers. -/
def rngWord (r : Ring) (off : Nat) : Word :=
  if off = 0x00 ∨ off = 0x04 then half64 r.base.toNat off
  else if off = 0x08 then BitVec.ofNat 32 (r.type.toNat + 2 ^ 4 * r.sizeLog2.toNat + 2 ^ 12 * r.vector.toNat + 2 ^ 18 * r.cplRing.toNat
    + 2 ^ 30 * b2n r.prio + 2 ^ 31 * b2n r.enable)
  else if off = 0x0C then r.tail.setWidth 32
  else if off = 0x10 then r.head.setWidth 32
  else if off = 0x14 then BitVec.ofNat 32 (b2n r.running + 2 * b2n (r.enable && r.isFull) + 4 * b2n r.idxErr + 8 * b2n r.dmaErr
    + 16 * b2n r.cfgErr + 2 ^ 16 * r.evtLost.toNat)
  else if off = 0x18 then BitVec.ofNat 32 (r.imodCount.toNat + 2 ^ 16 * r.imodTime.toNat)
  else 0

/-- IRQ_. The mask bit of an MSI-X entry is held inverted. -/
def irqWord (s : State) (off : Nat) : Word :=
  if off < 0x400 then (if off % 16 = 12 then cellGet s.host.msix off ^^^ 1 else cellGet s.host.msix off)
  else if off = 0x800 ∨ off = 0x804 then half64 s.host.pba.toNat off
  else if off = 0x1000 then s.host.cause.setWidth 32
  else if off = 0x1004 then s.host.mask.setWidth 32
  else if off = 0x1010 then half64 s.host.intx.toNat 0
  else if off = 0x1014 then half64 s.host.intx.toNat 4
  else 0

/-! ## Words (06, 07, 11) -/

/-- A domain's block. -/
def domWord (s : State) (d : Dom) (off : Nat) : Word :=
  let x := s.domain d
  if off = 0x00 ∨ off = 0x04 then half64 (s.domIncr d).toNat off
  else if off = 0x08 then x.theta
  else if off = 0x0C then
    BitVec.ofInt 32 (clampI (-(2 ^ 31)) (2 ^ 31 - 1) (((x.cnt.fine : Int) - s.tmb.served.fine) / 2 ^ 32))
  else if off = 0x10 then BitVec.ofNat 32 (x.syncCount.toNat + 2 ^ 16 * x.steps.toNat + 2 ^ 31 * b2n x.clamp)
  else 0

/-- TMB_. -/
def tmbWord (s : State) (off : Nat) : Word :=
  let t := s.tmb
  if off = 0x00 then BitVec.ofNat 32 (t.select.toNat + 4 * dstateCode t.domP.state + 16 * dstateCode t.domS.state + 64 * b2n t.slewing
    + 128 * b2n (!s.maySteps) + 256 * s.timeTarget + 2048 * b2n t.dlyDrift)
  else if off = 0x10 then t.served.ns.setWidth 32
  else if off = 0x18 ∨ off = 0x1C then half64 t.latSec.toNat off
  else if off = 0x20 then t.latFrac
  else if off = 0x28 ∨ off = 0x2C then half64 t.incrNom.toNat off
  else if off = 0x30 ∨ off = 0x34 then half64 t.holdIncr.toNat off
  else if off = 0x40 ∨ off = 0x44 then half64 t.epoch off
  else if off = 0x48 ∨ off = 0x4C then half64 s.k off
  else if off = 0x80 then BitVec.ofNat 32 ((mapI (fun i x => (Snap.state x).toNat * 4 ^ i) t.snaps).foldl (· + ·) 0)
  else if 0x100 ≤ off ∧ off < 0x200 then s.domWord .p (off - 0x100)
  else if 0x200 ≤ off ∧ off < 0x300 then s.domWord .s (off - 0x200)
  else 0

/-- Semaphores a core owns. -/
def semsHeld (s : State) (c : Nat) : Nat := (mapI (fun i o => if o = some c then 2 ^ i else 0) s.eddy.sems).foldl (· + ·) 0

/-- EDY_, of one core. -/
def edyWord (s : State) (c off : Nat) : Word :=
  let x := s.core c
  if c ≥ s.nCores then 0
  else if off = 0x00 then BitVec.ofNat 32 (b2n x.haltReq)
  else if off = 0x04 then BitVec.ofNat 32 (x.flow.getD 0 + 2 ^ 24 * x.waitKind + 2 ^ 28 * CState.code x.state + 2 ^ 31 * b2n x.imageValid)
  else if off = 0x08 then x.regs.pc.setWidth 32
  else if off = 0x10 then BitVec.ofNat 32 (x.faultPc.toNat + 2 ^ 14 * x.faultFlow.toNat + 2 ^ 24 * x.faultCode.toNat)
  else if off = 0x20 then x.cntDone
  else if off = 0x24 then x.cntRt ++ x.cntFault
  else if off = 0x28 then x.semAuto ++ x.eccCorr
  else if off = 0x30 ∨ off = 0x34 then half64 x.steps.toNat off
  else if off = 0x38 ∨ off = 0x3C then half64 x.busy.toNat off
  else if off = 0x40 ∨ off = 0x44 then half64 (s.semsHeld c) off
  else if 0x100 ≤ off ∧ off < 0x1E4 then (if x.state = .halted then x.regs.debugRead ((off - 0x100) / 4) else 0)
  else 0

/-- AXP_, of one port, with FBK_, PWM_ and EMU_. -/
def axpWord (s : State) (n off : Nat) : Word :=
  let p := s.lport n
  let f := p.fbk
  let w := p.pwm
  if n ≥ s.nLocal then 0
  else if off = 0x0000 then p.pins.setWidth 32
  else if 0x0100 ≤ off ∧ off < 0x016C then p.cfg.getD ((off - 0x100) / 4) 0
  else if off = 0x1000 then f.raw
  else if off = 0x1004 then f.filt
  else if off = 0x1008 then BitVec.ofNat 32 f.revpos
  else if off = 0x100C then f.idxDelta
  else if off = 0x1010 then f.mismatch ++ f.illegal
  else if off = 0x1014 then BitVec.ofNat 32 (f.stat.toNat + 2 ^ 30 * b2n f.referenced + 2 ^ 31 * b2n f.dirNeg)
  else if off = 0x1018 ∨ off = 0x101C then half64 f.serData.toNat off
  else if off = 0x1020 then f.serDly.setWidth 32
  else if 0x1030 ≤ off ∧ off < 0x103C then p.sdFree.getD ((off - 0x1030) / 4) 0 ++ p.sdLatched.getD ((off - 0x1030) / 4) 0
  else if off = 0x2000 then w.period.setWidth 32
  else if 0x2004 ≤ off ∧ off < 0x2014 then (w.cmps.getD ((off - 0x2004) / 4) 0).setWidth 32
  else if off = 0x2014 then BitVec.ofNat 32 (2 ^ 8 * w.written.toNat + 2 ^ 12 * w.actPeriod.toNat + 2 ^ 28 * b2n w.err + 2 ^ 29 * b2n w.commit
    + 2 ^ 30 * b2n w.pairHold + 2 ^ 31 * b2n w.pairPending)
  else if off = 0x2020 then BitVec.ofNat 32 (w.causes.toNat + 2 ^ 8 * w.first.toNat + 2 ^ 31 * b2n w.latched)
  else if off = 0x2028 then w.stretch ++ w.drop
  else if off = 0x3000 ∨ off = 0x3004 then half64 (wrap 64 p.emu.o) (off - 0x3000)
  else if off = 0x3008 then BitVec.ofNat 32 (p.emu.lag.toNat + 2 ^ 29 * b2n p.emu.monoHold + 2 ^ 30 * b2n p.emu.lost
    + 2 ^ 31 * b2n (p.emu.en && !p.emu.lost && !p.emu.halted))
  else 0

/-! ## Reads (02 R36, R37) -/

/-- The word at an offset of BAR0 that is a multiple of 4. What the staging buffer shows is a free value. -/
def bar0Word (s : State) (a : Nat) : Word × State :=
  if a < 0x10000 then (s.glbWord a, s)
  else if a < 0x14000 then (rngWord (s.ring ((a - 0x10000) / 0x100)) (a % 0x100), s)
  else if a < 0x20000 then (0, s)
  else if a < 0x30000 then (s.irqWord (a - 0x20000), s)
  else if a < 0x40000 then (s.rstWord (a - 0x30000), s)
  else if a < 0x50000 then (s.pwrWord (a - 0x40000), s)
  else if a < 0x60000 then (s.spwWord (a - 0x50000), s)
  else if a < 0x70000 then (s.twnWord (a - 0x60000), s)
  else if a < 0x100000 then (0, s)
  else if a < 0x200000 then (s.tmbWord (a - 0x100000), s)
  else if a < 0x300000 then (s.netWord (a - 0x200000), s)
  else if a < 0x400000 then (s.schWord (a - 0x300000), s)
  else if a < 0x500000 then (s.lpeWord (a - 0x400000), s)
  else if a < 0x600000 then (s.acqWord (a - 0x500000), s)
  else if a < 0x700000 then (s.axpWord ((a - 0x600000) / 0x10000) (a % 0x10000), s)
  else if a < 0x800000 then (0, s)
  else if a < 0xA00000 then (s.edyWord ((a - 0x800000) / 0x10000) (a % 0x10000), s)
  else if a < 0x1000000 then (0, s)
  else if a < 0x1400000 then (s.recRead ((a - 0x1000000) / 0x4000) (a % 0x4000), s)
  else if a < 0x2000000 then (0, s)
  else if a < 0x2800000 then (s.edyMemWord (a - 0x2000000), s)
  else if a < 0x3000000 then (0, s)
  else if a < 0x3800000 then s.acqMemWord (a - 0x3000000)
  else (0, s)

/-- What a read clears or latches, in the NET_ and SCH_ blocks. -/
def readClearNet (s : State) (o : Nat) : State :=
  if o < 0xC0000 then
    if o % 0x4000 = 0x20 ∧ o / 0x4000 < s.nPorts then s.modMPort (o / 0x4000) fun p => { p with fcsCount := 0, lateCount := 0 } else s
  else if 0xC1000 ≤ o ∧ o < 0xC5000 ∧ o % 16 = 12 then s.modNode ((o - 0xC1000) / 16) fun x => { x with cmdMissCnt := 0, tieCnt := 0 }
  else s

/-- What a read clears or latches, by the access codes RC of the register tables. -/
def readClear (s : State) (a : Nat) : State :=
  if a = 0x20 then { s with host := { s.host with evtDropped := 0 } }
  else if 0x10000 ≤ a ∧ a < 0x14000 ∧ a % 0x100 = 0x14 then s.modRing ((a - 0x10000) / 0x100) fun r => { r with evtLost := 0 }
  else if a = 0x30010 then { s with rst := { s.rst with blkCount := 0 } }
  else if a = 0x40048 then { s with pwr := { s.pwr with fails := 0 } }
  else if a = 0x50018 then { s with spw := { s.spw with stores := 0, noneCnt := 0 } }
  else if a = 0x60018 then { s with twn := { s.twn with mismatchCnt := 0, missCnt := 0 } }
  else if a = 0x6001C then { s with twn := { s.twn with spareCnt := 0, marchCnt := 0, eddyCnt := 0 } }
  else if a = 0x100010 then { s with tmb := { s.tmb with latSec := s.tmb.served.sec, latFrac := s.tmb.served.frac } }
  else if a = 0x100110 then s.modDomain .p fun d => { d with steps := 0, syncCount := 0 }
  else if a = 0x100210 then s.modDomain .s fun d => { d with steps := 0, syncCount := 0 }
  else if 0x200000 ≤ a ∧ a < 0x300000 then s.readClearNet (a - 0x200000)
  else if 0x310000 ≤ a ∧ a < 0x314000 ∧ a % 16 = 12 then s.modFlow ((a - 0x310000) / 16) fun f => { f with coalesced := 0, holds := 0 }
  else if a = 0x400014 then { s with lpe := { s.lpe with slackLow := 0x7FFFFF, slackLowLat := 0 } }
  else if a = 0x500008 then { s with acq := { s.acq with ignored := 0, busy := 0 } }
  else if a = 0x50000C then { s with acq := { s.acq with close := 0, excess := 0 } }
  else if a = 0x500018 then { s with acq := { s.acq with lost := 0 } }
  else if 0x600000 ≤ a ∧ a < 0x700000 ∧ a % 0x10000 = 0x2028 then
    (if (a - 0x600000) / 0x10000 < s.nLocal then s.modLPort ((a - 0x600000) / 0x10000) fun p => { p with pwm := { p.pwm with drop := 0, stretch := 0 } } else s)
  else if 0x800000 ≤ a ∧ a < 0xA00000 then
    let c := (a - 0x800000) / 0x10000
    if c ≥ s.nCores then s
    else if a % 0x10000 = 0x24 then s.modCore c fun x => { x with cntRt := 0, cntFault := 0 }
    else if a % 0x10000 = 0x28 then s.modCore c fun x => { x with semAuto := 0, eccCorr := 0 }
    else s
  else s

/-- A read of BAR0 answers the enclosing word; an emulator's position is that of the present. -/
def readBar0 (s : State) (addr : Nat) : Word × State :=
  let a := addr / 4 * 4
  let s := if 0x600000 ≤ a ∧ a < 0x700000 then s.emuAll else s
  let r := s.bar0Word a
  (r.1, r.2.readClear a)

/-! ## Writes (02 R37) -/

/-- A register's bits cleared by ones written. -/
def w1c {w : Nat} (old : BitVec w) (v : Word) : BitVec w := old &&& ~~~(v.setWidth w)

/-- A write of a ring's registers (02 R39, R40). -/
def writeRng (s : State) (n off : Nat) (v : Word) : State :=
  let en := (s.ring n).enable
  if off = 0x00 then (if en then s else s.modRing n fun r => { r with base := r.base.extractLsb' 32 32 ++ (v &&& 0xFFFFFFC0) })
  else if off = 0x04 then (if en then s else s.modRing n fun r => { r with base := v ++ r.base.extractLsb' 0 32 })
  else if off = 0x08 then s.writeRingCtrl n v
  else if off = 0x0C then s.writeTail n v
  else if off = 0x10 then s.writeHead n v
  else if off = 0x14 then s.modRing n fun r => { r with
    idxErr := r.idxErr && !v.getLsbD 2, dmaErr := r.dmaErr && !v.getLsbD 3, cfgErr := r.cfgErr && !v.getLsbD 4 }
  else if off = 0x18 then s.modRing n fun r => { r with imodTime := v.extractLsb' 16 16, imodCount := v.extractLsb' 0 8 }
  else s

/-- A write of the MSI-X table; an entry that is unmasked sends its pending vector (log entry 14). -/
def writeMsix (s : State) (off : Nat) (v : Word) : State :=
  if off % 16 = 0 then { s with host := { s.host with msix := cellSet s.host.msix off (v &&& 0xFFFFFFFC) } }
  else if off % 16 ≠ 12 then { s with host := { s.host with msix := cellSet s.host.msix off v } }
  else
    let n := off / 16
    let s := { s with host := { s.host with msix := cellSet s.host.msix off (if v.getLsbD 0 then 0 else 1) } }
    if !v.getLsbD 0 && s.host.pba.getLsbD n then
      ({ s with host := { s.host with pba := s.host.pba &&& ~~~(BitVec.ofNat 64 (2 ^ n)) } }).sendVector n
    else s

/-- IRQ_. -/
def writeIrq (s : State) (off : Nat) (v : Word) : State :=
  if off < 0x400 then s.writeMsix off v
  else if off = 0x1000 then s.clearCauses v
  else if off = 0x1004 then s.writeMask v
  else if off = 0x1010 then s.clearIntx false v
  else if off = 0x1014 then s.clearIntx true v
  else s

/-- PWR_: the settings take effect at the next governor period (09 R272). -/
def writePwr (s : State) (off : Nat) (v : Word) : State :=
  if off = 0x00 then { s with pwr := { s.pwr with pmbFault := s.pwr.pmbFault && !v.getLsbD 29 } }
  else if off = 0x0C then s.writeGov v
  else if off = 0x40 then { s with pwr := { s.pwr with pmbNext := some (v &&& 0xF81F007F) } }
  else if off = 0x44 then { s with pwr := { s.pwr with coefNext := some v } }
  else s

/-- TMB_. -/
def writeTmb (s : State) (off : Nat) (v : Word) : State :=
  if off = 0x00 then { s with tmb := { s.tmb with dlyDrift := s.tmb.dlyDrift && !v.getLsbD 11 } }
  else if off = 0x28 then s.writeIncrNom (BitVec.ofNat 64 (v.toNat + s.tmb.incrNom.toNat / 2 ^ 32 * 2 ^ 32))
  else if off = 0x2C then s.writeIncrNom (BitVec.ofNat 64 (s.tmb.incrNom.toNat % 2 ^ 32 + v.toNat % 256 * 2 ^ 32))
  else if off = 0x110 then s.modDomain .p fun d => { d with clamp := d.clamp && !v.getLsbD 31 }
  else if off = 0x210 then s.modDomain .s fun d => { d with clamp := d.clamp && !v.getLsbD 31 }
  else s

/-- An entry of the copy list (05 R165). -/
def copyOf (v : Word) : Copy :=
  { en := v.getLsbD 31, wide := v.getLsbD 30, axis := v.extractLsb' 22 8, src := v.extractLsb' 15 7, dst := v.extractLsb' 0 10 }

/-- NET_. -/
def writeNet (s : State) (o : Nat) (v : Word) : State :=
  if o < 0xC0000 then
    if o % 0x4000 = 0x08 ∧ o / 0x4000 < s.nPorts then s.modMPort (o / 0x4000) fun p => { p with stat := w1c p.stat v } else s
  else if o = 0xC0000 then s.writeEtype v
  else if o = 0xC0004 then s.writeClaim v
  else if 0xC0400 ≤ o ∧ o < 0xC0600 then s.modConf fun c => { c with copy := updAt c.copy ((o - 0xC0400) / 4) fun _ => copyOf v }
  else s.confOutWrite (o - 0xC0000) v

/-- AXP_, of one port. -/
def writeAxp (s : State) (n off : Nat) (v : Word) : State :=
  if n ≥ s.nLocal then s
  else if off = 0x1014 then s.modLPort n fun p => { p with fbk := { p.fbk with stat := w1c p.fbk.stat (v &&& 0xF3) } }
  else if off = 0x2000 then s.writePeriod n v
  else if 0x2004 ≤ off ∧ off < 0x2014 then s.writeCmp n ((off - 0x2004) / 4) v
  else if off = 0x2014 then s.writeCommit n v
  else if off = 0x2024 then s.writeFltclr n v
  else s

/-- EDY_, of one core. -/
def writeEdy (s : State) (c off : Nat) (v : Word) : State :=
  if off = 0x00 then s.writeEdyCtrl c v
  else if 0x100 ≤ off ∧ off < 0x1E4 then s.writeEdyReg c ((off - 0x100) / 4) v
  else s

/-- A write of the word at an offset of BAR0 that is a multiple of 4; read-only words and unlisted offsets ignore it. -/
def writeWord (s : State) (a : Nat) (v : Word) : State :=
  if a = 0x20 then s.writeRoute v
  else if 0x10000 ≤ a ∧ a < 0x14000 then s.writeRng ((a - 0x10000) / 0x100) (a % 0x100) v
  else if 0x20000 ≤ a ∧ a < 0x30000 then s.writeIrq (a - 0x20000) v
  else if a = 0x30004 then s.writeRstCfg v
  else if a = 0x3000C then s.writeOverride v
  else if 0x40000 ≤ a ∧ a < 0x50000 then s.writePwr (a - 0x40000) v
  else if 0x100000 ≤ a ∧ a < 0x200000 then s.writeTmb (a - 0x100000) v
  else if 0x200000 ≤ a ∧ a < 0x300000 then s.writeNet (a - 0x200000) v
  else if 0x300010 ≤ a ∧ a < 0x300020 then s.writeDlyTick ((a - 0x300010) / 4) v
  else if a = 0x400000 then { s with lpe := { s.lpe with spareCheck := v.getLsbD 0, xcOff := v.getLsbD 1 } }
  else if 0x600000 ≤ a ∧ a < 0x700000 then s.writeAxp ((a - 0x600000) / 0x10000) (a % 0x10000) v
  else if 0x800000 ≤ a ∧ a < 0xA00000 then s.writeEdy ((a - 0x800000) / 0x10000) (a % 0x10000) v
  else if 0x1000000 ≤ a ∧ a < 0x1400000 then s.recWrite false ((a - 0x1000000) / 0x4000) (a % 0x4000) v
  else if 0x2000000 ≤ a ∧ a < 0x2800000 then s.edyMemWrite (a - 0x2000000) v
  else s

/-- A write of BAR0: 4 or 8 bytes, aligned; any other is ignored (02 R37). -/
def writeBar0 (s : State) (addr size : Nat) (v : DWord) : State :=
  if size = 4 ∧ addr % 4 = 0 then s.writeWord addr (v.extractLsb' 0 32)
  else if size = 8 ∧ addr % 8 = 0 then (s.writeWord addr (v.extractLsb' 0 32)).writeWord (addr + 4) (v.extractLsb' 32 32)
  else s

/-! ## Boundary scan (15 R440) -/

/-- The island of the block at an offset, for the blocks that an island clocks (14 R392; log entry 67). -/
def islandOf (a : Nat) : Option Nat :=
  if 0x100000 ≤ a ∧ a < 0x200000 then some 1
  else if 0x200000 ≤ a ∧ a < 0x300000 then some 2
  else if 0x10000 ≤ a ∧ a < 0x30000 then some 4
  else if 0x600000 ≤ a ∧ a < 0x700000 then some 6
  else none

/-- REG_ACCESS_UPDATE: a write, or a read whose answer the next Capture-DR takes. -/
def regAccess (s : State) (dr : DWord) : State :=
  if !s.debugRuns || s.tap.ir != 0x40 then s
  else
    let a := 4 * field dr.toNat 32 24
    let dead : Bool := match islandOf a with | some i => (s.island i == .inReset || s.island i == .absent) | none => false
    if dead then { s with tap := { s.tap with answer := 0xFFFFFFFF, dr := 0xFFFFFFFF } }
    else if dr.getLsbD 63 then s.writeWord a (dr.extractLsb' 0 32)
    else
      let r := s.readBar0 a
      { r.2 with tap := { r.2.tap with answer := r.1, dr := r.1.setWidth 64 } }

/-- RC_REGISTER_READ, and any other read of BAR0: the value answered is kept for the reader. -/
def hostRead (s : State) (addr : Nat) : State :=
  let r := s.readBar0 addr
  { r.2 with lastRead := r.1.setWidth 64 }

end State

/-- REG_ACCESS_UPDATE (15 R440). -/
def execRegAccessUpdate (dr : DWord) (s : State) : Result := .next (s.regAccess dr)
/-- RC_REGISTER_READ (02 R37). -/
def execRcRegisterRead (addr : Nat) (s : State) : Result := .next (s.hostRead addr)
/-- REGISTER_WRITE (02 R37). -/
def execRegisterWrite (addr size : Nat) (v : DWord) (s : State) : Result := .next (s.writeBar0 addr size v)

end Sys2Proof.Machine
end

