-- ==== Sys2Proof/Machine/Cycle.lean ====
section
/-! DEFINITION. The control cycle's own instants: the sample instant, D_U and D_X (01 R12-R31, 02 R442, 03 R93, 04 R119-R123,
05 R129-R137, R159). -/
namespace Sys2Proof.Machine

namespace State

/-- The sequence of 14 R391 has ended and no reset is asserted: the part has cycles. -/
def running (s : State) : Bool := s.rst.phase == .running

/-! ## The sample instant (01 R12, 11 R305) -/

/-- A port at the begin of a cycle: settings of NET_JOIN_CONFIGURE, and at the begin of a line cycle nothing has come yet. -/
def portBegins (s : State) (i : Nat) (p : MPort) : MPort :=
  let p := joinSettings s.k p
  if s.lineBegins i then { p with fSeen := false, loopedDir0 := false, loopedDir1 := false, turnLo := none, turnHi := none } else p

/-- A node at the begin of a cycle. -/
def nodeBegins (s : State) (n : Node) : Node :=
  if s.lineBegins n.port.toNat then { n with slotNow := none, judged := false } else n

/-- POST is latched at the end of the cycle of a freeze (04 R123). -/
def latchPost (k : Nat) (c : Cnts) : Cnts :=
  match c.freezeLeft with
  | some (f, none) => if k > f then { c with freezeLeft := some (f, some (f + c.post.toNat)) } else c
  | _ => c

/-- An axis at the begin of a cycle. Flags raised since the last D_X count for the new cycle. -/
def axisBegins (k : Nat) (a : Axis) : Axis :=
  { a with
    flags := a.flags &&& ~~~a.cnt.now, computed := false, fbMissing := false, held := false, mbxSnap := none
    drive := driveOf a.state a.action, stopCycles := if a.state = .stopping then a.stopCycles + 1 else a.stopCycles
    cnt := latchPost k a.cnt }

/-- A lattice at the begin of a cycle. -/
def latBegins (l : Lat) : Lat := { l with started := false, lastDone := 0, nextPos := [0, 0, 0, 0] }

/-- CYCLE_SAMPLE: cycle k begins, and the local ports latch their feedback. -/
def cycleSample (s : State) (ins : List PortIn) : State :=
  if !s.running then s
  else
    let s := { s with
      net := { s.net with ports := mapI s.portBegins s.net.ports, nodes := s.net.nodes.map s.nodeBegins }
      axes := s.axes.map (axisBegins s.k)
      lpe := { s.lpe with lats := s.lpe.lats.map latBegins } }
    let s := runAll (fun i s => s.freezeHistory i) (List.range s.nAxes) s
    (runAll (fun n s => emuRefPath n (emuCycle n (stepFree n (latchPort ins n s)))) (List.range s.nLocal) s).emuAll

/-! ## D_U (01 R13, R26, R30) -/

/-- A node of the active generation whose slot has or has not come by D_U of its line's compute cycle (R30, R31; 05 R153). -/
def judgeNode (s : State) (i : Nat) (n : Node) : Node :=
  if (s.gnode i).isNone || !s.lineComputes n.port.toNat then n
  else if n.slotNow.isSome then { n with invalidRun := 0, graceEnd := none }
  else { n with invalidRun := n.invalidRun + 1 }

/-- An axis that would be computed in this cycle: it is not DISABLED, and was not when its lattice started (log entry 95). -/
def due (s : State) (i : Nat) : Bool :=
  (s.axis i).hdr.bound && (s.axis i).state != .disabled && (s.axis i).mbxSnap.isSome && (s.slotOf i).isSome && !s.offCycle i

/-- FEEDBACK_MISS (R26). -/
def feedbackMiss (i : Nat) (s : State) : State :=
  if s.due i && (s.feedback i).isNone then
    s.modAxis i fun a => { a with
      fbMissing := true, held := true, flags := a.flags ||| flagFeedbackMiss, cnt := { a.cnt with fbMiss := satInc a.cnt.fbMiss } }
  else s

/-- D_U_DEADLINE. -/
def duDeadline (s : State) : State :=
  if !s.running then s
  else
    let s := { s with net := { s.net with nodes := mapI s.judgeNode s.net.nodes } }
    let s := runAll (fun l s => if (s.lpe.lats.getD l {}).started then s else s.startLattice l) (List.range s.nLats) s
    let s := runAll feedbackMiss (List.range s.nAxes) s
    (runAll emuFbPath (List.range s.nLocal) s).emuAll

/-! ## D_X: misses and causes (01 R27-R29, 03 R93, R96) -/

/-- An axis that D_X finds unfinished (R27, R28). -/
def unfinished (s : State) (i : Nat) : Bool :=
  s.due i && !(s.axis i).computed && !(s.axis i).fbMissing && (s.feedback i).isSome

/-- An axis that begins to be held in this cycle without a computation is held at the position of this cycle (03 R89). -/
def holdNow (s : State) (i : Nat) (was : AState) : State :=
  match s.feedback i with
  | some f => s.modAxis i fun a =>
    if was ≠ .fault ∧ held3 a = true then { a with holdPos := f.p, prof := { a.prof with x := a.coord f.p * oneCount } } else a
  | none => s

/-- DEADLINE_MISS, and with it MISS_LIMIT (R27, R29). -/
def deadlineMiss (i : Nat) (s : State) : State :=
  ((s.modAxis i fun a => { a with
    held := true, flags := a.flags ||| flagDeadlineMiss
    missAgain := if (a.state == .stopping || a.state == .fault) && (a.action == some 1 || a.action == some 3) then a.missAgain + 1 else 0
    cnt := { a.cnt with dlMiss := satInc a.cnt.dlMiss, missRun := satInc a.cnt.missRun } }).missLimit i).holdNow i (s.axis i).state

/-- The cause NODE_LOST of an axis whose node is marked lost; STOP_TIMEOUT (03 R93, R95, R96). -/
def lateCauses (i : Nat) (s : State) : State :=
  let s := match s.boundNode i with
    | some (n, _) =>
      if (s.node n).lost then (s.setFlag i flagNodeLost).faultCause i 3 false else s.causeClear i 3
    | none => s
  s.stopTimeout i

/-- The extended position of an axis with valid feedback (04 R119). -/
def extendPos (i : Nat) (s : State) : State :=
  if s.offCycle i then s
  else
    match s.feedback i with
    | some f => s.modAxis i fun a => { a with
        extPos := a.extend f.p, extValid := true
        extCycle := match s.axisPort i with | some p => s.lineCycle p | none => s.k }
    | none => s

/-! ## D_X: lattices (01 R25, 03 LPE_ registers) -/

/-- The planned time of an axis in ns (03 R75). -/
def plannedNs (rs : List (Nat × Recipe)) (missed : List Nat) : Nat :=
  ((rs.filter fun x => missed.contains x.1).map fun x => x.2.planned).foldl (· + ·) 0

/-- The slack of a lattice with axes (R25). In a cycle in which it has finished none and left none unfinished, the manual gives no
instant: a free value. -/
def latSlack (s : State) (l : Nat) (missed : List Nat) : Int × State :=
  let rs := s.latAxes l
  if rs.any fun x => missed.contains x.1 then (-(plannedNs rs missed : Int), s)
  else if rs.any fun x => (s.axis x.1).computed then ((s.dX : Int) - (s.lpe.lats.getD l {}).lastDone, s)
  else
    let f := s.free 24
    (signed 24 f.1.toNat, f.2)

/-- LPE_DONE of a lattice, and its slack. -/
def latDone (missed : List Nat) (r : List (Int × Nat) × State) (l : Nat) : List (Int × Nat) × State :=
  let s := r.2
  let rs := s.latAxes l
  let n := (rs.filter fun x => missed.contains x.1).length
  let put (s : State) : State := { s with lpe := { s.lpe with lats := updAt s.lpe.lats l fun x => { x with
    valid := !rs.isEmpty, unfinished := BitVec.ofNat 5 n, done := BitVec.ofNat 18 x.lastDone } } }
  if rs.isEmpty then (r.1, put s)
  else
    let z := s.latSlack l missed
    (r.1 ++ [(z.1, l)], put z.2)

/-- The smallest slack and its lattice; of equals the manual names none, and a free value decides. -/
def leastSlack (xs : List (Int × Nat)) (s : State) : Option (Int × Nat) × State :=
  match (xs.map Prod.fst).min? with
  | none => (none, s)
  | some m =>
    let ls := (xs.filter fun x => x.1 == m).map Prod.snd
    match ls with
    | [l] => (some (m, l), s)
    | _ =>
      let f := s.free 4
      (some (m, ls.getD (f.1.toNat % ls.length) 0), f.2)

/-- A set of axes as the sum registers show it. -/
def axisBits (l : List Nat) : BitVec 256 := l.foldl (fun b i => b ||| BitVec.ofNat 256 (2 ^ i)) 0

/-- The registers of the completed cycle, and its minimum slack (R25). -/
def lpeCycle (s : State) (missed : List Nat) : Option Int × State :=
  let r := (List.range s.nLats).foldl (latDone missed) ([], s)
  let m := leastSlack r.1 r.2
  let s := m.2
  let s := { s with lpe := { s.lpe with
    missSum := axisBits missed, fbMissSum := axisBits ((List.range s.nAxes).filter fun i => (s.axis i).fbMissing) } }
  match m.1 with
  | none => (none, s)
  | some (x, l) =>
    let lat := BitVec.ofNat 4 l
    let low := decide (x < signed 24 s.lpe.slackLow.toNat)
    (some x, { s with lpe := { s.lpe with
      slack := BitVec.ofInt 24 x, slackLat := lat
      slackLow := if low then BitVec.ofInt 24 x else s.lpe.slackLow, slackLowLat := if low then lat else s.lpe.slackLowLat } })

/-! ## D_X: committed commands (02 R442, R59) -/

/-- One of the part's commands reaches its D_X. -/
def commitDx (c : DxCmd) (s : State) : State :=
  let o := c.opcode.toNat
  if o = 0x0104 then commitParamsetWrite c.pkt s
  else if o = 0x0400 then commitMove c.pkt s
  else if o = 0x0401 then commitStop c.pkt s
  else if o = 0x0402 then commitHome c.pkt s
  else if o = 0x0403 then commitCompareSet c.pkt s
  else if o = 0x0404 then commitGearSet c.pkt s
  else if o = 0x0501 then commitAcqArm c.pkt s
  else s

/-- The commands of some opcodes that are due are committed, in the order in which they were checked. -/
def commitsDx (s : State) (arm : Bool) : State :=
  let mine (c : DxCmd) : Bool := decide (c.due ≤ s.k) && (c.opcode == 0x0501) == arm
  runAll commitDx (s.dxq.filter mine) { s with dxq := s.dxq.filter fun c => !mine c }

/-- Accepted commands whose effect took place in this cycle are done: a parameter set switch and a yield (04 R110, 13 R381). -/
def finishCmds (s : State) : State :=
  let past (c : PendCmd) : Bool := decide (c.cycle ≤ s.k) && (c.opcode == 0x0105 || c.opcode == 0x0702)
  runAll (fun c s => if c.opcode = 0x0105 then s.finish c.pkt [] else s.finishYield c.pkt) (s.cmds.filter past)
    { s with cmds := s.cmds.filter fun c => !past c }

/-! ## D_X: history (04 R120-R123) -/

/-- The entry of an axis that was not computed, and for any axis the flags of the whole cycle. -/
def closeHistory (i : Nat) (s : State) : State :=
  let k := s.k
  if (s.slotOf i).isNone then
    s.modAxis i fun a => { a with cnt := { a.cnt with now := a.flags, sticky := a.cnt.sticky ||| a.flags } }
  else if (s.axis i).computed then
    s.modAxis i fun a =>
      let f := BitVec.ofNat 32 a.flags.toNat
      { a with
        live := { a.live with flags := f }
        cnt := { a.cnt with now := a.flags, sticky := a.cnt.sticky ||| a.flags }
        hist := if a.cnt.frozen then a.hist else updAt a.hist (k % 64) fun h => { h with flags := f } }
  else s.modAxis i fun a => writeHistory k { a with live := { a.live with done := 0 } }

/-! ## D_X: C-frames (05 R129-R138) -/

/-- The command word of an axis (R138). -/
def commandWord (a : Axis) : Nat := a.drive.code + 4 * b2n a.held

/-- An axis's share of a C payload (R137). -/
def axisOutputs (a : Axis) : Mode → List Byte
  | .c => leBytes 2 a.loop.out0.toNat ++ leBytes 2 a.loop.out1.toNat ++ leBytes 2 a.loop.out2.toNat ++ leBytes 2 (commandWord a)
  | .t => leBytes 2 a.loop.out0.toNat ++ leBytes 2 (commandWord a)
  | .v => leBytes 2 a.loop.out0.toNat ++ leBytes 2 (commandWord a)
  | .p => leBytes 4 a.loop.pOut.toNat ++ leBytes 2 a.loop.pOutFrac.toNat ++ leBytes 2 (commandWord a)

/-- The axis that is bound to an axis of a node. -/
def axisAt (s : State) (n sub : Nat) : Option Nat := (List.range s.nAxes).find? fun i => s.boundNode i == some (n, sub)

/-- Bytes that the manual leaves to no rule: free values. -/
def freeBytes (s : State) (n : Nat) : List Byte × State :=
  let f := s.free (8 * n)
  (leBytes n f.1.toNat, f.2)

/-- The payload of a DRIVE node, axis by axis. What an axis of the node that none is bound to is sent is a free value. -/
def drivePayload (n : Nat) (r : List Byte × State) (x : Nat × Mode) : List Byte × State :=
  match r.2.axisAt n x.1 with
  | some i => (r.1 ++ axisOutputs (r.2.axis i) x.2, r.2)
  | none =>
    let f := r.2.freeBytes (cBytes x.2)
    (r.1 ++ f.1, f.2)

/-- An event that waits for a slot of a node goes out, one for each slot (10 R295). -/
def putEvents (n : Nat) (r : List Byte × List Nat × State) (i : Nat) : List Byte × List Nat × State :=
  match (r.2.2.axis i).prof.slotEvts with
  | e :: t =>
    if e.node = n ∧ e.offset ∉ r.2.1 then
      (if e.offset + 8 ≤ r.1.length then putBytes r.1 e.offset e.bytes else r.1, e.offset :: r.2.1,
        r.2.2.modAxis i fun a => { a with prof := { a.prof with slotEvts := t } })
    else r
  | [] => r

/-- The C-slot of a node. The manual gives no source for the outputs of other classes than DRIVE, but for event slots: the other bytes
are free values. -/
def cSlot (r : List CSlot × State) (x : GNode) : List CSlot × State :=
  let s := r.2
  let p := if (s.node x.index).cls = 0 then (mapI (fun j m => (j, m)) x.modes).foldl (drivePayload x.index) ([], s)
    else s.freeBytes x.cLen
  let e := (List.range s.nAxes).foldl (putEvents x.index) (p.1, [], p.2)
  (r.1 ++ [{ node := x.index, payload := e.1 }], e.2.2)

/-- The C-slots of a line, in ascending position. -/
def cSlots (s : State) (g : GenImage) (port : Nat) : List CSlot × State := (lineNodes g port).foldl cSlot ([], s)

/-- The claim of a port's C-frame; none for an IDLE frame (R129, 13 R368). -/
def portClaim (s : State) (port : Nat) : Option Half :=
  let p := s.mport port
  if p.topo = 2 then (s.claimOff s.k).map fun d => s.net.claimBase + BitVec.ofNat 16 d
  else if p.topo = 1 ∧ s.ownPort port ≠ port then some s.net.claimBase
  else some (s.net.claimBase + 1)

/-- The C-frames of a line that leaves from `port`, and on a single-head ring from its other end too; with the payloads of a twin
ring, for the command CRC (R129, 13 R371). -/
def lineFrames (g : GenImage) (r : List Byte × State) (l : Line) : List Byte × State :=
  let s := r.2
  let p := s.mport l.port
  if p.state ≠ .run ∨ s.lineComputes l.port = false ∨ s.twinSends l.port = false then r
  else
    let c := BitVec.ofNat 32 (s.lineCycle l.port)
    let ck := s.cycleNs (s.lineCycle l.port)
    match s.portClaim l.port with
    | none => (r.1, s.emit (.cFrame l.port c ck 0 0 true []))
    | some cl =>
      let z := s.cSlots g l.port
      let s := z.2.emit (.cFrame l.port c ck (BitVec.ofNat 16 g.gen) cl false z.1)
      let s := if p.topo = 1 then
          s.emit (.cFrame p.ringPort.toNat c ck (BitVec.ofNat 16 g.gen) ((s.portClaim p.ringPort.toNat).getD 0) false z.1) else s
      (if p.topo = 2 then r.1 ++ z.1.flatMap CSlot.payload else r.1, s)

/-- Insertion by port. -/
def insertLine (x : Line) : List Line → List Line
  | [] => [x]
  | y :: t => if x.port < y.port then x :: y :: t else y :: insertLine x t

/-- IDLE C-frames of the ports in LINKED (R144). -/
def idleFrame (i : Nat) (s : State) : State :=
  if (s.mport i).state = .linked ∧ s.twinSends i = true then s.emit (.cFrame i (BitVec.ofNat 32 s.k) (s.cycleNs s.k) 0 0 true []) else s

/-- The C-frames of the cycle, and the command CRC (01 R12, 13 R371). -/
def cFrames (s : State) : Word × State :=
  let r := match s.net.active with
    | some g => (g.lines.foldl (fun t x => insertLine x t) []).foldl (lineFrames g) ([], s)
    | none => ([], s)
  (crc32 r.1, runAll idleFrame (List.range s.nPorts) r.2)

/-! ## D_X: service frames (05 R133, R142, R143, R150, R159) -/

/-- The found nodes of a join that still owe an acknowledgement, with their records. -/
def joinAssign (s : State) (port : Nat) : List (DWord × NodeCfg) :=
  match (s.mport port).join with
  | none => []
  | some j => (j.cfgs.filter fun c => j.waiting.contains c.1).take (1 + (s.assignRoom port - 142) / 76)

/-- The service frame of a port in RUN or LINKED: a PROBE first, then a waiting D-frame, then an ASSIGN, else the S-frame. -/
def serviceFrame (i : Nat) (s : State) : State :=
  let p := s.mport i
  if p.probeDue then
    (s.modMPort i fun p => { p with probeDue := false, probeP := some (s.probeFrom i) }).emit (.dFrame i (.probe 0 (s.probeFrom i)))
  else
    match p.dq with
    | f :: t => (s.modMPort i fun p => { p with dq := t }).emit (.dFrame i f)
    | [] =>
      match s.joinAssign i with
      | [] => let b := s.buildS i; b.st.emit (.sFrame i b.segs)
      | xs => s.emit (.dFrame i (.assign xs))

/-- The D-frames of a discovery: a WALK, or the next ASSIGN. -/
def walkFrame (i : Nat) (s : State) : State :=
  match (s.mport i).walk with
  | none => s
  | some w =>
    if w.forPartner then s
    else if w.assigning then s.emit (.dFrame i (s.assignFrame i w))
    else if w.sent then s
    else (s.modMPort i fun p => { p with walk := some { w with sent := true, attempts := w.attempts + 1 } }).emit (.dFrame i (.walk 0))

/-- What leaves a port behind its C-frame. -/
def behindC (i : Nat) (s : State) : State :=
  match (s.mport i).state with
  | .walking => walkFrame i s
  | .dark => s
  | _ => if s.lineComputes i && s.twinSends i then serviceFrame i s else s

/-! ## D_X: local axes (11 R307) -/

/-- A local axis's demands and drive command reach its port. -/
def localOutputs (i : Nat) (s : State) : State :=
  match s.localPort i with
  | some n =>
    let a := s.axis i
    let at' := s.cycleNs (s.k + 1) + s.applyOffset
    s.modLPort n fun p => loopDemand p [a.loop.out0, a.loop.out1, a.loop.out2] a.drive at'
  | none => s

/-! ## D_X -/

/-- Up to the outputs of the cycle: misses, causes, positions, committed commands and generators. -/
def dxCompute (s : State) : Option Int × State :=
  let axes := List.range s.nAxes
  let missed := axes.filter s.unfinished
  let s := runAll deadlineMiss missed s
  let r := s.lpeCycle missed
  let s := runAll lateCauses axes r.2
  let s := runAll extendPos axes s
  let s := runAll (fun i s => s.reportDone i) axes s
  (r.1, (s.commitsDx false).generators)

/-- The outputs: local ports, C-frames and service frames. -/
def dxOutputs (s : State) : Word × State :=
  let s := runAll localOutputs (List.range s.nAxes) s
  let r := s.cFrames
  let ports := List.range s.nPorts
  (r.1, runAll (fun i s => postJoined s i) ports (runAll behindC ports r.2))

/-- D_X_DEADLINE. -/
def dxDeadline (s : State) : State :=
  if !s.running then s
  else
    let axes := List.range s.nAxes
    let r := s.dxCompute
    let s := runAll (fun i s => (closeHistory i s).freezeHistory i) axes r.2
    let o := s.dxOutputs
    let s := o.2.captureFrame.commitsDx true
    let s := (s.finishCmds.emuAll).govCycle r.1
    s.writeShadow.twinDx o.1

end State

/-- CYCLE_SAMPLE (01 R12). -/
def execCycleSample (ins : List PortIn) (s : State) : Result := .next (s.cycleSample ins)
/-- D_U_DEADLINE (01 R13). -/
def execDUDeadline (s : State) : Result := .next s.duDeadline
/-- D_X_DEADLINE (01 R27). -/
def execDXDeadline (s : State) : Result := .next s.dxDeadline

end Sys2Proof.Machine
end

