-- ==== Sys2Proof/Machine/Take.lean ====
section
/-! DEFINITION. Taking commands: from CMD rings, the boot script, the upstream head and a twin partner (02 R42-R66, 05 R162, 09 R257,
13 R372-R374). -/
namespace Sys2Proof.Machine

/-- The opcodes of 02 R60. -/
def opTable : List Op :=
  [opNop, opGetIdentity, opGetStatus, opReset, opBlockQuiesce, opImageUpdateBegin, opImageUpdateWrite, opImageUpdateCommit,
   opAxisConfigure, opAxisEnable, opAxisDisable, opAxisClearFault, opParamsetWrite, opParamsetSwitchAt,
   opNetDiscover, opNetScheduleLoad, opNetScheduleActivateAt, opNetNodeMailbox, opNetJoinConfigure]
  ++ [opTimeConfigure, opTimeSelectDomain, opSnapshotAt, opSnapshotRead, opMove, opStop, opHome, opCompareSet, opGearSet,
   opRegistrationBind, opAcqConfigure, opAcqArm, opAcqRead, opEddyLoad, opFlowCreate, opTaskPost, opCorePark]
  ++ [opTwinConfigure, opTwinHealth, opTwinYield, opPowerBudgetSet, opPowerStatus, opStoreConfigure, opStoreNow, opStoreRead,
   opPortConfigure, opPwmFaultClear]

/-- The operation of an opcode. -/
def opOf (opcode : Half) : Option Op := opTable.find? fun o => o.opcode == opcode

namespace State

/-- A packet of any opcode is checked and carried out (02 R60, R441). -/
def runCmd (c : Cmd) (s : State) : State :=
  match opOf c.opcode with
  | some op => carry op c.pkt s
  | none => if s.host.ready then s.reply c.pkt stBadOpcode 0 [] else s

/-! ## CMD rings (02 R43, R48, R50, R66) -/

/-- A packet came from a ring. -/
def fromRing (n : Nat) (p : Pkt) : Bool := p.src == .ring n

/-- A command of a ring has not posted its final completion (02 R51 FENCE). -/
def outstanding (s : State) (n : Nat) : Bool :=
  let opt (p : Option Pkt) : Bool := match p with | some p => fromRing n p | none => false
  s.cmds.any (fun c => fromRing n c.pkt) || s.dxq.any (fun c => fromRing n c.pkt) || s.host.fwd.any (fun f => fromRing n f.pkt)
    || s.host.cplWait.any (fun x => x.2.cmdRing == n) || s.rst.quiesce.any (fun q => !q.done && fromRing n q.pkt)
    || (match s.boot.update with | some u => u.beginPkts.any (fromRing n) || opt u.commit | none => false)
    || opt (match s.spw.run with | some r => r.pkt | none => none)
    || s.net.ports.any (fun p => opt (p.walk.map Walk.pkt)) || s.net.nodes.any (fun x => opt (x.mailx.map Mailx.pkt))
    || s.tmb.snaps.any (fun x => opt x.pkt) || s.twn.fwds.any (fun f => f.held && fromRing n f.cmd.pkt)
    || s.sch.held.any fun h => match h with | .ring m _ => m == n | .other p => fromRing n p | .core _ _ _ _ => false

/-- The boot script still runs or has yet to start (02 R66). -/
def scriptHolds (s : State) : Bool := !s.boot.romOnly && !s.boot.scriptDone

/-- The completions of a CMD ring have somewhere to go (02 R43, R48). -/
def cplReady (s : State) (n : Nat) : Bool :=
  let c := (s.ring n).cplRing.toNat
  (s.ring c).room 1 && !s.host.cplWait.any fun x => x.1 == c

/-- The part can take this command from the head of this ring (02 R50, R51, 13 R374, 14 R404). -/
def canTake (s : State) (n : Nat) (c : Cmd) : Bool :=
  let r := s.ring n
  s.host.ready && !s.scriptHolds && !s.spw.held && r.running && r.type == 0 && r.fill != 0 && s.cplReady n && !r.heldPost
    && !(s.twn.state == .active && s.twn.missing != 0 && twinForwarded c.opcode)
    && !(c.pkt.fence && s.outstanding n)

/-- The next ring of a pass, round-robin: the first after the one served last. -/
def nextRing (last : Nat) (ns : List Nat) : Option Nat := match ns.find? fun n => decide (n > last) with | some n => some n | none => ns.head?

/-- Ring indices in rising order. -/
def insertRing (x : Nat × Cmd) : List (Nat × Cmd) → List (Nat × Cmd)
  | [] => [x]
  | y :: t => if x.1 < y.1 then x :: y :: t else y :: insertRing x t

/-- The ring that is served next, with the command at its head (02 R50). -/
def arbitrate (s : State) (heads : List (Nat × Cmd)) : Option (Nat × Cmd) :=
  let able := (heads.foldl (fun l x => insertRing x l) []).filter fun x => decide (x.1 < 64) && s.canTake x.1 x.2
  let high := able.filter fun x => (s.ring x.1).prio
  let pick (l : List (Nat × Cmd)) (last : Nat) : Option (Nat × Cmd) :=
    match nextRing last (l.map Prod.fst) with
    | some n => l.find? fun x => x.1 == n
    | none => none
  if high.isEmpty then pick able s.host.rrLow else pick high s.host.rrHigh

/-- The command at the head of a ring is carried out, and the head advances; a TASK_POST that finds no room stays at the head (02
R50, 09 R257). -/
def takeFrom (s : State) (n : Nat) (c : Cmd) : State :=
  let p := { c.pkt with src := .ring n }
  let prio := (s.ring n).prio
  let s := { s with host := { s.host with
    rrHigh := if prio then n else s.host.rrHigh, rrLow := if prio then s.host.rrLow else n } }
  let waiting := s.sch.held.length
  let s := runCmd { c with pkt := p } s
  match s.sch.held.getLast? with
  | some (.other q) =>
    if s.sch.held.length > waiting ∧ fromRing n q = true then
      State.modRing { s with sch := { s.sch with held := s.sch.held.dropLast ++ [Held.ring n q] } } n fun r => { r with heldPost := true }
    else s.advanceHead n
  | _ => s.advanceHead n

/-- COMMAND_TAKE: the part takes one command; `heads` are the commands at the heads of the rings. -/
def commandTake (s : State) (heads : List (Nat × Cmd)) : State :=
  match s.arbitrate heads with
  | some (n, c) => s.takeFrom n c
  | none => s

/-- HOST_DMA_FAILURE: the ring stops. With a command, it is the write of that command's result that failed: the effect stands, and no
completion is posted (02 R42). -/
def dmaFailure (s : State) (n : Nat) (result : Option Cmd) : State :=
  if !(s.ring n).running then s
  else
    match result with
    | none => s.stopRing n
    | some c =>
      if c.pkt.rbuf && s.canTake n c then
        (s.takeFrom n { c with pkt := { c.pkt with flags := c.pkt.flags ||| 0x10 } }).stopRing n
      else s.stopRing n

/-! ## The boot script (02 R65) -/

/-- BOOT_SCRIPT_PACKET. -/
def scriptPacket (s : State) : State :=
  if s.boot.scriptWait || !s.host.ready then s
  else
    match s.boot.scriptIdx.bind fun i => s.boot.script.packets[i]? with
    | some c => runCmd { c with pkt := { c.pkt with src := .script } } { s with boot := { s.boot with scriptWait := true } }
    | none => s

/-! ## The partner's commands (13 R372, R373; log entry 16) -/

/-- The standby's answer goes with its next cycle record. -/
def ackForward (s : State) (seq : Nat) (ok : Bool) : State := { s with twn := { s.twn with acks := s.twn.acks ++ [(seq, ok)] } }

/-- TWIN_FORWARD_RECEIVED: the standby checks the command against its own state; one without a pending form of its own waits for its
target cycle. -/
def forwardReceived (s : State) (seq : Nat) (c : Cmd) (target : Nat) : State :=
  if !(s.twn.state.paired && s.oxbowUp) then s
  else
    match opOf c.opcode with
    | none => s.ackForward seq false
    | some op =>
      let p := c.pkt
      if s.twn.state ≠ .standby ∨ twinForwarded c.opcode = false ∨ p.kind ≠ op.kind ∨ p.unit ≥ s.unitCount op.kind then s.ackForward seq false
      else
        match op.body { late := false, due := some target } p s with
        | .fail _ _ => s.ackForward seq false
        | .refuse _ _ s' => s'.ackForward seq false
        | .done _ _ =>
          let e : TFwd := { seq := seq, cmd := c, target := target, acked := some true, mine := false, held := true }
          ({ s with twn := { s.twn with fwds := s.twn.fwds ++ [e] } }).ackForward seq true
        | .accept s' => s'.ackForward seq true
        | .later s' => s'.ackForward seq true

/-- The active head finds no acknowledgement at C(t): it goes on alone. -/
def notAcked (s : State) (e : TFwd) : State :=
  if e.mine && e.acked != some true && s.twn.state == .active then
    (s.eventDiverged 1 e.target s.twn.ownCrc s.twn.peerCrc).goAlone 5
  else s

/-- TWIN_FORWARD_COMMIT. -/
def forwardCommit (s : State) (seq : Nat) : State :=
  match s.twn.fwds.find? fun e => e.seq == seq with
  | none => s
  | some e =>
    if s.k < e.target then s
    else
      let s := { s with twn := { s.twn with fwds := s.twn.fwds.erase e } }
      let s := s.notAcked e
      if e.held then
        match opOf e.cmd.opcode with
        | some op => s.settle e.cmd.pkt (op.body { late := false, due := some e.target } e.cmd.pkt s)
        | none => s
      else s

end State

/-- COMMAND_TAKE (R50). -/
def execCommandTake (heads : List (Nat × Cmd)) (s : State) : Result := .next (s.commandTake heads)
/-- HOST_DMA_FAILURE (R42). -/
def execHostDmaFailure (ring : Nat) (result : Option Cmd) (s : State) : Result := .next (s.dmaFailure ring result)
/-- BOOT_SCRIPT_PACKET (R65). -/
def execBootScriptPacket (s : State) : Result := .next s.scriptPacket
/-- FORWARDED_COMMAND (05 R162): on a nested head. -/
def execForwardedCommand (cmd : Cmd) (s : State) : Result :=
  .next (if s.net.conf.role then State.runCmd { cmd with pkt := { cmd.pkt with src := .upstream } } s else s)
/-- TWIN_FORWARD_RECEIVED (13 R373). -/
def execTwinForwardReceived (seq : Nat) (cmd : Cmd) (target : Nat) (s : State) : Result := .next (s.forwardReceived seq cmd target)
/-- TWIN_FORWARD_COMMIT (13 R373). -/
def execTwinForwardCommit (seq : Nat) (s : State) : Result := .next (s.forwardCommit seq)

end Sys2Proof.Machine
end

