-- ==== Sys2Proof/Machine/Dispatch.lean ====
section
/-! DEFINITION. The one match over the commands: an arm for each row of the table. -/
namespace Sys2Proof.Machine

/-- The effect of a command on everything but the queue. -/
def exec (i : Instr) (s : State) : Host.Outcome State Fault Refusal :=
  match i with
  | .nop p => Sys2Proof.Machine.execNop p s
  | .getIdentity p => Sys2Proof.Machine.execGetIdentity p s
  | .getStatus p => Sys2Proof.Machine.execGetStatus p s
  | .reset p => Sys2Proof.Machine.execReset p s
  | .blockQuiesce p => Sys2Proof.Machine.execBlockQuiesce p s
  | .imageUpdateBegin p => Sys2Proof.Machine.execImageUpdateBegin p s
  | .imageUpdateWrite p => Sys2Proof.Machine.execImageUpdateWrite p s
  | .imageUpdateCommit p => Sys2Proof.Machine.execImageUpdateCommit p s
  | .axisConfigure p => Sys2Proof.Machine.execAxisConfigure p s
  | .axisEnable p => Sys2Proof.Machine.execAxisEnable p s
  | .axisDisable p => Sys2Proof.Machine.execAxisDisable p s
  | .axisClearFault p => Sys2Proof.Machine.execAxisClearFault p s
  | .paramsetWrite p => Sys2Proof.Machine.execParamsetWrite p s
  | .paramsetSwitchAt p => Sys2Proof.Machine.execParamsetSwitchAt p s
  | .netDiscover p => Sys2Proof.Machine.execNetDiscover p s
  | .netScheduleLoad p => Sys2Proof.Machine.execNetScheduleLoad p s
  | .netScheduleActivateAt p => Sys2Proof.Machine.execNetScheduleActivateAt p s
  | .netNodeMailbox p => Sys2Proof.Machine.execNetNodeMailbox p s
  | .netJoinConfigure p => Sys2Proof.Machine.execNetJoinConfigure p s
  | .timeConfigure p => Sys2Proof.Machine.execTimeConfigure p s
  | .timeSelectDomain p => Sys2Proof.Machine.execTimeSelectDomain p s
  | .snapshotAt p => Sys2Proof.Machine.execSnapshotAt p s
  | .snapshotRead p => Sys2Proof.Machine.execSnapshotRead p s
  | .move p => Sys2Proof.Machine.execMove p s
  | .stop p => Sys2Proof.Machine.execStop p s
  | .home p => Sys2Proof.Machine.execHome p s
  | .compareSet p => Sys2Proof.Machine.execCompareSet p s
  | .gearSet p => Sys2Proof.Machine.execGearSet p s
  | .registrationBind p => Sys2Proof.Machine.execRegistrationBind p s
  | .acqConfigure p => Sys2Proof.Machine.execAcqConfigure p s
  | .acqArm p => Sys2Proof.Machine.execAcqArm p s
  | .acqRead p => Sys2Proof.Machine.execAcqRead p s
  | .eddyLoad p => Sys2Proof.Machine.execEddyLoad p s
  | .flowCreate p => Sys2Proof.Machine.execFlowCreate p s
  | .taskPost p => Sys2Proof.Machine.execTaskPost p s
  | .corePark p => Sys2Proof.Machine.execCorePark p s
  | .twinConfigure p => Sys2Proof.Machine.execTwinConfigure p s
  | .twinHealth p => Sys2Proof.Machine.execTwinHealth p s
  | .twinYield p => Sys2Proof.Machine.execTwinYield p s
  | .powerBudgetSet p => Sys2Proof.Machine.execPowerBudgetSet p s
  | .powerStatus p => Sys2Proof.Machine.execPowerStatus p s
  | .storeConfigure p => Sys2Proof.Machine.execStoreConfigure p s
  | .storeNow p => Sys2Proof.Machine.execStoreNow p s
  | .storeRead p => Sys2Proof.Machine.execStoreRead p s
  | .portConfigure p => Sys2Proof.Machine.execPortConfigure p s
  | .pwmFaultClear p => Sys2Proof.Machine.execPwmFaultClear p s
  | .cmdTailDoorbell ring v => Sys2Proof.Machine.execCmdTailDoorbell ring v s
  | .consumerHeadDoorbell ring v => Sys2Proof.Machine.execConsumerHeadDoorbell ring v s
  | .ringEnable ring v => Sys2Proof.Machine.execRingEnable ring v s
  | .ringDisable ring v => Sys2Proof.Machine.execRingDisable ring v s
  | .ringConfigWrite ring v => Sys2Proof.Machine.execRingConfigWrite ring v s
  | .commandTake heads => Sys2Proof.Machine.execCommandTake heads s
  | .hostDmaFailure ring result => Sys2Proof.Machine.execHostDmaFailure ring result s
  | .irqModerationTimeout ring => Sys2Proof.Machine.execIrqModerationTimeout ring s
  | .irqCauseW1c v => Sys2Proof.Machine.execIrqCauseW1c v s
  | .irqMaskWrite v => Sys2Proof.Machine.execIrqMaskWrite v s
  | .intxPendW1c high v => Sys2Proof.Machine.execIntxPendW1c high v s
  | .pcieLinkDown => Sys2Proof.Machine.execPcieLinkDown s
  | .hotReset => Sys2Proof.Machine.execHotReset s
  | .functionLevelReset => Sys2Proof.Machine.execFunctionLevelReset s
  | .forwardedReply id status detail result => Sys2Proof.Machine.execForwardedReply id status detail result s
  | .forwardTimeout id => Sys2Proof.Machine.execForwardTimeout id s
  | .forwardedCommand cmd => Sys2Proof.Machine.execForwardedCommand cmd s
  | .resetAssert => Sys2Proof.Machine.execResetAssert s
  | .bootScriptStart => Sys2Proof.Machine.execBootScriptStart s
  | .bootScriptPacket => Sys2Proof.Machine.execBootScriptPacket s
  | .glbEvtRouteWrite v => Sys2Proof.Machine.execGlbEvtRouteWrite v s
  | .cycleSample ins => Sys2Proof.Machine.execCycleSample ins s
  | .fFrameDepart => Sys2Proof.Machine.execFFrameDepart s
  | .fFrameArrival f => Sys2Proof.Machine.execFFrameArrival f s
  | .cFrameReturn port cycle atNs fcsOk looped dir => Sys2Proof.Machine.execCFrameReturn port cycle atNs fcsOk looped dir s
  | .latticeStart lat => Sys2Proof.Machine.execLatticeStart lat s
  | .dUDeadline => Sys2Proof.Machine.execDUDeadline s
  | .axisCompute lat pipe doneNs => Sys2Proof.Machine.execAxisCompute lat pipe doneNs s
  | .followingError axis => Sys2Proof.Machine.execFollowingError axis s
  | .dXDeadline => Sys2Proof.Machine.execDXDeadline s
  | .missLimitReached axis => Sys2Proof.Machine.execMissLimitReached axis s
  | .nodeLost node => Sys2Proof.Machine.execNodeLost node s
  | .standstillReached axis => Sys2Proof.Machine.execStandstillReached axis s
  | .stopTimeout axis => Sys2Proof.Machine.execStopTimeout axis s
  | .historyFreeze axis => Sys2Proof.Machine.execHistoryFreeze axis s
  | .histFrozenW1c axis => Sys2Proof.Machine.execHistFrozenW1c axis s
  | .stickyFlagW1c axis v => Sys2Proof.Machine.execStickyFlagW1c axis v s
  | .mailboxSlotWrite eddy axis slot off v => Sys2Proof.Machine.execMailboxSlotWrite eddy axis slot off v s
  | .mailboxCommitWrite eddy axis slot v => Sys2Proof.Machine.execMailboxCommitWrite eddy axis slot v s
  | .prfMarkRdWrite axis v => Sys2Proof.Machine.execPrfMarkRdWrite axis v s
  | .paramsetSwitch => Sys2Proof.Machine.execParamsetSwitch s
  | .generationActivate => Sys2Proof.Machine.execGenerationActivate s
  | .periodEpochChange => Sys2Proof.Machine.execPeriodEpochChange s
  | .walkReturn port far looped aH16 dH16 recs => Sys2Proof.Machine.execWalkReturn port far looped aH16 dH16 recs s
  | .walkTimeout port => Sys2Proof.Machine.execWalkTimeout port s
  | .assignAck port acks => Sys2Proof.Machine.execAssignAck port acks s
  | .serviceSegmentReturn port fcsOk segs => Sys2Proof.Machine.execServiceSegmentReturn port fcsOk segs s
  | .distributionTimeout => Sys2Proof.Machine.execDistributionTimeout s
  | .nodeMailboxTimeout node => Sys2Proof.Machine.execNodeMailboxTimeout node s
  | .probeSend => Sys2Proof.Machine.execProbeSend s
  | .probeReturn port aH16 dH16 stamps recs closedAt => Sys2Proof.Machine.execProbeReturn port aH16 dH16 stamps recs closedAt s
  | .joinActivate port => Sys2Proof.Machine.execJoinActivate port s
  | .joinAbandon port => Sys2Proof.Machine.execJoinAbandon port s
  | .joinGraceExpiry node => Sys2Proof.Machine.execJoinGraceExpiry node s
  | .recloseActivate port => Sys2Proof.Machine.execRecloseActivate port s
  | .dlyDrift port => Sys2Proof.Machine.execDlyDrift port s
  | .portLinkDown port => Sys2Proof.Machine.execPortLinkDown port s
  | .netComEtypeWrite v => Sys2Proof.Machine.execNetComEtypeWrite v s
  | .netComClaimWrite v => Sys2Proof.Machine.execNetComClaimWrite v s
  | .confOutCopy => Sys2Proof.Machine.execConfOutCopy s
  | .confInWrite => Sys2Proof.Machine.execConfInWrite s
  | .upSafe => Sys2Proof.Machine.execUpSafe s
  | .upstreamCFrame f => Sys2Proof.Machine.execUpstreamCFrame f s
  | .ptpSyncReceived d theta => Sys2Proof.Machine.execPtpSyncReceived d theta s
  | .ptpAnnounceReceived uplink a => Sys2Proof.Machine.execPtpAnnounceReceived uplink a s
  | .ptpTransmit d kind turnaround16 => Sys2Proof.Machine.execPtpTransmit d kind turnaround16 s
  | .domainLost d => Sys2Proof.Machine.execDomainLost d s
  | .autoRevert => Sys2Proof.Machine.execAutoRevert s
  | .tmbIncrNomWrite v => Sys2Proof.Machine.execTmbIncrNomWrite v s
  | .tmbSrvNsRead => Sys2Proof.Machine.execTmbSrvNsRead s
  | .snapshotLatch id => Sys2Proof.Machine.execSnapshotLatch id s
  | .snapshotRequest id t => Sys2Proof.Machine.execSnapshotRequest id t s
  | .snapshotReport node id late latch data => Sys2Proof.Machine.execSnapshotReport node id late latch data s
  | .snapshotTimeout id => Sys2Proof.Machine.execSnapshotTimeout id s
  | .taskDispatch => Sys2Proof.Machine.execTaskDispatch s
  | .coreWoken core => Sys2Proof.Machine.execCoreWoken core s
  | .periodicTrigger ev => Sys2Proof.Machine.execPeriodicTrigger ev s
  | .delayBoundary list => Sys2Proof.Machine.execDelayBoundary list s
  | .schDlyTickWrite list v => Sys2Proof.Machine.execSchDlyTickWrite list v s
  | .governorPeriodEnd coreEst otherPower => Sys2Proof.Machine.execGovernorPeriodEnd coreEst otherPower s
  | .temperatureSample temps => Sys2Proof.Machine.execTemperatureSample temps s
  | .pmbusTransactionDone kind ok data => Sys2Proof.Machine.execPmbusTransactionDone kind ok data s
  | .pmbFault => Sys2Proof.Machine.execPmbFault s
  | .pwrGovWrite v => Sys2Proof.Machine.execPwrGovWrite v s
  | .eNop c mv => Sys2Proof.Machine.execENop c mv s
  | .eMpy c n x j mv => Sys2Proof.Machine.execEMpy c n x j mv s
  | .eMac c n x j mv => Sys2Proof.Machine.execEMac c n x j mv s
  | .eMsu c n x j mv => Sys2Proof.Machine.execEMsu c n x j mv s
  | .eDmpy c pair sel neg0 neg1 mv => Sys2Proof.Machine.execEDmpy c pair sel neg0 neg1 mv s
  | .eDmac c pair sel neg0 neg1 mv => Sys2Proof.Machine.execEDmac c pair sel neg0 neg1 mv s
  | .eAdd c n src mv => Sys2Proof.Machine.execEAdd c n src mv s
  | .eSub c n src mv => Sys2Proof.Machine.execESub c n src mv s
  | .eCmp c n src mv => Sys2Proof.Machine.execECmp c n src mv s
  | .eCpy c n src mv => Sys2Proof.Machine.execECpy c n src mv s
  | .eZero c n mv => Sys2Proof.Machine.execEZero c n mv s
  | .eNeg c n mv => Sys2Proof.Machine.execENeg c n mv s
  | .eAbs c n mv => Sys2Proof.Machine.execEAbs c n mv s
  | .eRound c n mv => Sys2Proof.Machine.execERound c n mv s
  | .eLim c n mv => Sys2Proof.Machine.execELim c n mv s
  | .eShl c n count mv => Sys2Proof.Machine.execEShl c n count mv s
  | .eShr c n count mv => Sys2Proof.Machine.execEShr c n count mv s
  | .eAnd c n k mv => Sys2Proof.Machine.execEAnd c n k mv s
  | .eOr c n k mv => Sys2Proof.Machine.execEOr c n k mv s
  | .eXor c n k mv => Sys2Proof.Machine.execEXor c n k mv s
  | .eMaxiL c n k j mv => Sys2Proof.Machine.execEMaxiL c n k j mv s
  | .eMaxiP c n k j mv => Sys2Proof.Machine.execEMaxiP c n k j mv s
  | .eMiniL c n k j mv => Sys2Proof.Machine.execEMiniL c n k j mv s
  | .eMiniP c n k j mv => Sys2Proof.Machine.execEMiniP c n k j mv s
  | .eLdPointer c a r => Sys2Proof.Machine.execELdPointer c a r s
  | .eStPointer c a r => Sys2Proof.Machine.execEStPointer c a r s
  | .eMov c rd rs => Sys2Proof.Machine.execEMov c rd rs s
  | .eLdAbsolute c spaceY r addr => Sys2Proof.Machine.execELdAbsolute c spaceY r addr s
  | .eStAbsolute c spaceY r addr => Sys2Proof.Machine.execEStAbsolute c spaceY r addr s
  | .controlPageDmaGo c r => Sys2Proof.Machine.execControlPageDmaGo c r s
  | .timeLoRead c r => Sys2Proof.Machine.execTimeLoRead c r s
  | .eLdi c r v => Sys2Proof.Machine.execELdi c r v s
  | .eAddi c n v => Sys2Proof.Machine.execEAddi c n v s
  | .eCmpi c n v => Sys2Proof.Machine.execECmpi c n v s
  | .eLdis c r v => Sys2Proof.Machine.execELdis c r v s
  | .eLdif c r v => Sys2Proof.Machine.execELdif c r v s
  | .ePadd c n v => Sys2Proof.Machine.execEPadd c n v s
  | .ePmod c n => Sys2Proof.Machine.execEPmod c n s
  | .eAndi c k u => Sys2Proof.Machine.execEAndi c k u s
  | .eOri c k u => Sys2Proof.Machine.execEOri c k u s
  | .eNorm c n k => Sys2Proof.Machine.execENorm c n k s
  | .eLoop c n last => Sys2Proof.Machine.execELoop c n last s
  | .eLoopr c r last => Sys2Proof.Machine.execELoopr c r last s
  | .eLexit c => Sys2Proof.Machine.execELexit c s
  | .eGoto c addr => Sys2Proof.Machine.execEGoto c addr s
  | .eGotoCond c cond addr => Sys2Proof.Machine.execEGotoCond c cond addr s
  | .eLink c addr n => Sys2Proof.Machine.execELink c addr n s
  | .eRet c n => Sys2Proof.Machine.execERet c n s
  | .eDone c => Sys2Proof.Machine.execEDone c s
  | .eWaitcy c ev => Sys2Proof.Machine.execEWaitcy c ev s
  | .ePost c r pair dly t => Sys2Proof.Machine.execEPost c r pair dly t s
  | .eSemAcquire c sem => Sys2Proof.Machine.execESemAcquire c sem s
  | .eSemTry c sem => Sys2Proof.Machine.execESemTry c sem s
  | .eSemRelease c sem => Sys2Proof.Machine.execESemRelease c sem s
  | .eVmax c n spaceY ptr byM count => Sys2Proof.Machine.execEVmax c n spaceY ptr byM count s
  | .eVmin c n spaceY ptr byM count => Sys2Proof.Machine.execEVmin c n spaceY ptr byM count s
  | .waitcyReturn core => Sys2Proof.Machine.execWaitcyReturn core s
  | .postStallEnd core => Sys2Proof.Machine.execPostStallEnd core s
  | .semGrant sem => Sys2Proof.Machine.execSemGrant sem s
  | .windowReadReturn core => Sys2Proof.Machine.execWindowReadReturn core s
  | .dmaDescriptorDone core => Sys2Proof.Machine.execDmaDescriptorDone core s
  | .taskEnd core => Sys2Proof.Machine.execTaskEnd core s
  | .runtimeLimit core => Sys2Proof.Machine.execRuntimeLimit core s
  | .edyHalt core v => Sys2Proof.Machine.execEdyHalt core v s
  | .edyStep core v => Sys2Proof.Machine.execEdyStep core v s
  | .markEdge input rising ns frac => Sys2Proof.Machine.execMarkEdge input rising ns frac s
  | .inputQualified axis pin level count => Sys2Proof.Machine.execInputQualified axis pin level count s
  | .hardStopHome axis => Sys2Proof.Machine.execHardStopHome axis s
  | .quadratureEdge port a b => Sys2Proof.Machine.execQuadratureEdge port a b s
  | .indexEvent port => Sys2Proof.Machine.execIndexEvent port s
  | .serialFrameStart port => Sys2Proof.Machine.execSerialFrameStart port s
  | .serialFrameEnd port started crcOk data delay5 => Sys2Proof.Machine.execSerialFrameEnd port started crcOk data delay5 s
  | .sdStuck port ch => Sys2Proof.Machine.execSdStuck port ch s
  | .acqSdSample port ch v stamp => Sys2Proof.Machine.execAcqSdSample port ch v stamp s
  | .overcurrent port => Sys2Proof.Machine.execOvercurrent port s
  | .faultN port asserted => Sys2Proof.Machine.execFaultN port asserted s
  | .gfaultN asserted => Sys2Proof.Machine.execGfaultN asserted s
  | .fbLoss port => Sys2Proof.Machine.execFbLoss port s
  | .pwmPeriodBoundary port => Sys2Proof.Machine.execPwmPeriodBoundary port s
  | .pwmPeriodWrite port v => Sys2Proof.Machine.execPwmPeriodWrite port v s
  | .pwmCmpWrite port pair v => Sys2Proof.Machine.execPwmCmpWrite port pair v s
  | .pwmCommitWrite port v => Sys2Proof.Machine.execPwmCommitWrite port v s
  | .pwmFltclrWrite port v => Sys2Proof.Machine.execPwmFltclrWrite port v s
  | .stepInputEdge port dir ns => Sys2Proof.Machine.execStepInputEdge port dir ns s
  | .acqReady => Sys2Proof.Machine.execAcqReady s
  | .acqHoldExpiry cond => Sys2Proof.Machine.execAcqHoldExpiry cond s
  | .acqRecordDone => Sys2Proof.Machine.execAcqRecordDone s
  | .acqRingBlock => Sys2Proof.Machine.execAcqRingBlock s
  | .cycleRecordReceived r => Sys2Proof.Machine.execCycleRecordReceived r s
  | .cycleRecordMissing => Sys2Proof.Machine.execCycleRecordMissing s
  | .twinHoldTimeout => Sys2Proof.Machine.execTwinHoldTimeout s
  | .twinForwardReceived seq cmd target => Sys2Proof.Machine.execTwinForwardReceived seq cmd target s
  | .twinForwardCommit seq => Sys2Proof.Machine.execTwinForwardCommit seq s
  | .oxbowLaneDown lane => Sys2Proof.Machine.execOxbowLaneDown lane s
  | .twinJoinPrepareDone => Sys2Proof.Machine.execTwinJoinPrepareDone s
  | .twinCatchupPass marked => Sys2Proof.Machine.execTwinCatchupPass marked s
  | .twinEntry drained => Sys2Proof.Machine.execTwinEntry drained s
  | .resyncTimeout => Sys2Proof.Machine.execResyncTimeout s
  | .twinYieldHandover => Sys2Proof.Machine.execTwinYieldHandover s
  | .eccScrub corrected uncorrectable sramUncorr => Sys2Proof.Machine.execEccScrub corrected uncorrectable sramUncorr s
  | .marchTest failed => Sys2Proof.Machine.execMarchTest failed s
  | .eddyTest core failed => Sys2Proof.Machine.execEddyTest core failed s
  | .powerOnMonitor asserted => Sys2Proof.Machine.execPowerOnMonitor asserted s
  | .porstN asserted => Sys2Proof.Machine.execPorstN asserted s
  | .thermalTrip asserted => Sys2Proof.Machine.execThermalTrip asserted s
  | .wrstN asserted => Sys2Proof.Machine.execWrstN asserted s
  | .watchdogHalf => Sys2Proof.Machine.execWatchdogHalf s
  | .watchdogTimeout => Sys2Proof.Machine.execWatchdogTimeout s
  | .twinResetRequest => Sys2Proof.Machine.execTwinResetRequest s
  | .upstreamReset block => Sys2Proof.Machine.execUpstreamReset block s
  | .vcoreLoss => Sys2Proof.Machine.execVcoreLoss s
  | .releaseStart => Sys2Proof.Machine.execReleaseStart s
  | .islandRelease x => Sys2Proof.Machine.execIslandRelease x s
  | .islandAbsent x => Sys2Proof.Machine.execIslandAbsent x s
  | .islandLateClock x => Sys2Proof.Machine.execIslandLateClock x s
  | .islandLockLoss x => Sys2Proof.Machine.execIslandLockLoss x s
  | .rstOverrideWrite v => Sys2Proof.Machine.execRstOverrideWrite v s
  | .dramTrained => Sys2Proof.Machine.execDramTrained s
  | .sramCleared => Sys2Proof.Machine.execSramCleared s
  | .imageSelect => Sys2Proof.Machine.execImageSelect s
  | .hostReady => Sys2Proof.Machine.execHostReady s
  | .quiesceDone block => Sys2Proof.Machine.execQuiesceDone block s
  | .imageEraseDone => Sys2Proof.Machine.execImageEraseDone s
  | .imageCommitDone => Sys2Proof.Machine.execImageCommitDone s
  | .pfailQualified code => Sys2Proof.Machine.execPfailQualified code s
  | .pfailClear => Sys2Proof.Machine.execPfailClear s
  | .tierEvaluate code => Sys2Proof.Machine.execTierEvaluate code s
  | .storeCapture => Sys2Proof.Machine.execStoreCapture s
  | .storeWriteDone rate => Sys2Proof.Machine.execStoreWriteDone rate s
  | .vauxFail => Sys2Proof.Machine.execVauxFail s
  | .jtagInstruction code => Sys2Proof.Machine.execJtagInstruction code s
  | .regAccessUpdate dr => Sys2Proof.Machine.execRegAccessUpdate dr s
  | .rcRegisterRead addr => Sys2Proof.Machine.execRcRegisterRead addr s
  | .registerWrite addr size v => Sys2Proof.Machine.execRegisterWrite addr size v s
  | .pcieLinkUp gt25 msix => Sys2Proof.Machine.execPcieLinkUp gt25 msix s
  | .portLinkUp port fullDuplex negotiated => Sys2Proof.Machine.execPortLinkUp port fullDuplex negotiated s
  | .oxbowLaneUp lane peer => Sys2Proof.Machine.execOxbowLaneUp lane peer s
  | .slewingEnd => Sys2Proof.Machine.execSlewingEnd s
  | .ptpDelayMessage d kind stamp16 => Sys2Proof.Machine.execPtpDelayMessage d kind stamp16 s
  | .dFrameHandover port looped dH16 recs => Sys2Proof.Machine.execDFrameHandover port looped dH16 recs s
  | .upstreamDFrame uplink f stamp => Sys2Proof.Machine.execUpstreamDFrame uplink f stamp s
  | .upstreamFFrame uplink fcsOk cycle slots => Sys2Proof.Machine.execUpstreamFFrame uplink fcsOk cycle slots s
  | .upstreamSFrame uplink segs => Sys2Proof.Machine.execUpstreamSFrame uplink segs s

end Sys2Proof.Machine
end

