-- ==== Sys2Proof/WellFormed.lean ====
section
/-! DEFINITION. Commands that can be sent: operands within the ranges that the table's rows and the address map give them. -/
namespace Sys2Proof

/-- A packet as it can lie in a ring: its parameter words are those its length counts, after any path word (02 R51). -/
def Pkt.wf (p : Pkt) : Bool :=
  p.words.length == (p.plen - (if p.flags.getLsbD 0 then 4 else 0)) / 4 && decide (p.plen < 4294967296) && decide (p.rbufLen < 4294967296)
    && match p.src with
      | .ring n => decide (n < 64)
      | .twin (some n) => decide (n < 64)
      | _ => true

/-- A command that may be absent. -/
def optWf : Option Cmd → Bool
  | some c => c.pkt.wf
  | none => true

/-- An F-slot names a node, and its payload is no longer than a slot can be (05 R135, R136). -/
def FSlot.wf (x : FSlot) : Bool := decide (x.node < 1024) && decide (x.payload.length ≤ 1024)

/-- A segment names a node, and holds no more than its space (05 R159). -/
def Seg.wf (x : Seg) : Bool := decide (x.node < 1024) && decide (x.cap ≤ 1016) && decide (4 * x.words.length ≤ x.cap)

/-- Lengths of a node record fit its fields (05 R140). -/
def NodeRec.wf (x : NodeRec) : Bool := decide (x.axes ≤ 4) && decide (x.fLen < 65536) && decide (x.cLen < 65536)

/-- A command that can be sent. -/
def Instr.wf : Instr → Bool
  | .nop p => p.wf
  | .getIdentity p => p.wf
  | .getStatus p => p.wf
  | .reset p => p.wf
  | .blockQuiesce p => p.wf
  | .imageUpdateBegin p => p.wf
  | .imageUpdateWrite p => p.wf
  | .imageUpdateCommit p => p.wf
  | .axisConfigure p => p.wf
  | .axisEnable p => p.wf
  | .axisDisable p => p.wf
  | .axisClearFault p => p.wf
  | .paramsetWrite p => p.wf
  | .paramsetSwitchAt p => p.wf
  | .netDiscover p => p.wf
  | .netScheduleLoad p => p.wf
  | .netScheduleActivateAt p => p.wf
  | .netNodeMailbox p => p.wf
  | .netJoinConfigure p => p.wf
  | .timeConfigure p => p.wf
  | .timeSelectDomain p => p.wf
  | .snapshotAt p => p.wf
  | .snapshotRead p => p.wf
  | .move p => p.wf
  | .stop p => p.wf
  | .home p => p.wf
  | .compareSet p => p.wf
  | .gearSet p => p.wf
  | .registrationBind p => p.wf
  | .acqConfigure p => p.wf
  | .acqArm p => p.wf
  | .acqRead p => p.wf
  | .eddyLoad p => p.wf
  | .flowCreate p => p.wf
  | .taskPost p => p.wf
  | .corePark p => p.wf
  | .twinConfigure p => p.wf
  | .twinHealth p => p.wf
  | .twinYield p => p.wf
  | .powerBudgetSet p => p.wf
  | .powerStatus p => p.wf
  | .storeConfigure p => p.wf
  | .storeNow p => p.wf
  | .storeRead p => p.wf
  | .portConfigure p => p.wf
  | .pwmFaultClear p => p.wf
  | .cmdTailDoorbell ring _ => decide (ring < 64)
  | .consumerHeadDoorbell ring _ => decide (ring < 64)
  | .ringEnable ring _ => decide (ring < 64)
  | .ringDisable ring _ => decide (ring < 64)
  | .ringConfigWrite ring _ => decide (ring < 64)
  | .commandTake heads => heads.all fun x => decide (x.1 < 64) && x.2.pkt.wf
  | .hostDmaFailure ring result => decide (ring < 64) && optWf result
  | .irqModerationTimeout ring => decide (ring < 64)
  | .irqCauseW1c _ => true
  | .irqMaskWrite _ => true
  | .intxPendW1c _ _ => true
  | .pcieLinkDown => true
  | .hotReset => true
  | .functionLevelReset => true
  | .forwardedReply _ _ _ _ => true
  | .forwardTimeout _ => true
  | .forwardedCommand cmd => cmd.pkt.wf
  | .resetAssert => true
  | .bootScriptStart => true
  | .bootScriptPacket => true
  | .glbEvtRouteWrite _ => true
  | .cycleSample _ => true
  | .fFrameDepart => true
  | .fFrameArrival f => decide (f.port < 48) && f.slots.all FSlot.wf
  | .cFrameReturn port _ _ _ _ _ => decide (port < 48)
  | .latticeStart lat => decide (lat < 16)
  | .dUDeadline => true
  | .axisCompute lat pipe doneNs => decide (lat < 16) && decide (pipe < 4) && decide (doneNs < 262144)
  | .followingError axis => decide (axis < 256)
  | .dXDeadline => true
  | .missLimitReached axis => decide (axis < 256)
  | .nodeLost node => decide (node < 1024)
  | .standstillReached axis => decide (axis < 256)
  | .stopTimeout axis => decide (axis < 256)
  | .historyFreeze axis => decide (axis < 256)
  | .histFrozenW1c axis => decide (axis < 256)
  | .stickyFlagW1c axis _ => decide (axis < 256)
  | .mailboxSlotWrite _ axis slot off _ => decide (axis < 256) && decide (slot < 8) && decide (off < 28) && off % 4 == 0
  | .mailboxCommitWrite _ axis slot _ => decide (axis < 256) && decide (slot < 8)
  | .prfMarkRdWrite axis _ => decide (axis < 256)
  | .paramsetSwitch => true
  | .generationActivate => true
  | .periodEpochChange => true
  | .walkReturn port _ _ _ _ recs => decide (port < 48) && recs.all NodeRec.wf
  | .walkTimeout port => decide (port < 48)
  | .assignAck port _ => decide (port < 48)
  | .serviceSegmentReturn port _ segs => decide (port < 48) && segs.all Seg.wf
  | .distributionTimeout => true
  | .nodeMailboxTimeout node => decide (node < 1024)
  | .probeSend => true
  | .probeReturn port _ _ _ recs _ => decide (port < 48) && recs.all NodeRec.wf
  | .joinActivate port => decide (port < 48)
  | .joinAbandon port => decide (port < 48)
  | .joinGraceExpiry node => decide (node < 1024)
  | .recloseActivate port => decide (port < 48)
  | .dlyDrift port => decide (port < 48)
  | .portLinkDown port => decide (port < 48)
  | .netComEtypeWrite _ => true
  | .netComClaimWrite _ => true
  | .confOutCopy => true
  | .confInWrite => true
  | .upSafe => true
  | .upstreamCFrame f => decide (f.uplink < 2)
  | .ptpSyncReceived _ _ => true
  | .ptpAnnounceReceived uplink _ => decide (uplink < 2)
  | .ptpTransmit _ _ _ => true
  | .domainLost _ => true
  | .autoRevert => true
  | .tmbIncrNomWrite _ => true
  | .tmbSrvNsRead => true
  | .snapshotLatch id => decide (id < 4)
  | .snapshotRequest id _ => decide (id < 4)
  | .snapshotReport node id _ _ _ => decide (node < 1024) && decide (id < 4)
  | .snapshotTimeout id => decide (id < 4)
  | .taskDispatch => true
  | .coreWoken core => decide (core < 32)
  | .periodicTrigger ev => decide (ev < 8)
  | .delayBoundary list => decide (list < 4)
  | .schDlyTickWrite list _ => decide (list < 4)
  | .governorPeriodEnd _ _ => true
  | .temperatureSample _ => true
  | .pmbusTransactionDone _ _ _ => true
  | .pmbFault => true
  | .pwrGovWrite _ => true
  | .eNop c _ => decide (c < 32)
  | .eMpy c _ _ _ _ => decide (c < 32)
  | .eMac c _ _ _ _ => decide (c < 32)
  | .eMsu c _ _ _ _ => decide (c < 32)
  | .eDmpy c _ _ _ _ _ => decide (c < 32)
  | .eDmac c _ _ _ _ _ => decide (c < 32)
  | .eAdd c _ _ _ => decide (c < 32)
  | .eSub c _ _ _ => decide (c < 32)
  | .eCmp c _ _ _ => decide (c < 32)
  | .eCpy c _ _ _ => decide (c < 32)
  | .eZero c _ _ => decide (c < 32)
  | .eNeg c _ _ => decide (c < 32)
  | .eAbs c _ _ => decide (c < 32)
  | .eRound c _ _ => decide (c < 32)
  | .eLim c _ _ => decide (c < 32)
  | .eShl c _ _ _ => decide (c < 32)
  | .eShr c _ _ _ => decide (c < 32)
  | .eAnd c _ _ _ => decide (c < 32)
  | .eOr c _ _ _ => decide (c < 32)
  | .eXor c _ _ _ => decide (c < 32)
  | .eMaxiL c _ _ _ _ => decide (c < 32)
  | .eMaxiP c _ _ _ _ => decide (c < 32)
  | .eMiniL c _ _ _ _ => decide (c < 32)
  | .eMiniP c _ _ _ _ => decide (c < 32)
  | .eLdPointer c _ _ => decide (c < 32)
  | .eStPointer c _ _ => decide (c < 32)
  | .eMov c _ _ => decide (c < 32)
  | .eLdAbsolute c _ _ _ => decide (c < 32)
  | .eStAbsolute c _ _ _ => decide (c < 32)
  | .controlPageDmaGo c _ => decide (c < 32)
  | .timeLoRead c _ => decide (c < 32)
  | .eLdi c _ _ => decide (c < 32)
  | .eAddi c _ _ => decide (c < 32)
  | .eCmpi c _ _ => decide (c < 32)
  | .eLdis c _ _ => decide (c < 32)
  | .eLdif c _ _ => decide (c < 32)
  | .ePadd c _ _ => decide (c < 32)
  | .ePmod c _ => decide (c < 32)
  | .eAndi c _ _ => decide (c < 32)
  | .eOri c _ _ => decide (c < 32)
  | .eNorm c _ _ => decide (c < 32)
  | .eLoop c _ _ => decide (c < 32)
  | .eLoopr c _ _ => decide (c < 32)
  | .eLexit c => decide (c < 32)
  | .eGoto c _ => decide (c < 32)
  | .eGotoCond c _ _ => decide (c < 32)
  | .eLink c _ _ => decide (c < 32)
  | .eRet c _ => decide (c < 32)
  | .eDone c => decide (c < 32)
  | .eWaitcy c _ => decide (c < 32)
  | .ePost c _ _ _ _ => decide (c < 32)
  | .eSemAcquire c _ => decide (c < 32)
  | .eSemTry c _ => decide (c < 32)
  | .eSemRelease c _ => decide (c < 32)
  | .eVmax c _ _ _ _ _ => decide (c < 32)
  | .eVmin c _ _ _ _ _ => decide (c < 32)
  | .waitcyReturn core => decide (core < 32)
  | .postStallEnd core => decide (core < 32)
  | .semGrant sem => decide (sem < 64)
  | .windowReadReturn core => decide (core < 32)
  | .dmaDescriptorDone core => decide (core < 32)
  | .taskEnd core => decide (core < 32)
  | .runtimeLimit core => decide (core < 32)
  | .edyHalt core _ => decide (core < 32)
  | .edyStep core _ => decide (core < 32)
  | .markEdge input _ _ _ => decide (input < 16)
  | .inputQualified axis _ _ _ => decide (axis < 256)
  | .hardStopHome axis => decide (axis < 256)
  | .quadratureEdge port _ _ => decide (port < 16)
  | .indexEvent port => decide (port < 16)
  | .serialFrameStart port => decide (port < 16)
  | .serialFrameEnd port _ _ _ delay5 => decide (port < 16) && decide (delay5 < 512)
  | .sdStuck port ch => decide (port < 16) && decide (ch < 3)
  | .acqSdSample port ch _ _ => decide (port < 16) && decide (ch < 3)
  | .overcurrent port => decide (port < 16)
  | .faultN port _ => decide (port < 16)
  | .gfaultN _ => true
  | .fbLoss port => decide (port < 16)
  | .pwmPeriodBoundary port => decide (port < 16)
  | .pwmPeriodWrite port _ => decide (port < 16)
  | .pwmCmpWrite port pair _ => decide (port < 16) && decide (pair < 4)
  | .pwmCommitWrite port _ => decide (port < 16)
  | .pwmFltclrWrite port _ => decide (port < 16)
  | .stepInputEdge port _ _ => decide (port < 16)
  | .acqReady => true
  | .acqHoldExpiry cond => decide (cond < 4)
  | .acqRecordDone => true
  | .acqRingBlock => true
  | .cycleRecordReceived _ => true
  | .cycleRecordMissing => true
  | .twinHoldTimeout => true
  | .twinForwardReceived _ cmd _ => cmd.pkt.wf
  | .twinForwardCommit _ => true
  | .oxbowLaneDown lane => decide (lane < 2)
  | .twinJoinPrepareDone => true
  | .twinCatchupPass _ => true
  | .twinEntry _ => true
  | .resyncTimeout => true
  | .twinYieldHandover => true
  | .eccScrub _ _ _ => true
  | .marchTest _ => true
  | .eddyTest core _ => decide (core < 32)
  | .powerOnMonitor _ => true
  | .porstN _ => true
  | .thermalTrip _ => true
  | .wrstN _ => true
  | .watchdogHalf => true
  | .watchdogTimeout => true
  | .twinResetRequest => true
  | .upstreamReset _ => true
  | .vcoreLoss => true
  | .releaseStart => true
  | .islandRelease i => decide (1 ≤ i) && decide (i ≤ 9)
  | .islandAbsent i => decide (1 ≤ i) && decide (i ≤ 9)
  | .islandLateClock i => decide (1 ≤ i) && decide (i ≤ 9)
  | .islandLockLoss i => decide (1 ≤ i) && decide (i ≤ 9)
  | .rstOverrideWrite _ => true
  | .dramTrained => true
  | .sramCleared => true
  | .imageSelect => true
  | .hostReady => true
  | .quiesceDone block => decide (block < 256)
  | .imageEraseDone => true
  | .imageCommitDone => true
  | .pfailQualified _ => true
  | .pfailClear => true
  | .tierEvaluate _ => true
  | .storeCapture => true
  | .storeWriteDone _ => true
  | .vauxFail => true
  | .jtagInstruction _ => true
  | .regAccessUpdate _ => true
  | .rcRegisterRead addr => decide (addr < 67108864) && addr % 4 == 0
  | .registerWrite addr size _ => decide (addr < 67108864) && addr % 4 == 0 && (size == 4 || size == 8 && addr % 8 == 0)
  | .pcieLinkUp _ _ => true
  | .portLinkUp port _ _ => decide (port < 48)
  | .oxbowLaneUp lane _ => decide (lane < 2)
  | .slewingEnd => true
  | .ptpDelayMessage _ _ _ => true
  | .dFrameHandover port _ _ recs => decide (port < 48) && recs.all NodeRec.wf
  | .upstreamDFrame uplink _ _ => decide (uplink < 2)
  | .upstreamFFrame uplink _ _ slots => decide (uplink < 2) && slots.all FSlot.wf
  | .upstreamSFrame uplink segs => decide (uplink < 2) && segs.all Seg.wf

end Sys2Proof
end

