-- ==== Sys2Proof/Safety.lean ====
section
/-! DEFINITION. What statements are made of: runs that stop nowhere, and the invariants of the machine. -/
namespace Sys2Proof.Machine

/-- A step that goes on. -/
def Result.next? : Result → Option State
  | .next s => some s
  | _ => none

/-- Memories in their canonical form: addresses strictly rising, and no unit equal to what an unlisted address reads as. -/
def State.MemOk (s : State) : Prop :=
  Memory.wf s.acq.sram ∧ Memory.wf s.acq.signals ∧ Memory.wf s.host.msix
    ∧ Memory.wf s.net.conf.confIn ∧ Memory.wf s.net.conf.confOut
    ∧ (∀ a ∈ s.axes, Memory.wf a.setA ∧ Memory.wf a.setB)
    ∧ (∀ c ∈ s.eddy.cores, Memory.wf c.x ∧ Memory.wf c.y ∧ Memory.wf c.prog)

/-- The instants of a generation meet 01 R8 and R14. -/
def GenImage.Legal (g : GenImage) : Prop :=
  g.tc ∈ legalPeriods ∧ g.sampleOffset ≤ 8000 ∧ 500 ≤ g.fDepart ∧ g.sampleOffset + 500 ≤ g.fDepart ∧ g.fDepart < g.dU
    ∧ g.dU + 1000 ≤ g.dX ∧ 1000 ≤ g.guardNs ∧ g.dX + g.guardNs ≤ g.tc ∧ g.applyOffset ≤ 8000 ∧ g.applyOffset ≤ g.dX

/-- The period in force, and the active and the pending generation are legal (01 R8, R11, R14). -/
def State.PlanOk (s : State) : Prop :=
  s.tmb.tc ∈ legalPeriods ∧ (∀ g, s.net.active = some g → g.Legal) ∧ (∀ g, s.net.pending = some g → g.Legal)

/-- A packet passes the checks that all opcodes share, steps 1 to 4 of 02 R441, at this head itself, and no twin partner
shares the command (13 R372). -/
def State.Takes (s : State) (op : Op) (p : Pkt) : Prop :=
  s.host.ready = true ∧ s.serves op.opcode = true ∧ headerCheck p = none ∧ s.route p = .here ∧ lengthCheck op p s = none
    ∧ p.kind = op.kind ∧ p.unit < s.unitCount op.kind
    ∧ (twinForwarded op.opcode = false ∨ s.twn.state = .single ∨ s.twn.state = .alone)

/-- A core of this part that executes a task (07 R223). -/
def State.Runs (s : State) (c : Nat) : Prop := c < s.nCores ∧ (s.core c).state = .run

/-- The command that has a core execute an instruction (08 R233-R251); a word that is no instruction has none. -/
def EIns.command (c : Nat) : EIns → Option Instr
  | .nop mv => some (.eNop c mv)
  | .mpy n i j mv => some (.eMpy c n i j mv)
  | .mac n i j mv => some (.eMac c n i j mv)
  | .msu n i j mv => some (.eMsu c n i j mv)
  | .dmpy p k n m mv => some (.eDmpy c p k n m mv)
  | .dmac p k n m mv => some (.eDmac c p k n m mv)
  | .add n k mv => some (.eAdd c n k mv)
  | .sub n k mv => some (.eSub c n k mv)
  | .cmp n k mv => some (.eCmp c n k mv)
  | .cpy n k mv => some (.eCpy c n k mv)
  | .zero n mv => some (.eZero c n mv)
  | .neg n mv => some (.eNeg c n mv)
  | .abs n mv => some (.eAbs c n mv)
  | .round n mv => some (.eRound c n mv)
  | .lim n mv => some (.eLim c n mv)
  | .shl n k mv => some (.eShl c n k mv)
  | .shr n k mv => some (.eShr c n k mv)
  | .and n k mv => some (.eAnd c n k mv)
  | .or n k mv => some (.eOr c n k mv)
  | .xor n k mv => some (.eXor c n k mv)
  | .maxi n k j false mv => some (.eMaxiL c n k j mv)
  | .maxi n k j true mv => some (.eMaxiP c n k j mv)
  | .mini n k j false mv => some (.eMiniL c n k j mv)
  | .mini n k j true mv => some (.eMiniP c n k j mv)
  | .ldp a r => some (.eLdPointer c a r)
  | .stp a r => some (.eStPointer c a r)
  | .mov rd rs => some (.eMov c rd rs)
  | .lda y r a => some (.eLdAbsolute c y r a)
  | .sta y r a => some (.eStAbsolute c y r a)
  | .ldi r v => some (.eLdi c r v)
  | .addi n v => some (.eAddi c n v)
  | .cmpi n v => some (.eCmpi c n v)
  | .ldis r v => some (.eLdis c r v)
  | .ldif r v => some (.eLdif c r v)
  | .padd n v => some (.ePadd c n v)
  | .pmod n => some (.ePmod c n)
  | .andi k u => some (.eAndi c k u)
  | .ori k u => some (.eOri c k u)
  | .norm n k => some (.eNorm c n k)
  | .loop n e => some (.eLoop c n e)
  | .loopr r e => some (.eLoopr c r e)
  | .lexit => some (.eLexit c)
  | .goto a => some (.eGoto c a)
  | .gotoc k a => some (.eGotoCond c k a)
  | .link a n => some (.eLink c a n)
  | .ret n => some (.eRet c n)
  | .done => some (.eDone c)
  | .waitcy e => some (.eWaitcy c e)
  | .post r p d t => some (.ePost c r p d t)
  | .semAcquire n => some (.eSemAcquire c n)
  | .semTry n => some (.eSemTry c n)
  | .semRelease n => some (.eSemRelease c n)
  | .vext false n y p m k => some (.eVmax c n y p m k)
  | .vext true n y p m k => some (.eVmin c n y p m k)
  | .illegal => none

end Sys2Proof.Machine
end

