-- ==== Sys2Proof/Certificates/Slice0/Obligations.lean ====
section
/-! DEFINITION. The statements for the provers. -/
open Sys2Proof Sys2Proof.Machine

/-! ## The queue, the state after reset and the invariants -/

/-- A step takes the command at the front of the queue and runs it with the rest of the queue. -/
def Obligations.StepRunsTheFront : Prop :=
  ∀ (c : Instr) (rest : List Instr) (s : State), step { s with pending := c :: rest } = exec c { s with pending := rest }

/-- With nothing queued, a step is one period of the 250 MHz clock of the time base (the model's choice, log entry 6): time goes on, and
the queue, the ordering code, the cycle period and the generations stay. -/
def Obligations.EmptyQueueTicks : Prop :=
  ∀ s : State, s.pending = [] → step s = .next s.tick ∧ s.tick.pending = [] ∧ s.tick.fuse.code = s.fuse.code
    ∧ s.tick.tmb.tc = s.tmb.tc ∧ s.tick.net.active = s.net.active ∧ s.tick.net.pending = s.net.pending

/-- No command stops the part: each answers a next state, with the queue and the ordering code as they were. -/
def Obligations.CommandsComplete : Prop :=
  ∀ (c : Instr) (s : State), ∃ t, exec c s = .next t ∧ t.pending = s.pending ∧ t.fuse.code = s.fuse.code

/-- The period in force and the active and pending generations stay legal under every step (01 R8, R14). -/
def Obligations.StepKeepsThePlanLegal : Prop :=
  ∀ s t : State, s.PlanOk → step s = .next t → t.PlanOk

/-- The plan is legal after reset, and every memory is in its canonical form. -/
def Obligations.ResetIsLegal : Prop := State.reset.PlanOk ∧ State.reset.MemOk

/-- A packet that passes the common checks is settled by its opcode's own checks and effect, or, where a serving twin shares the command,
goes to both heads for a cycle; one that fails a check is answered with the status of the first check that fails, and changes nothing
else; one for a head below is forwarded to it (02 R54, R441; 13 R372). -/
def Obligations.CommonChecksComeFirst : Prop :=
  ∀ (op : Op) (p : Pkt) (s : State),
    let foreign : Prop := ∃ n, p.src = .twin n
    (s.Takes op p → State.carry op p s = s.settle p (op.body {} p s))
    ∧ (s.host.ready = false → State.carry op p s = s)
    ∧ (s.host.ready = true → s.serves op.opcode = false → State.carry op p s = s.reply p stBadOpcode 0 [])
    ∧ (s.host.ready = true → s.serves op.opcode = true →
      (∀ st d, State.headerCheck p = some (st, d) → State.carry op p s = s.reply p st d [])
      ∧ (State.headerCheck p = none →
        (∀ n rest, s.route p = .nested n rest → State.carry op p s = s.forwardTo op.opcode p n rest)
        ∧ ((∀ n rest, s.route p ≠ .nested n rest) → ∀ st d, State.lengthCheck op p s = some (st, d) → State.carry op p s = s.reply p st d [])
        ∧ (State.lengthCheck op p s = none →
          (s.route p = .bad ∨ (s.route p = .here ∧ (p.kind ≠ op.kind ∨ s.unitCount op.kind ≤ p.unit)) →
            State.carry op p s = s.reply p stBadTarget 0 [])
          ∧ (s.route p = .lost → State.carry op p s = s.reply p stNotReady 0 [])
          ∧ (s.route p = .here → p.kind = op.kind → p.unit < s.unitCount op.kind → State.carry op p s = State.dispatch op p s)
          ∧ (∀ n, s.route p = .atNode n →
            (op.kind ≠ 3 → State.carry op p s = s.reply p stBadTarget 0 [])
            ∧ (op.kind = 3 → State.carry op p s = State.dispatch op { p with target := BitVec.ofNat 16 (0x3000 + n) } s)))))
    ∧ (twinForwarded op.opcode = false ∨ foreign ∨ s.twn.state = .single ∨ s.twn.state = .alone →
      State.dispatch op p s = s.settle p (op.body {} p s))
    ∧ (twinForwarded op.opcode = true → ¬ foreign → s.twn.state = .active →
      let at' := (op.cycle p s).getD (s.k + 2)
      State.dispatch op p s = match op.body { due := some at' } p s with
        | .fail st d => s.reply p st d []
        | .done _ _ => s.enqueueTwin op.opcode p at' true
        | .accept t => (t.reply p stAccepted 0 []).enqueueTwin op.opcode p at' false
        | .later t => t.enqueueTwin op.opcode p at' false
        | .refuse st d t => t.reply p st d [])
    ∧ (twinForwarded op.opcode = true → ¬ foreign → s.twn.state ≠ .single → s.twn.state ≠ .alone → s.twn.state ≠ .active →
      State.dispatch op p s = s.reply p stDenied 0 [])

/-- The completion of a command of a ring: with result data in the result buffer or inline, in the next entry of the ring's CPL ring,
under the PHASE bit of R46; and none for a SILENT command that did not fail (02 R45, R46, R51). -/
def Obligations.CompletionsAreWritten : Prop :=
  ∀ (n : Nat) (p : Pkt) (st d : Half) (res : List Word) (s : State), p.src = .ring n →
    ((p.silent = true → st = stOk ∨ st = stAccepted → s.reply p st d res = s)
    ∧ (p.silent = false → (s.ring (s.ring n).cplRing.toNat).room 1 = true →
        (∀ x ∈ s.host.cplWait, x.1 ≠ (s.ring n).cplRing.toNat) →
        let c := (s.ring n).cplRing.toNat
        let r := s.ring c
        let buffered := p.rbuf && (st == stOk) && !res.isEmpty
        let entry : Cpl := { cmdRing := n, tag := p.tag, status := st, detail := d, len := 4 * res.length, time := s.now32
                             result := if buffered then [] else res, inline := !buffered }
        s.reply p st d res
          = ((if buffered then s.emit (.result p.rbufAddr res) else s).emit
              (.completion c (r.tail.toNat % r.size) (decide (r.tail.toNat < r.size)) entry)).advanceTail c))

/-! ## The host interface -/

/-- A doorbell on a CMD ring moves its producer index, a doorbell on a CPL, EVT or ACQ ring its consumer index; one whose value is 2N or
more, or passes the other index, is rejected with IDX_ERR and the ring-error cause; a write that is no doorbell on this ring is
ignored (02 R38, R39, R40). -/
def Obligations.DoorbellsMoveIndices : Prop :=
  ∀ (n : Nat) (v : Word) (s : State),
    let r := s.ring n
    let x := v.toNat % 8192
    (r.enable = true → r.type = 0 →
      (x < 2 * r.size → (x + 2 * r.size - r.head.toNat) % (2 * r.size) ≤ r.size →
        exec (.cmdTailDoorbell n v) s = .next (s.modRing n fun r => { r with tail := BitVec.ofNat 13 x }))
      ∧ (2 * r.size ≤ x ∨ r.size < (x + 2 * r.size - r.head.toNat) % (2 * r.size) →
        exec (.cmdTailDoorbell n v) s = .next ((s.modRing n fun r => { r with idxErr := true }).raiseCause 0))
      ∧ exec (.consumerHeadDoorbell n v) s = .next s)
    ∧ (r.enable = true → r.type ≠ 0 →
      (x < 2 * r.size → (x + 2 * r.size - r.head.toNat) % (2 * r.size) ≤ r.fill →
        let moved := s.modRing n fun r => { r with head := BitVec.ofNat 13 x }
        exec (.consumerHeadDoorbell n v) s = .next (
          if r.type = 1 then moved.flushCpl n s.host.cplWait.length
          else if r.type = 2 then moved.flushHeld.flushOwed n
          else moved))
      ∧ (2 * r.size ≤ x ∨ r.fill < (x + 2 * r.size - r.head.toNat) % (2 * r.size) →
        exec (.consumerHeadDoorbell n v) s = .next ((s.modRing n fun r => { r with idxErr := true }).raiseCause 0))
      ∧ exec (.cmdTailDoorbell n v) s = .next s)
    ∧ (r.enable = false → exec (.cmdTailDoorbell n v) s = .next s ∧ exec (.consumerHeadDoorbell n v) s = .next s)

/-- Writes of RNG_CTRL: an enable with legal fields starts the ring empty; an illegal one sets CFG_ERR and raises the ring-error cause; a
disable empties the ring and drops what was held for it; with ENABLE 0 before and after, the fields are taken; a write to an
enabled ring that keeps ENABLE changes nothing (02 R40). -/
def Obligations.RingControlWrites : Prop :=
  ∀ (n : Nat) (v : Word) (s : State),
    let fields (r : Ring) : Ring := { r with
      prio := v.getLsbD 30, cplRing := v.extractLsb' 18 6, vector := v.extractLsb' 12 6, sizeLog2 := v.extractLsb' 4 4, type := v.extractLsb' 0 2 }
    let refused : Bool := decide (field v.toNat 4 4 < 4) || decide (field v.toNat 4 4 > 12) || decide (field v.toNat 12 6 > 59)
      || (decide (field v.toNat 0 2 = 0)
        && !((s.ring (field v.toNat 18 6)).enable && decide ((s.ring (field v.toNat 18 6)).type = 1)))
    ((s.ring n).enable = false → v.getLsbD 31 = true → refused = false →
      let started := s.modRing n fun r => { fields r with enable := true, stopped := false, tail := 0, head := 0, unsig := 0 }
      exec (.ringEnable n v) s = .next (if field v.toNat 0 2 = 2 then started.flushHeld.flushOwed n else started))
    ∧ ((s.ring n).enable = false → v.getLsbD 31 = true → refused = true →
      exec (.ringEnable n v) s = .next ((s.modRing n fun r => { fields r with cfgErr := true }).raiseCause 0))
    ∧ ((s.ring n).enable = true → v.getLsbD 31 = false →
      exec (.ringDisable n v) s = .next ((s.modRing n fun r => { fields r with
        enable := false, stopped := false, tail := 0, head := 0, unsig := 0, heldPost := false }).dropHeldFor n))
    ∧ ((s.ring n).enable = false → v.getLsbD 31 = false → exec (.ringConfigWrite n v) s = .next (s.modRing n fields))
    ∧ ((s.ring n).enable = true → v.getLsbD 31 = true → exec (.ringConfigWrite n v) s = .next s)

/-- Writing 1 re-arms causes and clears INTx pending bits; unmasking a cause that is set sends its vector, in the order of the vectors;
a moderation timeout sends the vector of a ring with unsignalled entries (02 R41, R63, R443). -/
def Obligations.InterruptRegisters : Prop :=
  ∀ (v : Word) (high : Bool) (n : Nat) (s : State),
    exec (.irqCauseW1c v) s = .next { s with host := { s.host with cause := s.host.cause &&& ~~~(v.extractLsb' 0 4) } }
    ∧ exec (.irqMaskWrite v) s = .next (([0, 1, 2, 3].filter fun i => s.host.mask.getLsbD i && !v.getLsbD i && s.host.cause.getLsbD i).foldl
        (fun t i => t.sendVector (60 + i)) { s with host := { s.host with mask := v.extractLsb' 0 4 } })
    ∧ exec (.intxPendW1c high v) s = .next { s with host := { s.host with
        intx := if high then s.host.intx &&& ~~~(v ++ (0 : Word)) else s.host.intx &&& ~~~((0 : Word) ++ v) } }
    ∧ ((s.ring n).enable = true → (s.ring n).unsig ≠ 0 → (s.ring n).imodTime ≠ 0 →
        exec (.irqModerationTimeout n) s = .next ((s.modRing n fun r => { r with unsig := 0 }).sendVector (s.ring n).vector.toNat))
    ∧ ((s.ring n).enable = false ∨ (s.ring n).unsig = 0 ∨ (s.ring n).imodTime = 0 → exec (.irqModerationTimeout n) s = .next s)

/-- A link-down, a hot reset and a function-level reset each return every ring and interrupt register to its reset value and drop what was
not yet taken; nothing else changes, but that a link-down takes the link (02 R35). The link comes up with its speed and MSI-X enable
(log entry 5), and a BOOT_SCRIPT_DONE that was held goes out where its route allows. -/
def Obligations.HostLinkResets : Prop :=
  ∀ (gt25 msix : Bool) (s : State),
    let held := s.sch.held.filter fun h => match h with | .ring _ _ => false | _ => true
    let reset : State := { s with
      host := { s.host with
        rings := List.replicate 64 {}, msix := [], pba := 0, cause := 0, mask := 0xF, intx := 0, rrHigh := 0, rrLow := 0, cplWait := [] }
      sch := { s.sch with held := held } }
    exec .pcieLinkDown s = .next { reset with host := { reset.host with linkUp := false } }
    ∧ exec .hotReset s = .next reset
    ∧ exec .functionLevelReset s = .next reset
    ∧ (let up : State := { s with host := { s.host with linkUp := true, gt25 := gt25, msixEn := msix } }
      exec (.pcieLinkUp gt25 msix) s = .next up.flushHeld ∧ (s.host.heldBootDone = none → up.flushHeld = up))

/-- A reply to a forwarded command is posted as the reply of that command and ends its wait, unless it is ACCEPTED; a result that does not
fit ends it with BAD_LENGTH (log entry 17); no reply in time gives TIMEOUT; a command that arrives from the upstream head of a nested head
is carried out for it (02 R54, R58; 05 R162). -/
def Obligations.ForwardedCommands : Prop :=
  ∀ (id : Nat) (st d : Half) (res : List Word) (f : Fwd) (c : Cmd) (s : State),
    let ended : State := { s with host := { s.host with fwd := s.host.fwd.filter fun g => g.id != id } }
    (s.host.fwd.find? (fun g => g.id == id) = some f →
      let fits : Prop := ∀ m, f.pkt.src = .ring m → 4 * res.length ≤ (if f.pkt.rbuf then f.pkt.rbufLen else 48)
      (exec (.forwardedReply id stAccepted d res) s = .next (s.reply f.pkt stAccepted 0 []))
      ∧ (st ≠ stAccepted → st ≠ stOk → exec (.forwardedReply id st d res) s = .next (ended.reply f.pkt st d []))
      ∧ (fits → exec (.forwardedReply id stOk d res) s = .next (ended.finish f.pkt res))
      ∧ (¬ fits → exec (.forwardedReply id stOk d res) s = .next (ended.reply f.pkt stBadLength noWord []))
      ∧ exec (.forwardTimeout id) s = .next (ended.reply f.pkt stTimeout 0 []))
    ∧ (s.host.fwd.find? (fun g => g.id == id) = none →
      exec (.forwardedReply id st d res) s = .next s ∧ exec (.forwardTimeout id) s = .next s)
    ∧ (s.net.conf.role = true →
      (∀ op, opOf c.opcode = some op → exec (.forwardedCommand c) s = .next (State.carry op { c.pkt with src := .upstream } s))
      ∧ (opOf c.opcode = none → s.host.ready = true →
        exec (.forwardedCommand c) s = .next (s.reply { c.pkt with src := .upstream } stBadOpcode 0 []))
      ∧ (opOf c.opcode = none → s.host.ready = false → exec (.forwardedCommand c) s = .next s))
    ∧ (s.net.conf.role = false → exec (.forwardedCommand c) s = .next s)

/-- COMMAND_TAKE carries out the command at the head of one ring that may be served, a ring of high priority before the others and among
equals the next in turn, and frees its entry, but a post that waits for room keeps it; no ring that may be served, no effect; a
failed host memory access stops the ring with DMA_ERR (02 R42, R50). -/
def Obligations.CommandsAreTaken : Prop :=
  ∀ (n : Nat) (c : Cmd) (heads : List (Nat × Cmd)) (s : State),
    let able (x : Nat × Cmd) : Prop := x ∈ heads ∧ x.1 < 64 ∧ s.canTake x.1 x.2 = true
    let ran := State.runCmd { c with pkt := { c.pkt with src := .ring n } } { s with host := { s.host with
      rrHigh := if (s.ring n).prio then n else s.host.rrHigh, rrLow := if (s.ring n).prio then s.host.rrLow else n } }
    ((∀ x, ¬ able x) → exec (.commandTake heads) s = .next s)
    ∧ ((∃ x, able x) → ∃ m d, able (m, d) ∧ exec (.commandTake heads) s = .next (s.takeFrom m d)
      ∧ ((s.ring m).prio = false → ∀ x, able x → (s.ring x.1).prio = false)
      ∧ (let last := if (s.ring m).prio then s.host.rrHigh else s.host.rrLow
        ∀ x, able x → (s.ring x.1).prio = (s.ring m).prio →
          (last < m → x.1 ≤ last ∨ m ≤ x.1) ∧ (m ≤ last → x.1 ≤ last ∧ m ≤ x.1)))
    ∧ (ran.sch.held.length ≤ s.sch.held.length ∨ (∀ q, ran.sch.held.getLast? = some (.other q) → State.fromRing n q = false) →
      s.takeFrom n c = ran.advanceHead n)
    ∧ (∀ q, s.sch.held.length < ran.sch.held.length → ran.sch.held.getLast? = some (.other q) → State.fromRing n q = true →
      s.takeFrom n c = State.modRing { ran with sch := { ran.sch with held := ran.sch.held.dropLast ++ [Held.ring n q] } } n fun r =>
        { r with heldPost := true })
    ∧ ((s.ring n).running = true →
      let stop (t : State) : State := (t.modRing n fun r => { r with stopped := true, dmaErr := true }).raiseCause 0
      exec (.hostDmaFailure n none) s = .next (stop s)
      ∧ (c.pkt.rbuf = false ∨ s.canTake n c = false → exec (.hostDmaFailure n (some c)) s = .next (stop s))
      ∧ (c.pkt.rbuf = true → s.canTake n c = true → exec (.hostDmaFailure n (some c)) s =
        .next (stop (s.takeFrom n { c with pkt := { c.pkt with flags := c.pkt.flags ||| 0x10 } }))))
    ∧ ((s.ring n).running = false → exec (.hostDmaFailure n none) s = .next s ∧ exec (.hostDmaFailure n (some c)) s = .next s)

/-- The boot script: it starts at its first packet, or ends at once with the state of R65; its packets are carried out one by one; a
route that names a running EVT ring posts a held BOOT_SCRIPT_DONE (02 R48, R65). -/
def Obligations.BootScript : Prop :=
  ∀ (i n : Nat) (c : Cmd) (e : Evt) (v : Word) (s : State),
    let b := s.boot
    let fresh := s.host.ready = true ∧ b.romOnly = false ∧ b.scriptDone = false ∧ b.scriptIdx = none
    let t : State := { s with host := { s.host with evtEn := v.getLsbD 8, evtRing := v.extractLsb' 0 6 } }
    (fresh → b.script.valid = true → b.script.hostSkip = false ∨ s.host.linkUp = false →
      (b.script.packets ≠ [] → exec .bootScriptStart s = .next { s with boot := { b with scriptIdx := some 0, scriptWait := false } })
      ∧ (b.script.packets = [] → exec .bootScriptStart s = .next (s.endScript 2)))
    ∧ (fresh → b.script.valid = false → exec .bootScriptStart s = .next (s.endScript 0))
    ∧ (fresh → b.script.valid = true → b.script.hostSkip = true → s.host.linkUp = true → exec .bootScriptStart s = .next (s.endScript 1))
    ∧ (¬ fresh → exec .bootScriptStart s = .next s)
    ∧ (b.scriptWait = false → s.host.ready = true → b.scriptIdx = some i → b.script.packets[i]? = some c →
      let u : State := { s with boot := { b with scriptWait := true } }
      (∀ op, opOf c.opcode = some op → exec .bootScriptPacket s = .next (State.carry op { c.pkt with src := .script } u))
      ∧ (opOf c.opcode = none → exec .bootScriptPacket s = .next (u.reply { c.pkt with src := .script } stBadOpcode 0 [])))
    ∧ (b.scriptWait = true ∨ s.host.ready = false ∨ b.scriptIdx = none ∨ (b.scriptIdx = some i ∧ b.script.packets[i]? = none) →
      exec .bootScriptPacket s = .next s)
    ∧ exec (.glbEvtRouteWrite v) s = .next t.flushHeld
    ∧ (t.host.heldBootDone = none ∨ t.evtTarget = none → t.flushHeld = t)
    ∧ (t.host.heldBootDone = some e → t.evtTarget = some n →
      let u := t.flushOwed n
      let w : State := { u with host := { u.host with heldBootDone := none } }
      ((t.ring n).running = false → t.flushHeld = t)
      ∧ ((t.ring n).running = true → (w.ring n).room 2 = true → t.flushHeld = w.writeEvent n e)
      ∧ ((t.ring n).running = true → (w.ring n).room 2 = false → t.flushHeld = w.discardEvent n e))

/-! ## Command packets (02 R60): the effect of each, for a packet that passes the common checks -/

/-- NOP answers OK; GET_IDENTITY, GET_STATUS, TWIN_HEALTH and POWER_STATUS answer what they read; none changes anything but the
completion it posts (02 R60; 09 R279; 13 R387). -/
def Obligations.QueriesAnswer : Prop :=
  ∀ (p : Pkt) (s : State),
    (s.Takes opNop p → exec (.nop p) s = .next (s.finish p []))
    ∧ (s.Takes opGetIdentity p → exec (.getIdentity p) s = .next (s.finish p
        [s.fuse.id0, s.fuse.id1, s.fuse.id2, BitVec.ofNat 32 s.glbId3,
         BitVec.ofNat 32 (s.fuse.digit.toNat + 256 * s.fuse.letter.toNat + 65536 * s.fuse.code.toNat), s.boot.version, 0, 0]))
    ∧ (s.Takes opGetStatus p → exec (.getStatus p) s = .next (s.finish p (leWords 2 s.k ++ [BitVec.ofNat 32 s.rstCause,
        BitVec.ofNat 32 (s.boot.scriptState + 65536 * s.boot.scriptFail.toNat),
        BitVec.ofNat 32 (s.boot.scriptFailStatus.toNat + 65536 * s.cmds.length),
        BitVec.ofNat 32 s.faultCount] ++ List.replicate 26 0 ++ State.packHalves s.spw.tags)))
    ∧ (s.Takes opTwinHealth p → exec (.twinHealth p) s = .next (s.finish p s.twinWords))
    ∧ (s.Takes opPowerStatus p → exec (.powerStatus p) s = .next (s.finish p s.powerWords))

/-- RESET: a part reset is remembered until its completion is written, cold wins over warm; a block reset acts at once on a block that is
free, and aborts what was pending for it; a block in use, or a reset from upstream that is not enabled, is denied (14 R388, R397; 02
R61). BLOCK_QUIESCE of a block that is free is accepted, and completes once the block is quiet. -/
def Obligations.ResetCommands : Prop :=
  ∀ (p : Pkt) (n : Nat) (b : State.Block) (s : State),
    let barred : Prop := p.src = .upstream ∧ s.rst.upstreamEn = false
    let reach := p.fld 0 0 2
    let remember (x : Reach × Nat) : State := { s with rst := { s.rst with pendingReset := some x } }
    (s.Takes opReset p → reach ≠ 2 →
      (barred → exec (.reset p) s = .next (s.reply p stDenied 0 []))
      ∧ (¬ barred → reach = 3 ∨ (reach = 0 ∧ p.src = .upstream) → exec (.reset p) s = .next (s.reply p stBadParam 0 []))
      ∧ (¬ barred → reach = 1 ∨ (reach = 0 ∧ p.src ≠ .upstream) →
        let asked := (if reach = 0 then Reach.cold else Reach.warm, if p.src = .upstream then 6 else 7)
        ((∀ c, s.rst.pendingReset ≠ some (.cold, c)) → exec (.reset p) s = .next ((remember asked).finish p []))
        ∧ (∀ c, s.rst.pendingReset = some (.cold, c) → exec (.reset p) s = .next ((remember (.cold, c)).finish p []))))
    ∧ (s.Takes opReset p → reach = 2 → State.blockOf (p.fld 0 8 8) = none →
      (barred → exec (.reset p) s = .next (s.reply p stDenied 0 []))
      ∧ (¬ barred → exec (.reset p) s = .next (s.reply p stBadParam 0 [])))
    ∧ (s.Takes opReset p → reach = 2 → State.blockOf (p.fld 0 8 8) = some b →
      (s.fusedOff b = true → exec (.reset p) s = .next (s.reply p stBadTarget 0 []))
      ∧ (s.fusedOff b = false → barred ∨ s.blockFree b = false → exec (.reset p) s = .next (s.reply p stDenied 0 []))
      ∧ (s.fusedOff b = false → ¬ barred → s.blockFree b = true →
        exec (.reset p) s = .next ((({ s with rst := { s.rst with
          blkNum := BitVec.ofNat 8 (p.fld 0 8 8), blkCount := satInc s.rst.blkCount } }.blockClear b).finish p []).abortPending
            (p.fld 0 8 8))))
    ∧ (s.Takes opBlockQuiesce p → State.blockOf (p.fld 0 0 8) = some b →
      (s.fusedOff b = true → exec (.blockQuiesce p) s = .next (s.reply p stBadTarget 0 []))
      ∧ (s.fusedOff b = false → s.blockFree b = false → exec (.blockQuiesce p) s = .next (s.reply p stDenied 0 []))
      ∧ (s.fusedOff b = false → s.blockFree b = true →
        exec (.blockQuiesce p) s = .next (({ s.quiesceBlock b with rst := { (s.quiesceBlock b).rst with
          quiesce := (s.quiesceBlock b).rst.quiesce ++ [{ block := p.fld 0 0 8, pkt := p }] } } : State).reply p stAccepted 0 [])))
    ∧ (s.Takes opBlockQuiesce p → State.blockOf (p.fld 0 0 8) = none → exec (.blockQuiesce p) s = .next (s.reply p stBadParam 0 []))
    ∧ (State.blockOf n = some b → s.blockQuiet b = true →
        exec (.quiesceDone n) s = .next ((s.rst.quiesce.filter fun q => q.block == n).foldl (fun t q => t.finish q.pkt [])
          { s with rst := { s.rst with quiesce := s.rst.quiesce.filter fun q => q.block != n } }))
    ∧ (State.blockOf n = none ∨ (State.blockOf n = some b ∧ s.blockQuiet b = false) → exec (.quiesceDone n) s = .next s)

/-- The image update: BEGIN erases the slot that does not run and answers when it is erased; WRITE takes the bytes in order; COMMIT takes an
authentic image of the length begun, and answers with the new sequence number once the header is written; a word out of range, a
command out of its turn and one while a header is being written are refused (14 R399, R400). -/
def Obligations.ImageUpdates : Prop :=
  ∀ (p q : Pkt) (u : Update) (s : State),
    let old := s.boot.update
    (s.Takes opImageUpdateBegin p → p.w 0 % 4 = 0 → p.w 0 ≤ 0x7FF000 →
      ((∀ x, old = some x → x.commit = none) →
        exec (.imageUpdateBegin p) s = .next ({ s with boot := { s.boot with
          slots := updAt s.boot.slots s.otherSlot fun _ => {}
          update := some { length := p.w 0, version := BitVec.ofNat 32 (p.w 1), beginPkts := (match old with | some x => x.beginPkts | none => [])
                                                                                              ++ [p] } } }.emit
            (.flashErase s.otherSlot)))
      ∧ (old = some u → u.commit ≠ none → exec (.imageUpdateBegin p) s = .next (s.reply p stBusy 0 [])))
    ∧ (s.Takes opImageUpdateBegin p → p.w 0 % 4 ≠ 0 ∨ 0x7FF000 < p.w 0 →
      exec (.imageUpdateBegin p) s = .next (s.reply p stBadParam 0 []))
    ∧ (old = some u → u.erasing = true →
      exec .imageEraseDone s = .next (u.beginPkts.foldl (fun t x => t.finish x [])
        { s with boot := { s.boot with update := some { u with erasing := false, beginPkts := [] } } }))
    ∧ (old = none ∨ (old = some u ∧ u.erasing = false) → exec .imageEraseDone s = .next s)
    ∧ (s.Takes opImageUpdateWrite p → old = some u → u.erasing = false →
      (p.w 0 ≠ u.written → exec (.imageUpdateWrite p) s = .next (s.reply p stBadParam 0 []))
      ∧ (p.w 0 = u.written → p.w 1 % 4 ≠ 0 ∨ 4072 < p.w 1 ∨ u.length < u.written + p.w 1 →
        exec (.imageUpdateWrite p) s = .next (s.reply p stBadParam 1 []))
      ∧ (p.w 0 = u.written → p.w 1 % 4 = 0 → p.w 1 ≤ 4072 → u.written + p.w 1 ≤ u.length →
        let ws := (p.words.drop 2).take (p.w 1 / 4)
        exec (.imageUpdateWrite p) s = .next ((({ s with boot := { s.boot with
          update := some { u with written := u.written + p.w 1, data := u.data ++ ws } } }).emit
            (.flashWrite s.otherSlot (0x1000 + p.w 0) ws)).finish p [])))
    ∧ (s.Takes opImageUpdateCommit p → old = some u → u.erasing = false → u.written = u.length →
      (u.commit ≠ none → exec (.imageUpdateCommit p) s = .next (s.reply p stBusy 0 []))
      ∧ (u.commit = none → Config.authentic u.data (p.words.take 16) = true →
        exec (.imageUpdateCommit p) s = .next
          ({ s with boot := { s.boot with update := some { u with commit := some p } } }.reply p stAccepted 0 []))
      ∧ (u.commit = none → Config.authentic u.data (p.words.take 16) = false →
        exec (.imageUpdateCommit p) s = .next (s.reply p stBadParam noWord [])))
    ∧ (s.Takes opImageUpdateCommit p → old = some u → u.erasing = true ∨ u.written ≠ u.length →
      exec (.imageUpdateCommit p) s = .next (s.reply p stNotReady 0 []))
    ∧ (s.Takes opImageUpdateWrite p → old = none ∨ (old = some u ∧ u.erasing = true) →
      exec (.imageUpdateWrite p) s = .next (s.reply p stNotReady 0 []))
    ∧ (s.Takes opImageUpdateCommit p → old = none → exec (.imageUpdateCommit p) s = .next (s.reply p stNotReady 0 []))
    ∧ (old = some u → u.commit = some q →
      exec .imageCommitDone s = .next (({ s with
        out := .flashHeader s.otherSlot (s.boot.seq + 1) u.version :: s.out
        boot := { s.boot with
          update := none
          slots := updAt s.boot.slots s.otherSlot fun _ =>
            { headerValid := true, authentic := true, seq := s.boot.seq + 1, length := u.length, version := u.version } } }).finish q
              [s.boot.seq + 1]))
    ∧ (old = none ∨ (old = some u ∧ u.commit = none) → exec .imageCommitDone s = .next s)

/-- The axis state commands: AXIS_CONFIGURE of a DISABLED axis sets up its record and makes it READY; ENABLE takes a READY
axis to ENABLED; DISABLE takes a READY axis, or with immediate stop any axis not DISABLED, to DISABLED; a DISABLED axis stays. Other
states are denied (03 R97-R99). -/
def Obligations.AxisStates : Prop :=
  ∀ (p : Pkt) (s : State),
    let i := p.unit
    let a := s.axis i
    let port := field (p.w 1) 0 4
    let node := field (p.w 1) 0 10
    let there := (field (p.w 1) 31 1 = 1 ∧ field ((s.lport port).cfg.getD 0 0).toNat 0 2 ≠ 0)
      ∨ (field (p.w 1) 31 1 = 0 ∧ (s.node node).used = true)
    (s.Takes opAxisConfigure p → (field (p.w 1) 31 1 = 1 ∧ s.nLocal ≤ port) ∨ (field (p.w 1) 31 1 = 0 ∧ s.nNodes ≤ node) →
      exec (.axisConfigure p) s = .next (s.reply p stBadTarget 0 []))
    ∧ (s.Takes opAxisConfigure p → (field (p.w 1) 31 1 = 1 → port < s.nLocal) → (field (p.w 1) 31 1 = 0 → node < s.nNodes) →
      (a.state ≠ .disabled → exec (.axisConfigure p) s = .next (s.reply p stDenied 0 []))
      ∧ (a.state = .disabled → ¬ there → exec (.axisConfigure p) s = .next (s.reply p stNotReady 0 []))
      ∧ (∀ w, a.state = .disabled → there → s.configFault p = some w →
        exec (.axisConfigure p) s = .next (s.reply p stBadParam (BitVec.ofNat 16 w) []))
      ∧ (a.state = .disabled → there → s.configFault p = none →
        exec (.axisConfigure p) s = .next (((s.modAxis i fun a => {
          setA := a.setA, setB := a.setB, hdr := s.configHdr p a.hdr, prof := State.configProf a.prof (p.w 6) }).setAState i .ready 0x0100).finish
            p [])))
    ∧ (s.Takes opAxisEnable p →
      (a.state = .ready → exec (.axisEnable p) s
        = .next (((s.cmdState i .enabled 0x0101).modAxis i fun a => { a with hallPending := true }).finish p []))
      ∧ (a.state ≠ .ready → exec (.axisEnable p) s = .next (s.reply p stDenied 0 [])))
    ∧ (s.Takes opAxisDisable p →
      (a.state = .disabled → exec (.axisDisable p) s = .next (s.finish p []))
      ∧ (a.state = .ready → exec (.axisDisable p) s = .next ((s.cmdState i .disabled 0x0102).finish p []))
      ∧ (p.fld 0 0 1 = 0 → a.state ≠ .disabled → a.state ≠ .ready →
        exec (.axisDisable p) s = .next ((((s.stopSteps i).endMotion i).cmdState i .disabled 0x0102).finish p []))
      ∧ (p.fld 0 0 1 = 1 → a.state = .enabled →
        exec (.axisDisable p) s = .next (((((s.stopSteps i).startRamp i a.prof.dec false).modAxis i fun a => { a with
          stopToDisabled := true, stopCycles := 0, still := 0, action := none }).cmdState i .stopping 0x0102).finish p []))
      ∧ (p.fld 0 0 1 = 1 → a.state = .stopping ∨ a.state = .fault → exec (.axisDisable p) s = .next (s.reply p stDenied 0 [])))
    ∧ (s.Takes opAxisClearFault p →
      (a.state ≠ .fault ∨ s.conditionPresent i = true ∨ (p.fld 0 0 1 = 1 ∧ a.action ≠ some 3) → exec (.axisClearFault p) s = .next (s.reply p stDenied 0 []))
      ∧ (a.state = .fault → s.conditionPresent i = false → p.fld 0 0 1 = 0 →
        exec (.axisClearFault p) s = .next (((s.modAxis i fun a => { a with
          live6 := 0
          cnt := { a.cnt with causes := 0, first := 0, frozen := false, freezeLeft := none } }).cmdState i .ready 0x0103).finish p []))
      ∧ (a.state = .fault → s.conditionPresent i = false → p.fld 0 0 1 = 1 → a.action = some 3 →
        exec (.axisClearFault p) s = .next (((s.modAxis i fun a => { a with
          live6 := 0
          cnt := { a.cnt with causes := 0, first := 0, frozen := false, freezeLeft := none }
          prof := { a.prof with state := .idle, x := a.coord a.holdPos * oneCount, v := 0, a := 0 }
          use := { a.use with pRef := a.holdPos, pFrac := 0, vRef := 0, aRef := 0 } }).cmdState i .enabled 0x0103).finish p [])))

/-- Parameter sets: a write to the set not in force is stored at once; one to the set in force waits for D_X, and is denied while the axis
runs; data a parameter cannot take is refused by its word; a switch is accepted for a later cycle and marks every axis named, and at
that cycle the sets change together (03 R102-R106). -/
def Obligations.ParameterSets : Prop :=
  ∀ (p : Pkt) (s : State),
    let a := s.axis p.unit
    let inForce : Prop := (p.fld 0 0 1 == 1) = a.hdr.activeSet
    let axes := State.maskAxes p
    (s.Takes opParamsetWrite p → a.hdr.switchPending = true ∨ (inForce ∧ a.state ≠ .disabled ∧ a.state ≠ .ready) →
      exec (.paramsetWrite p) s = .next (s.reply p stDenied 0 []))
    ∧ (s.Takes opParamsetWrite p → a.hdr.switchPending = false → (inForce → a.state = .disabled ∨ a.state = .ready) →
      (p.w 1 % 4 ≠ 0 ∨ 0x7FC < p.w 1 + p.w 2 → exec (.paramsetWrite p) s = .next (s.reply p stBadParam 1 []))
      ∧ (p.w 1 % 4 = 0 → p.w 1 + p.w 2 ≤ 0x7FC → p.w 2 = 0 → exec (.paramsetWrite p) s = .next (s.reply p stBadParam 2 []))
      ∧ (p.w 1 % 4 = 0 → 0 < p.w 2 → p.w 1 + p.w 2 ≤ 0x7FC →
        (∀ i, badData (p.w 1) 3 (p.words.drop 3) = some i → exec (.paramsetWrite p) s = .next (s.reply p stBadParam (BitVec.ofNat 16 i) []))
        ∧ (badData (p.w 1) 3 (p.words.drop 3) = none →
          (¬ inForce → exec (.paramsetWrite p) s = .next ((s.putSet p).finish p []))
          ∧ (inForce → exec (.paramsetWrite p) s = .next (s.enqueueDx 0x0104 p (s.dxDue {}))))))
    ∧ (s.Takes opParamsetSwitchAt p → (∃ j ∈ axes, s.nAxes ≤ j) → exec (.paramsetSwitchAt p) s = .next (s.reply p stBadTarget 0 []))
    ∧ (s.Takes opParamsetSwitchAt p → (∀ j ∈ axes, j < s.nAxes) → (∃ j ∈ axes, (s.axis j).hdr.switchPending = true) →
      exec (.paramsetSwitchAt p) s = .next (s.reply p stDenied 0 []))
    ∧ (s.Takes opParamsetSwitchAt p → (∀ j ∈ axes, j < s.nAxes ∧ (s.axis j).hdr.switchPending = false) →
      (axes = [] → exec (.paramsetSwitchAt p) s = .next (s.reply p stBadParam 4 []))
      ∧ (axes ≠ [] → p.w64 0 < s.k + 2 → exec (.paramsetSwitchAt p) s = .next (s.reply p stLate 0 []))
      ∧ (axes ≠ [] → s.k + 2 ≤ p.w64 0 → 256 ≤ s.cmds.length → exec (.paramsetSwitchAt p) s = .next (s.reply p stBusy 0 []))
      ∧ (axes ≠ [] → s.k + 2 ≤ p.w64 0 → s.cmds.length < 256 →
        exec (.paramsetSwitchAt p) s = .next (((axes.foldl (fun t j => t.modAxis j fun a => { a with hdr := { a.hdr with
          switchPending := true, switchTo := p.fld 2 0 1 == 1, switchCycle := BitVec.ofNat 64 (p.w64 0) } }) s).enqueueCmd 0x0105 p
            (p.w64 0)).reply p stAccepted 0 [])))
    ∧ exec .paramsetSwitch s = .next { s with
        axes := s.axes.map fun a =>
          if a.hdr.switchPending && decide (a.hdr.switchCycle.toNat ≤ s.k) then
            { a with
              hdr := { a.hdr with activeSet := a.hdr.switchTo, switchPending := false }
              loop := { a.loop with bq := a.loop.bq.map fun b => { b with ovr := false } } }
          else a }

/-- MOVE of an ENABLED axis with legal values waits for D_X, or with a start cycle is stored until that cycle; STOP waits for D_X; an axis
that takes no motion denies both, and a value out of range is refused by its word (10 R281-R285). -/
def Obligations.MotionCommands : Prop :=
  ∀ (p : Pkt) (s : State),
    let a := s.axis p.unit
    (s.Takes opMove p →
      (a.state ≠ .enabled ∨ a.prof.state = .gear ∨ a.prof.state = .cam ∨ a.prof.state = .homing ∨ a.prof.state = .ramp →
        exec (.move p) s = .next (s.reply p stDenied 0 []))
      ∧ (a.state = .enabled → a.prof.state = .idle ∨ a.prof.state = .move ∨ a.prof.state = .velocity →
        (∀ i, State.moveFault a (State.movePar p) = some i → exec (.move p) s = .next (s.reply p stBadParam (BitVec.ofNat 16 i) []))
        ∧ (State.moveFault a (State.movePar p) = none → p.fld 0 16 1 = 0 →
          exec (.move p) s = .next (s.enqueueDx 0x0400 p (s.dxDue {})))
        ∧ (State.moveFault a (State.movePar p) = none → p.fld 0 16 1 = 1 → s.extend (BitVec.ofNat 32 (p.w 1)) < s.k + 2 →
          exec (.move p) s = .next (s.reply p stLate 0 []))
        ∧ (State.moveFault a (State.movePar p) = none → p.fld 0 16 1 = 1 → s.k + 2 ≤ s.extend (BitVec.ofNat 32 (p.w 1)) →
          exec (.move p) s = .next ((s.modAxis p.unit fun a => { a with prof := { a.prof with
            pendMove := some (s.extend (BitVec.ofNat 32 (p.w 1)), State.movePar p) } }).finish p []))))
    ∧ (s.Takes opStop p →
      (a.state ≠ .enabled → exec (.stop p) s = .next (s.reply p stDenied 0 []))
      ∧ (a.state = .enabled → p.fld 0 0 2 = 3 → exec (.stop p) s = .next (s.reply p stBadParam 0 []))
      ∧ (a.state = .enabled → p.fld 0 0 2 = 1 → p.w 1 = 0 → exec (.stop p) s = .next (s.reply p stBadParam 1 []))
      ∧ (a.state = .enabled → p.fld 0 0 2 ≠ 3 → (p.fld 0 0 2 = 1 → p.w 1 ≠ 0) →
        exec (.stop p) s = .next (s.enqueueDx 0x0401 p (s.dxDue {}))))

/-- HOME, COMPARE_SET, GEAR_SET and REGISTRATION_BIND: a homing search, a compare and a gearing without a start cycle wait for D_X; a home
binding, a gearing with a start cycle and a registration are stored at once; a unit that is not there, an axis that cannot take the
command, a value out of range and a start too near are refused (10 R287-R299). -/
def Obligations.MotionSettings : Prop :=
  ∀ (p : Pkt) (s : State),
    let a := s.axis p.unit
    (s.Takes opHome p → p.fld 0 8 1 = 0 → State.takesMove a = false → exec (.home p) s = .next (s.reply p stDenied 0 []))
    ∧ (s.Takes opHome p → p.fld 0 8 1 = 1 ∨ State.takesMove a = true →
      (∀ i, s.homeFault p = some i → exec (.home p) s = .next (s.reply p stBadParam (BitVec.ofNat 16 i) []))
      ∧ (s.homeFault p = none → p.fld 0 8 1 = 0 → exec (.home p) s = .next (s.enqueueDx 0x0402 p (s.dxDue {})))
      ∧ (s.homeFault p = none → p.fld 0 8 1 = 1 → exec (.home p) s = .next ((s.modAxis p.unit fun a => { a with
        prof := { a.prof with
          limP := { a.prof.limP with src := BitVec.ofNat 32 (p.w 1) }
          limN := { a.prof.limN with src := BitVec.ofNat 32 (p.w 2) }
          home := { a.prof.home with src := BitVec.ofNat 32 (p.w 3) }
          debounce := p.fld 7 0 12 } }).finish p [])))
    ∧ (s.Takes opCompareSet p →
      let pin : Prop := p.fld 0 9 1 = 1
      let slot : Prop := p.fld 0 10 1 = 1
      ((pin ∧ s.nLocal ≤ p.fld 1 0 4) ∨ (slot ∧ s.nNodes ≤ p.fld 1 16 10) → exec (.compareSet p) s = .next (s.reply p stBadTarget 0 []))
      ∧ ((pin → p.fld 1 0 4 < s.nLocal) → (slot → p.fld 1 16 10 < s.nNodes) →
        ((pin ∧ p.fld 6 16 16 = 0) ∨ (slot ∧ p.fld 6 0 12 % 8 ≠ 0) → exec (.compareSet p) s = .next (s.reply p stBadParam 6 []))
        ∧ ((pin → p.fld 6 16 16 ≠ 0) → (slot → p.fld 6 0 12 % 8 = 0) →
          exec (.compareSet p) s = .next (s.enqueueDx 0x0403 p (s.dxDue {})))))
    ∧ (s.Takes opGearSet p →
      let mode := p.fld 0 0 2
      let master := p.fld 2 0 8
      let free : Prop := a.state = .enabled ∧ a.prof.state ≠ .homing ∧ a.prof.state ≠ .ramp
      let fits : Prop := master ≠ p.unit ∧ s.slotOf master ≠ none ∧ s.chainReaches p.unit 256 master = false
      (mode ≠ 0 → s.nAxes ≤ master → exec (.gearSet p) s = .next (s.reply p stBadTarget 0 []))
      ∧ (mode = 0 ∨ master < s.nAxes →
        (¬ free → exec (.gearSet p) s = .next (s.reply p stDenied 0 []))
        ∧ (free → mode = 3 → exec (.gearSet p) s = .next (s.reply p stBadParam 0 []))
        ∧ (free → mode = 1 ∨ mode = 2 → ¬ fits → exec (.gearSet p) s = .next (s.reply p stBadParam 2 []))
        ∧ (free → mode = 1 ∨ mode = 2 → fits → p.w 4 = 0 → exec (.gearSet p) s = .next (s.reply p stBadParam 4 []))
        ∧ (free → mode = 0 ∨ ((mode = 1 ∨ mode = 2) ∧ fits ∧ p.w 4 ≠ 0) →
          (p.fld 0 16 1 = 0 → exec (.gearSet p) s = .next (s.enqueueDx 0x0404 p (s.dxDue {})))
          ∧ (p.fld 0 16 1 = 1 → s.extend (BitVec.ofNat 32 (p.w 1)) < s.k + 2 → exec (.gearSet p) s = .next (s.reply p stLate 0 []))
          ∧ (p.fld 0 16 1 = 1 → s.k + 2 ≤ s.extend (BitVec.ofNat 32 (p.w 1)) →
            exec (.gearSet p) s = .next ((s.modAxis p.unit fun a => { a with prof := { a.prof with
              pendGear := some (s.extend (BitVec.ofNat 32 (p.w 1)), mode, State.gearPar p, p.w 8) } }).finish p [])))))
    ∧ (s.Takes opRegistrationBind p → exec (.registrationBind p) s = .next ((s.modAxis p.unit fun a => { a with prof := { a.prof with
        bindInput := p.fld 0 0 4, bindEdge := p.fld 0 4 2, w0 := signed 64 (p.w64 2), wLen := p.w 4, repeatLen := p.w 5 } }).finish p []))

/-- The network commands: discovery starts a walk of a port that carries no slots; the chunks of a schedule are kept until the last, when
the whole image is checked and distributed or refused; an activation is accepted for a generation that is distributed, and takes the
place of one before; a mailbox message leaves for its node; join settings apply from the next cycle; what a command finds not ready,
busy, late or out of range it refuses (05 R144-R167). -/
def Obligations.NetworkCommands : Prop :=
  ∀ (p : Pkt) (g : GenImage) (s : State),
    (s.Takes opNetDiscover p →
      let topo := p.fld 0 4 2
      let second := p.fld 0 16 6
      let noRing : Prop := topo = 1 ∧ (s.nPorts ≤ second ∨ second = p.unit)
      let inUse : Prop := (s.mport p.unit).state = .walking ∨ s.carriesSlots p.unit = true
        ∨ (topo = 1 ∧ ¬ noRing ∧ (s.carriesSlots second = true ∨ (s.mport second).state = .walking))
      let noPartner : Prop := ∀ x, s.twn.peer = some x → x.linkPorts.contains p.unit = false
      (inUse → exec (.netDiscover p) s = .next (s.reply p stDenied 0 []))
      ∧ (¬ inUse → topo = 2 → noPartner → exec (.netDiscover p) s = .next (s.reply p stNotReady 0 []))
      ∧ (¬ inUse → (topo = 2 → ¬ noPartner) → p.fld 0 0 2 = 0 ∨ topo = 3 ∨ noRing →
        exec (.netDiscover p) s = .next (s.reply p stBadParam 0 []))
      ∧ (¬ inUse → (topo = 2 → ¬ noPartner) → p.fld 0 0 2 ≠ 0 → topo ≠ 3 → ¬ noRing →
        exec (.netDiscover p) s = .next ((s.modMPort p.unit fun x => { x with
          state := .walking
          walk := some { pkt := p, gen := p.fld 0 0 2, topo := topo, ringPort := second, expect := p.fld 1 0 6, before := x.state
                         forPartner := (match p.src with | .twin _ => true | _ => false) && topo == 2 } }).reply p stAccepted 0 [])))
    ∧ (s.Takes opNetScheduleLoad p →
      let gen := p.fld 0 0 16
      let first : Prop := p.fld 0 16 1 = 1
      let wrong : Prop := gen = 0 ∨ (∃ h, s.net.active = some h ∧ h.gen = gen) ∨ (¬ first ∧ ∃ x, s.net.arriving = some x ∧ x.1 ≠ gen)
      let size := if s.full then 1048576 else 524288
      (¬ first → s.net.arriving = none → exec (.netScheduleLoad p) s = .next (s.reply p stNotReady 0 []))
      ∧ (first ∨ s.net.arriving ≠ none →
        (wrong → exec (.netScheduleLoad p) s = .next (s.reply p stBadParam 0 []))
        ∧ (¬ wrong → size < p.w 1 + p.w 2 → exec (.netScheduleLoad p) s = .next (s.reply p stBadParam 1 []))
        ∧ (¬ wrong → p.w 1 + p.w 2 ≤ size → s.net.joinGen = true ∨ s.activationNamed = true →
          exec (.netScheduleLoad p) s = .next (s.reply p stBusy 0 []))
        ∧ (¬ wrong → p.w 1 + p.w 2 ≤ size → s.net.joinGen = false → s.activationNamed = false →
          let begun : State := if first then { s.dropRecords with net := { s.dropRecords.net with
            pending := none, joinGen := false, pendState := 1 } } else s
          let chunks := (if first then [] else match s.net.arriving with | some x => x.2 | none => []) ++ [(p.w 1, wordsBytes (p.words.drop 3))]
          let read := Config.decodeImage (chunks.foldl (fun b c => State.putBytes b c.1 c.2) [])
          (p.fld 0 17 1 = 0 → exec (.netScheduleLoad p) s = .next ({ begun with net := { begun.net with
            arriving := some (gen, chunks), pendState := 1 } }.finish p []))
          ∧ (∀ h, p.fld 0 17 1 = 1 → read = some h → begun.imageFits { h with gen := gen } = true →
            exec (.netScheduleLoad p) s = .next ((begun.loadPassed { h with gen := gen }).finish p []))
          ∧ (p.fld 0 17 1 = 1 → (∀ h, read = some h → begun.imageFits { h with gen := gen } = false) →
            exec (.netScheduleLoad p) s = .next (({ begun with net := { begun.net with arriving := none, pendState := 0 } } : State).reply p
              stBadParam noWord [])))))
    ∧ (s.Takes opNetScheduleActivateAt p → s.namedPending (p.fld 2 0 16) = none →
      exec (.netScheduleActivateAt p) s = .next (s.reply p stNotReady 0 []))
    ∧ (s.Takes opNetScheduleActivateAt p → s.namedPending (p.fld 2 0 16) = some g →
      let barred : Prop := s.changesTime g = true ∧ (s.allDark = false ∨ s.othersPending = true)
      let early : Prop := s.changesTime g = true ∧ s.changeInstant (p.w64 0) < g.epoch * 1000000000
      let old := s.cmds.find? fun x => x.opcode == 0x0202
      (barred → exec (.netScheduleActivateAt p) s = .next (s.reply p stDenied 0 []))
      ∧ (¬ barred → s.net.pendState ≠ 3 → exec (.netScheduleActivateAt p) s = .next (s.reply p stNotReady 0 []))
      ∧ (¬ barred → s.net.pendState = 3 →
        (early → exec (.netScheduleActivateAt p) s = .next (s.reply p stBadParam noWord []))
        ∧ (¬ early → p.w64 0 < s.k + 2 → exec (.netScheduleActivateAt p) s = .next (s.reply p stLate 0 []))
        ∧ (¬ early → s.k + 2 ≤ p.w64 0 → 256 ≤ s.cmds.length → old = none →
          exec (.netScheduleActivateAt p) s = .next (s.reply p stBusy 0 []))
        ∧ (¬ early → s.k + 2 ≤ p.w64 0 → s.cmds.length < 256 ∨ old ≠ none →
          let replaced : State := match old with
            | some x => ({ s with cmds := s.cmds.filter fun y => y.opcode != 0x0202 } : State).reply x.pkt stDenied 0 []
            | none => s
          exec (.netScheduleActivateAt p) s = .next ((({ replaced with net := { replaced.net with
            actCycle := BitVec.ofNat 64 (p.w64 0) } } : State).enqueueCmd 0x0202 p (p.w64 0)).reply p stAccepted 0 []))))
    ∧ (s.Takes opNetNodeMailbox p → (s.node p.unit).used = false ∨ (s.node p.unit).lost = true →
      exec (.netNodeMailbox p) s = .next (s.reply p stNotReady 0 []))
    ∧ (s.Takes opNetNodeMailbox p → (s.node p.unit).used = true → (s.node p.unit).lost = false →
      (p.fld 0 0 16 < 0x0100 → exec (.netNodeMailbox p) s = .next (s.reply p stBadParam 0 []))
      ∧ (0x0100 ≤ p.fld 0 0 16 → p.w 1 < 1 ∨ 10000 < p.w 1 → exec (.netNodeMailbox p) s = .next (s.reply p stBadParam 1 []))
      ∧ (0x0100 ≤ p.fld 0 0 16 → 1 ≤ p.w 1 → p.w 1 ≤ 10000 → 4060 < p.w 2 → exec (.netNodeMailbox p) s = .next (s.reply p stBadParam 2 []))
      ∧ (0x0100 ≤ p.fld 0 0 16 → 1 ≤ p.w 1 → p.w 1 ≤ 10000 → p.w 2 ≤ 4060 →
        ((s.node p.unit).mailx ≠ none → exec (.netNodeMailbox p) s = .next (s.reply p stBusy 0 []))
        ∧ ((s.node p.unit).mailx = none → exec (.netNodeMailbox p) s = .next (((s.modNode p.unit fun x => { x with
          mailx := some { pkt := p, expectReply := p.fld 0 16 1 == 1, endNs := s.now + p.w 1 * 1000000 } }).sendSvc p.unit
            (BitVec.ofNat 16 (p.fld 0 0 16)) (p.words.drop 3)).reply p stAccepted 0 []))))
    ∧ (s.Takes opNetJoinConfigure p →
      (p.fld 0 8 8 = 0 ∨ p.fld 0 16 16 < 100 → exec (.netJoinConfigure p) s = .next (s.reply p stBadParam 0 []))
      ∧ (p.fld 0 8 8 ≠ 0 → 100 ≤ p.fld 0 16 16 → p.fld 1 0 11 < 16 ∨ 1024 < p.fld 1 0 11 →
        exec (.netJoinConfigure p) s = .next (s.reply p stBadParam 1 []))
      ∧ (p.fld 0 8 8 ≠ 0 → 100 ≤ p.fld 0 16 16 → 16 ≤ p.fld 1 0 11 → p.fld 1 0 11 ≤ 1024 →
        exec (.netJoinConfigure p) s = .next ((s.modMPort p.unit fun x => { x with
          cfgNext := some (s.k + 1, p.fld 0 0 1 == 1, BitVec.ofNat 8 (p.fld 0 8 8), BitVec.ofNat 16 (p.fld 0 16 16), BitVec.ofNat 11 (p.fld 1 0 11))
          }).finish p [])))

/-- The time commands: TIME_CONFIGURE stores its blocks, and with SET_TIME, while no port carries a frame and no command waits, the time of
the part and of domains that follow nothing; a domain that is LOCKED, or any while every port is DARK, is selected; a snapshot is
accepted for its instant and asked of the nodes; SNAPSHOT_READ reads entries; a value out of range, an instant too near and an id in use
are refused (06 R184-R203). -/
def Obligations.TimeCommands : Prop :=
  ∀ (p : Pkt) (s : State),
    (s.Takes opTimeConfigure p →
      let set : Prop := p.fld 1 0 1 = 1
      let role := s.net.conf.role
      let time := TCnt.ofNs ((p.w 2 + 2 ^ 32 * p.fld 3 0 16) * 1000000000 + p.w 4)
      let put (d : Domain) : Domain := if set ∧ d.state = .free then { d with cnt := time } else d
      (set → s.maySteps = false → exec (.timeConfigure p) s = .next (s.reply p stDenied 0 []))
      ∧ ((set → s.maySteps = true) →
        (p.w 0 < 1000 ∨ 200000 < p.w 0 → exec (.timeConfigure p) s = .next (s.reply p stBadParam 0 []))
        ∧ (1000 ≤ p.w 0 → p.w 0 ≤ 200000 → set → 1000000000 ≤ p.w 4 → exec (.timeConfigure p) s = .next (s.reply p stBadParam 4 []))
        ∧ (1000 ≤ p.w 0 → p.w 0 ≤ 200000 → (set → p.w 4 < 1000000000) →
          (∀ i, State.domFault role .p p 6 = some i → exec (.timeConfigure p) s = .next (s.reply p stBadParam (BitVec.ofNat 16 i) []))
          ∧ (∀ i, State.domFault role .p p 6 = none → State.domFault role .s p 12 = some i →
            exec (.timeConfigure p) s = .next (s.reply p stBadParam (BitVec.ofNat 16 i) []))
          ∧ (State.domFault role .p p 6 = none → State.domFault role .s p 12 = none →
            exec (.timeConfigure p) s = .next (({ s with tmb := { s.tmb with
              slewMax := p.w 0
              served := if set then time else s.tmb.served
              domP := put (State.applyDom (State.domBlock p 6) s.tmb.domP), domS := put (State.applyDom (State.domBlock p 12) s.tmb.domS)
              uplinks := mapI (fun i u => State.uplinkBlock p (18 + 10 * i) u) s.tmb.uplinks } } : State).finish p [])))))
    ∧ (s.Takes opTimeSelectDomain p →
      let sel := p.fld 0 0 2
      let d : Dom := if sel = 0 then .p else if sel = 1 then .s
        else if s.tmb.domP.state = .locked then .p else if s.tmb.domS.state = .locked then .s else s.tmb.selected
      let t : State := { s with tmb := { s.tmb with select := BitVec.ofNat 2 sel, revert := p.fld 0 8 1 == 1 } }
      (sel < 2 → (s.domain d).state ≠ .locked → s.allDark = false → exec (.timeSelectDomain p) s = .next (s.reply p stDenied 0 []))
      ∧ (sel = 3 → exec (.timeSelectDomain p) s = .next (s.reply p stBadParam 0 []))
      ∧ (sel < 3 → (sel < 2 → (s.domain d).state = .locked ∨ s.allDark = true) →
        (s.tmb.holdover = false → exec (.timeSelectDomain p) s = .next ((t.selectDomain d 0).finish p []))
        ∧ (s.tmb.holdover = true → (s.domain d).state = .locked →
          exec (.timeSelectDomain p) s = .next ((t.selectDomain d 0).leaveHoldover.finish p []))
        ∧ (s.tmb.holdover = true → (s.domain d).state ≠ .locked →
          exec (.timeSelectDomain p) s = .next (({ t with tmb := { t.tmb with selected := d } } : State).finish p []))))
    ∧ (s.Takes opSnapshotAt p → p.fld 2 8 3 = 0 → exec (.snapshotAt p) s = .next (s.reply p stBadParam 2 []))
    ∧ (s.Takes opSnapshotAt p → p.fld 2 8 3 ≠ 0 →
      (p.w64 0 < s.cycleNs (s.k + 2) → exec (.snapshotAt p) s = .next (s.reply p stLate 0 []))
      ∧ (s.cycleNs (s.k + 2) ≤ p.w64 0 → (s.snap (p.fld 2 0 2)).state = 1 ∨ 256 ≤ s.cmds.length →
        exec (.snapshotAt p) s = .next (s.reply p stBusy 0 []))
      ∧ (s.cycleNs (s.k + 2) ≤ p.w64 0 → (s.snap (p.fld 2 0 2)).state ≠ 1 → s.cmds.length < 256 →
        exec (.snapshotAt p) s = .next (((s.enqueueCmd 0x0302 p (s.cycleFrom (p.w64 0))).snapStart (p.fld 2 0 2) (p.w64 0) (p.fld 2 8 3)
          (some p)).reply p stAccepted 0 [])))
    ∧ (s.Takes opSnapshotRead p → p.fld 1 16 16 = 0 ∨ 50 < p.fld 1 16 16 → exec (.snapshotRead p) s = .next (s.reply p stBadParam 1 []))
    ∧ (s.Takes opSnapshotRead p → 1 ≤ p.fld 1 16 16 → p.fld 1 16 16 ≤ 50 →
      let x := s.snap (p.fld 0 0 2)
      let es := (x.entries.drop (p.fld 1 0 16)).take (p.fld 1 16 16)
      exec (.snapshotRead p) s = .next (s.finish p
        (leWords 2 x.time ++ [BitVec.ofNat 32 (x.entries.length + 65536 * es.length), BitVec.ofNat 32 x.state.toNat]
          ++ es.flatMap fun e => State.bytesWords (State.entryBytes e))))

/-- The acquisition commands: settings, signals and conditions are stored while no acquisition runs; arming waits for D_X, disarming and a
software trigger act at once; ACQ_READ reads a record's bytes, and may free it; values out of range are refused by their word (12
R341-R362). -/
def Obligations.AcquisitionCommands : Prop :=
  ∀ (p : Pkt) (r : QRec) (s : State),
    let a := s.acq
    (s.Takes opAcqConfigure p → a.state ≠ .idle → a.state ≠ .done → exec (.acqConfigure p) s = .next (s.reply p stDenied 0 []))
    ∧ (s.Takes opAcqConfigure p → a.state = .idle ∨ a.state = .done →
      (p.fld 0 0 2 = 0 → settingsFault s.full p = none → exec (.acqConfigure p) s = .next (({ s with acq := { a with
        settings := some (p.words.take 16), slots := [], areaPos := 0, blocks := [], copyOff := 0 } } : State).finish p []))
      ∧ (p.fld 0 0 2 = 1 → signalsFault p = none → exec (.acqConfigure p) s = .next (({ s with acq := { a with
        signals := cellPuts (if p.fld 0 8 1 = 1 then [] else a.signals) (p.fld 1 0 12) 1 ((p.words.drop 4).take (p.w 2)) } } : State).finish p []))
      ∧ (p.fld 0 0 2 = 2 → (∀ c < 4, condFault p c = none) → exec (.acqConfigure p) s = .next (({ s with acq := { a with
        trigger := p.words.take 26, conds := List.replicate 4 {} } } : State).finish p []))
      ∧ (∀ i, (p.fld 0 0 2 = 0 ∧ settingsFault s.full p = some i) ∨ (p.fld 0 0 2 = 1 ∧ signalsFault p = some i)
          ∨ (p.fld 0 0 2 = 2 ∧ [0, 1, 2, 3].findSome? (condFault p) = some i) →
        exec (.acqConfigure p) s = .next (s.reply p stBadParam (BitVec.ofNat 16 i) []))
      ∧ (p.fld 0 0 2 = 3 → exec (.acqConfigure p) s = .next (s.reply p stBadParam 0 [])))
    ∧ (s.Takes opAcqArm p →
      (p.fld 0 0 2 = 0 → s.armFault = none → exec (.acqArm p) s = .next (s.enqueueDx 0x0501 p (s.dxDue {})))
      ∧ (∀ st d, p.fld 0 0 2 = 0 → s.armFault = some (st, d) → exec (.acqArm p) s = .next (s.reply p st d []))
      ∧ (p.fld 0 0 2 = 1 → exec (.acqArm p) s = .next (s.disarm.finish p []))
      ∧ (p.fld 0 0 2 = 2 → exec (.acqArm p) s = .next ((s.fireEvent 5 s.nowFine fun _ => true).finish p []))
      ∧ (p.fld 0 0 2 = 3 → exec (.acqArm p) s = .next (s.reply p stBadParam 0 [])))
    ∧ (s.Takes opAcqRead p → (s.acq.slots.find? fun r => r.num == p.w 0) = none →
      ((∃ x, a.cur = some x ∧ x.num = p.w 0) → exec (.acqRead p) s = .next (s.reply p stNotReady 0 []))
      ∧ ((∀ x, a.cur = some x → x.num ≠ p.w 0) → exec (.acqRead p) s = .next (s.reply p stBadParam 0 [])))
    ∧ (s.Takes opAcqRead p → (s.acq.slots.find? fun r => r.num == p.w 0) = some r →
      (p.w 1 % 8 ≠ 0 ∨ r.bytes < p.w 1 → exec (.acqRead p) s = .next (s.reply p stBadParam 1 []))
      ∧ (p.w 1 % 8 = 0 → p.w 1 ≤ r.bytes → p.w 2 % 8 ≠ 0 ∨ r.bytes < p.w 1 + p.w 2 → exec (.acqRead p) s = .next (s.reply p stBadParam 2 []))
      ∧ (p.w 1 % 8 = 0 → p.w 2 % 8 = 0 → p.w 1 + p.w 2 ≤ r.bytes → p.fld 3 0 1 = 1 → s.acq.ringOf ≠ none →
        exec (.acqRead p) s = .next (s.reply p stBadParam 3 [])))
    ∧ (s.Takes opAcqRead p → (s.acq.slots.find? fun r => r.num == p.w 0) = some r → p.w 1 % 8 = 0 → p.w 2 % 8 = 0 → p.w 1 + p.w 2 ≤ r.bytes →
      (p.fld 3 0 1 = 0 → exec (.acqRead p) s = .next (s.finish p (((wordsOf r.image).drop (p.w 1 / 4)).take (p.w 2 / 4))))
      ∧ (p.fld 3 0 1 = 1 → s.acq.ringOf = none →
        exec (.acqRead p) s = .next ((s.freeRecord r.num).finish p (((wordsOf r.image).drop (p.w 1 / 4)).take (p.w 2 / 4)))))

/-- The commands of the Eddy cores and flows: EDDY_LOAD writes a parked core's memory and, with the last chunk, checks the image whole;
FLOW_CREATE sets a flow up or deletes it; TASK_POST queues a task or holds it back for room; CORE_PARK parks and releases (07 R209,
R225, R231; 09 R253-R258). -/
def Obligations.EddyCommands : Prop :=
  ∀ (p : Pkt) (s : State),
    let x := s.core p.unit
    let f := s.flow p.unit
    (s.Takes opEddyLoad p → ((x.state = .parked ∧ x.hostPark = true) ∨ x.state = .faulted) → x.flow = none →
      (loadIsFirst p = true ∨ x.loading ≠ none) → loadMem p ≠ 3 → loadAt p + p.w 2 / 4 ≤ 16384 → p.w 2 ≠ 0 →
      (loadIsLast p = true → crc32 (loadAll p x) = BitVec.ofNat 32 (p.w (3 + p.w 2 / 4))) →
      exec (.eddyLoad p) s = .next ((s.loadChunk p.unit p).finish p []))
    ∧ (s.Takes opEddyLoad p → (x.state ≠ .parked ∧ x.state ≠ .faulted) ∨ (x.state = .parked ∧ x.hostPark = false) ∨ x.flow ≠ none →
      exec (.eddyLoad p) s = .next (s.reply p stDenied 0 []))
    ∧ (s.Takes opEddyLoad p → ((x.state = .parked ∧ x.hostPark = true) ∨ x.state = .faulted) → x.flow = none →
      (loadIsFirst p = false → x.loading = none → exec (.eddyLoad p) s = .next (s.reply p stNotReady 0 []))
      ∧ (loadIsFirst p = true ∨ x.loading ≠ none →
        (loadMem p = 3 → exec (.eddyLoad p) s = .next (s.reply p stBadParam 0 []))
        ∧ (loadMem p ≠ 3 → 16384 < loadAt p + p.w 2 / 4 → exec (.eddyLoad p) s = .next (s.reply p stBadParam 1 []))
        ∧ (loadMem p ≠ 3 → loadAt p + p.w 2 / 4 ≤ 16384 → p.w 2 = 0 → exec (.eddyLoad p) s = .next (s.reply p stBadParam 2 []))
        ∧ (loadMem p ≠ 3 → loadAt p + p.w 2 / 4 ≤ 16384 → p.w 2 ≠ 0 → loadIsLast p = true →
            crc32 (loadAll p x) ≠ BitVec.ofNat 32 (p.w (3 + p.w 2 / 4)) →
          exec (.eddyLoad p) s = .next (s.reply p stBadParam (BitVec.ofNat 16 (3 + p.w 2 / 4)) []))))
    ∧ (s.Takes opFlowCreate p → p.fld 0 8 7 = 0 →
      (f.exist = false → exec (.flowCreate p) s = .next (s.finish p []))
      ∧ (f.exist = true → f.active = true → exec (.flowCreate p) s = .next (s.reply p stDenied 0 []))
      ∧ (f.exist = true → f.active = false →
        exec (.flowCreate p) s = .next ((s.modFlow p.unit fun f => { coalesced := f.coalesced, holds := f.holds }).retryHeld.finish p [])))
    ∧ (s.Takes opFlowCreate p → 1 ≤ p.fld 0 8 7 → p.fld 0 8 7 ≤ 64 → p.fld 0 24 3 ≤ 5 → p.w 2 ≠ 0 → p.w 2 < 2 ^ s.nCores →
      200 ≤ p.w 3 → p.w 3 ≤ 100000000 → p.fld 4 16 16 < p.fld 4 0 16 → (f.exist = true → f.active = false) →
      (s.reserved - f.reserve + (flowOf p f).reserve ≤ 4096 →
        exec (.flowCreate p) s = .next ((s.modFlow p.unit fun _ => flowOf p f).retryHeld.finish p []))
      ∧ (4096 < s.reserved - f.reserve + (flowOf p f).reserve → exec (.flowCreate p) s = .next (s.reply p stCapacity 0 [])))
    ∧ (s.Takes opFlowCreate p → p.fld 0 8 7 ≠ 0 →
      (2 ^ s.nCores ≤ p.w 2 → exec (.flowCreate p) s = .next (s.reply p stBadTarget 0 []))
      ∧ (p.w 2 < 2 ^ s.nCores → f.exist = true → f.active = true → exec (.flowCreate p) s = .next (s.reply p stDenied 0 []))
      ∧ (p.w 2 < 2 ^ s.nCores → (f.exist = true → f.active = false) →
        (64 < p.fld 0 8 7 ∨ 5 < p.fld 0 24 3 → exec (.flowCreate p) s = .next (s.reply p stBadParam 0 []))
        ∧ (p.fld 0 8 7 ≤ 64 → p.fld 0 24 3 ≤ 5 →
          (p.w 2 = 0 → exec (.flowCreate p) s = .next (s.reply p stBadParam 2 []))
          ∧ (p.w 2 ≠ 0 → p.w 3 < 200 ∨ 100000000 < p.w 3 → exec (.flowCreate p) s = .next (s.reply p stBadParam 3 []))
          ∧ (p.w 2 ≠ 0 → 200 ≤ p.w 3 → p.w 3 ≤ 100000000 → p.fld 4 0 16 = 0 ∨ p.fld 4 0 16 ≤ p.fld 4 16 16 →
            exec (.flowCreate p) s = .next (s.reply p stBadParam 4 [])))))
    ∧ (s.Takes opTaskPost p →
      (f.exist = false → exec (.taskPost p) s = .next (s.reply p stNotReady 0 []))
      ∧ (f.exist = true → s.flowRoom p.unit = true →
        exec (.taskPost p) s = .next ((s.postTask p.unit (State.postArg p) (State.postTicks p)).finish p []))
      ∧ (f.exist = true → s.flowRoom p.unit = false → exec (.taskPost p) s = .next (s.hold p.unit (.other p))))
    ∧ (s.Takes opCorePark p →
      (p.fld 0 0 1 = 1 → let t := hostPark p.unit s
        exec (.corePark p) s = .next (t.finish p [BitVec.ofNat 32 (b2n ((t.core p.unit).state == .parked))]))
      ∧ (p.fld 0 0 1 = 0 → x.imageValid = false ∨ x.state = .faulted → exec (.corePark p) s = .next (s.reply p stDenied 0 []))
      ∧ (p.fld 0 0 1 = 0 → x.imageValid = true → x.state ≠ .faulted → exec (.corePark p) s = .next ((hostRelease p.unit s).finish p [])))

/-- The commands of the twin, the governor and the store: a head joins, leaves or goes on alone; a healthy pair accepts a yield; a new cap and ceiling
wait for the period's end; the store is configured, started by command, and read (09 R268; 13 R369-R385; 14 R401-R410). -/
def Obligations.PlantCommands : Prop :=
  ∀ (p : Pkt) (r : StoreRec) (s : State),
    (s.Takes opTwinConfigure p →
      let role := p.fld 0 0 2
      let base := BitVec.ofNat 16 (p.fld 1 0 16)
      let peer : PeerInfo := s.twn.peer.getD {}
      let pairing : Prop := role = 1 ∨ role = 2
      let barred : Prop := role = 3 ∧ s.peerKnown = true ∧ (s.twn.peerState = 2 ∨ s.twn.peerState = 3 ∨ s.twn.peerState = 4)
      let known : Prop := ¬ barred ∧ (pairing → s.peerKnown = true)
      let bad0 : Prop := p.fld 0 8 4 = 0 ∨ (pairing ∧ peer.side = some (role == 2))
      let bad1 : Prop := base ≠ s.net.claimBase ∨ (pairing ∧ base ≠ peer.claimBase)
      let bad2 : Prop := p.fld 2 0 16 < 100 ∨ 10000 < p.fld 2 0 16
      let other : Prop := pairing ∧ peer.code ≠ s.fuse.code
      let t : State := { s with twn := { s.twn with autoResync := p.fld 0 4 1 == 1, takeover := p.fld 0 8 4, resyncMs := p.fld 2 0 16 } }
      let u : State := { t with twn := { t.twn with sideB := role == 2 } }
      (barred → exec (.twinConfigure p) s = .next (s.reply p stDenied 0 []))
      ∧ (pairing → s.peerKnown = false → exec (.twinConfigure p) s = .next (s.reply p stNotReady 0 []))
      ∧ (known → bad0 → exec (.twinConfigure p) s = .next (s.reply p stBadParam 0 []))
      ∧ (known → ¬ bad0 → bad1 → exec (.twinConfigure p) s = .next (s.reply p stBadParam 1 []))
      ∧ (known → ¬ bad0 → ¬ bad1 → bad2 → exec (.twinConfigure p) s = .next (s.reply p stBadParam 2 []))
      ∧ (known → ¬ bad0 → ¬ bad1 → ¬ bad2 → other → exec (.twinConfigure p) s = .next (s.reply p stBadParam noWord []))
      ∧ (known → ¬ bad0 → ¬ bad1 → ¬ bad2 → ¬ other →
        (role = 0 → exec (.twinConfigure p) s = .next ((({ t.twinLinksDown with twn := { t.twinLinksDown.twn with
          phase := 0, entry := none, noDispatch := false, claims := [], promoted := false, missing := 0 } } : State).setTwin .single 0).finish p []))
        ∧ (role = 3 → exec (.twinConfigure p) s = .next ((({ t with twn := { t.twn with
          phase := 0, entry := none, promoted := false, claims := [], missing := 0 } } : State).goAlone 0).finish p []))
        ∧ (pairing → s.twn.state = .single ∨ s.twn.state = .isolated ∨ s.twn.state = .outOfStep →
          exec (.twinConfigure p) s = .next ((u.pairUp (role == 2)).finish p []))
        ∧ (pairing → s.twn.state ≠ .single → s.twn.state ≠ .isolated → s.twn.state ≠ .outOfStep →
          exec (.twinConfigure p) s = .next (u.finish p []))))
    ∧ (s.Takes opTwinYield p →
      (s.twn.state ≠ .active ∨ s.standbyHealthy = false → exec (.twinYield p) s = .next (s.reply p stDenied 0 []))
      ∧ (s.twn.state = .active → s.standbyHealthy = true → p.w64 0 < s.k + 2 → exec (.twinYield p) s = .next (s.reply p stLate 0 []))
      ∧ (s.twn.state = .active → s.standbyHealthy = true → s.k + 2 ≤ p.w64 0 → 256 ≤ s.cmds.length ∨ s.twn.yieldAt ≠ none →
        exec (.twinYield p) s = .next (s.reply p stBusy 0 []))
      ∧ (s.twn.state = .active → s.standbyHealthy = true → s.k + 2 ≤ p.w64 0 → s.cmds.length < 256 → s.twn.yieldAt = none →
        exec (.twinYield p) s = .next ((({ s with twn := { s.twn with yieldAt := some (p.w64 0) } } : State).enqueueCmd
          0x0702 p (p.w64 0)).reply p stAccepted 0 [])))
    ∧ (s.Takes opPowerBudgetSet p →
      let cap := p.fld 0 0 16
      let ceil := p.fld 0 16 16
      (50 ≤ cap → cap ≤ 400 → 600 ≤ ceil → ceil ≤ 1100 → exec (.powerBudgetSet p) s = .next (({ s with pwr := { s.pwr with
        capNext := some (BitVec.ofNat 16 cap, BitVec.ofNat 16 ceil) } } : State).finish p []))
      ∧ (cap < 50 ∨ 400 < cap ∨ ceil < 600 ∨ 1100 < ceil → exec (.powerBudgetSet p) s = .next (s.reply p stBadParam 0 [])))
    ∧ (s.Takes opStoreConfigure p →
      (p.w 4 % 0x20000 ≠ 0 → exec (.storeConfigure p) s = .next (s.reply p stBadParam 4 []))
      ∧ (p.w 4 % 0x20000 = 0 → p.fld 5 0 8 < 25 ∨ 200 < p.fld 5 0 8 → exec (.storeConfigure p) s = .next (s.reply p stBadParam 5 []))
      ∧ (p.w 4 % 0x20000 = 0 → 25 ≤ p.fld 5 0 8 → p.fld 5 0 8 ≤ 200 → s.spw.run ≠ none →
        exec (.storeConfigure p) s = .next (s.reply p stBusy 0 [])))
    ∧ (s.Takes opStoreConfigure p → p.fld 0 0 1 = 0 → p.w 4 % 0x20000 = 0 → 25 ≤ p.fld 5 0 8 → p.fld 5 0 8 ≤ 200 → s.spw.run = none →
      exec (.storeConfigure p) s = .next (({ s with spw := { s.spw with
        en := false, filt := BitVec.ofNat 4 (p.fld 0 4 4), cHold := p.w 1, vMin := p.fld 2 0 16, kDiv := p.fld 2 16 16
        pBoard := p.w 3, base := BitVec.ofNat 32 (p.w 4), clock := p.fld 5 0 8, dtr := p.fld 5 8 1 == 1, rate := 0, known := true } } : State).finish p []))
    ∧ (s.Takes opStoreConfigure p → p.fld 0 0 1 = 1 → p.w 4 % 0x20000 = 0 → 25 ≤ p.fld 5 0 8 → p.fld 5 0 8 ≤ 200 → s.spw.run = none →
      let x : Spw := { s.spw with
        en := true, filt := BitVec.ofNat 4 (p.fld 0 4 4), cHold := p.w 1, vMin := p.fld 2 0 16, kDiv := p.fld 2 16 16
        pBoard := p.w 3, base := BitVec.ofNat 32 (p.w 4), clock := p.fld 5 0 8, dtr := p.fld 5 8 1 == 1, rate := 0, known := true }
      (∀ rate, Config.storeTest s.freeCtr = some rate → exec (.storeConfigure p) s = .next (({ s with
        freeCtr := s.freeCtr + 1
        spw := { x with rate := rate, device := s.spw.device.filter fun d => d.1 != x.slotAddr 2 } } : State).finish p []))
      ∧ (Config.storeTest s.freeCtr = none → exec (.storeConfigure p) s = .next (({ s with
        freeCtr := s.freeCtr + 1, spw := { s.spw with en := false } } : State).reply p stNotReady 0 [])))
    ∧ (s.Takes opStoreNow p →
      (s.spw.en = false → exec (.storeNow p) s = .next (s.reply p stDenied 0 []))
      ∧ (s.spw.en = true → p.fld 0 0 2 = 0 ∨ p.fld 0 0 2 = 3 → exec (.storeNow p) s = .next (s.reply p stBadParam 0 []))
      ∧ (s.spw.en = true → p.fld 0 0 2 = 1 ∨ p.fld 0 0 2 = 2 → s.spw.run = none →
        exec (.storeNow p) s = .next (({ s with spw := { s.spw with
          run := some { tier := p.fld 0 0 2, reason := 1, slot := s.spw.target, pkt := some p } } } : State).reply p stAccepted 0 []))
      ∧ (s.spw.en = true → p.fld 0 0 2 = 1 ∨ p.fld 0 0 2 = 2 → s.spw.run ≠ none → exec (.storeNow p) s = .next (s.reply p stBusy 0 [])))
    ∧ (s.Takes opStoreRead p → s.readRecord p = none → exec (.storeRead p) s = .next (s.reply p stNotReady 0 []))
    ∧ (s.Takes opStoreRead p → s.readRecord p = some r →
      let size := recordBytes r.axes r.tier
      (p.w 1 % 4 ≠ 0 ∨ size < p.w 1 → exec (.storeRead p) s = .next (s.reply p stBadParam 1 []))
      ∧ (p.w 1 % 4 = 0 → p.w 1 ≤ size → p.w 2 % 4 ≠ 0 ∨ size < p.w 1 + p.w 2 → exec (.storeRead p) s = .next (s.reply p stBadParam 2 []))
      ∧ (p.w 1 % 4 = 0 → p.w 2 % 4 = 0 → p.w 1 + p.w 2 ≤ size →
        (r.axes ≠ s.nAxes → exec (.storeRead p) s = .next (s.reply p stBadParam noWord []))
        ∧ (r.axes = s.nAxes → p.fld 0 8 1 = 1 →
          let l := (mapI (fun i e => (i, e)) r.positions).filter fun x => (s.axis x.1).state == .ready && x.2.valid
          exec (.storeRead p) s = .next ((l.foldl (fun t x => State.applyStored x t) s).finish p [BitVec.ofNat 32 l.length]))
        ∧ (r.axes = s.nAxes → p.fld 0 8 1 = 0 →
          exec (.storeRead p) s = .next ((if p.fld 0 1 1 = 1 then (s.free 64).2 else s).finish p
            ((r.image.drop (p.w 1 / 4)).take (p.w 2 / 4))))))

/-- PORT_CONFIGURE stores the axis group, the emulator group or both, of a local axis port whose axis is not in use; PWM_FAULT_CLEAR ends
the latched fault action once no fault is present (11 R301-R304, R329). -/
def Obligations.LocalPortCommands : Prop :=
  ∀ (p : Pkt) (s : State),
    let captured := s.acq.armed && (s.acq.sigs (· == 3)).any fun x => field x.2.toNat 16 4 == p.unit
    (s.Takes opPortConfigure p →
      let axis : Prop := p.fld 0 0 1 = 1
      let emu : Prop := p.fld 0 1 1 = 1
      let inUse : Prop := (∃ i, s.axisOf p.unit = some i ∧ (s.axis i).state ≠ .disabled) ∨ captured = true
      let words (x : LPort) : LPort := { x with cfg := mapI (fun i w => if i ≥ 22 then BitVec.ofNat 32 (p.w (i + 1)) else w) x.cfg }
      (axis → inUse → exec (.portConfigure p) s = .next (s.reply p stDenied 0 []))
      ∧ (∀ i, axis → ¬ inUse → axisGroupFault s.tmb.tc p = some i → exec (.portConfigure p) s = .next (s.reply p stBadParam (BitVec.ofNat 16 i) []))
      ∧ (∀ i, (axis → ¬ inUse ∧ axisGroupFault s.tmb.tc p = none) → emu → emuGroupFault s.nAxes p = some i →
        exec (.portConfigure p) s = .next (s.reply p stBadParam (BitVec.ofNat 16 i) []))
      ∧ ((axis → ¬ inUse ∧ axisGroupFault s.tmb.tc p = none) → (emu → emuGroupFault s.nAxes p = none) →
        (axis → emu → exec (.portConfigure p) s = .next ((s.modLPort p.unit fun x => words (x.applyAxis p)).finish p []))
        ∧ (axis → ¬ emu → exec (.portConfigure p) s = .next ((s.modLPort p.unit fun x => x.applyAxis p).finish p []))
        ∧ (¬ axis → emu → exec (.portConfigure p) s = .next ((s.modLPort p.unit words).finish p []))
        ∧ (¬ axis → ¬ emu → exec (.portConfigure p) s = .next (s.finish p []))))
    ∧ (s.Takes opPwmFaultClear p →
      (s.faultPresent p.unit = true → exec (.pwmFaultClear p) s = .next (s.reply p stDenied 0 []))
      ∧ (s.faultPresent p.unit = false → exec (.pwmFaultClear p) s = .next ((s.clearLatch p.unit).finish p [])))

/-! ## The control cycle -/

/-- The instants of a cycle: at its start every lattice, axis, port and node begins anew and every local port is latched; a lattice starts
once its axes have their feedback, or at D_U at the latest; each pipeline computes its axes in the order of their slots; D_X ends the
cycle. Nothing happens before the part runs (01 R12-R28; 03 R68). -/
def Obligations.CycleInstants : Prop :=
  ∀ (ins : List PortIn) (l pipe done pos i : Nat) (r : Recipe) (f : Fb) (s : State),
    (s.rst.phase = .running →
      let begun : State := { s with
        net := { s.net with ports := mapI s.portBegins s.net.ports, nodes := s.net.nodes.map s.nodeBegins }
        axes := s.axes.map fun a => { a with
          flags := a.flags &&& ~~~a.cnt.now, computed := false, fbMissing := false, held := false, mbxSnap := none
          drive := driveOf a.state a.action, stopCycles := if a.state = .stopping then a.stopCycles + 1 else a.stopCycles
          cnt := State.latchPost s.k a.cnt }
        lpe := { s.lpe with lats := s.lpe.lats.map fun x => { x with started := false, lastDone := 0, nextPos := [0, 0, 0, 0] } } }
      exec (.cycleSample ins) s = .next ((List.range s.nLocal).foldl
        (fun t n => State.emuRefPath n (State.emuCycle n (State.stepFree n (State.latchPort ins n t))))
        ((List.range s.nAxes).foldl (fun t i => t.freezeHistory i) begun)).emuAll)
    ∧ (l < s.nLats → (s.lpe.lats.getD l {}).started = false → (∀ x ∈ s.latAxes l, s.axisReady x.1 x.2 = true) →
      exec (.latticeStart l) s = .next ((s.latAxes l).foldl
        (fun t x => t.modAxis x.1 fun a => if a.state = .disabled then a else { a with mbxSnap := some a.mbx })
        { s with lpe := { s.lpe with lats := updAt s.lpe.lats l fun x => { x with started := true } } }))
    ∧ (s.nLats ≤ l ∨ (s.lpe.lats.getD l {}).started = true → exec (.latticeStart l) s = .next s)
    ∧ (s.rst.phase = .running → exec .dUDeadline s = .next
      ((List.range s.nLocal).foldl (fun t n => State.emuFbPath n t)
        ((List.range s.nAxes).foldl (fun t i => State.feedbackMiss i t)
          ((List.range s.nLats).foldl (fun t l => if (t.lpe.lats.getD l {}).started then t else t.startLattice l)
            { s with net := { s.net with nodes := mapI s.judgeNode s.net.nodes } }))).emuAll)
    ∧ (l < s.nLats → pipe < 4 → (s.lpe.lats.getD l {}).started = true → done ≤ s.dX →
      s.nextSlot l pipe 5 ((s.lpe.lats.getD l {}).nextPos.getD pipe 0) = some (pos, i, r, f) →
      let t := s.computeAxis i r f done
      exec (.axisCompute l pipe done) s = .next { t with lpe := { t.lpe with lats := updAt t.lpe.lats l fun x => { x with
        nextPos := updAt x.nextPos pipe fun _ => pos + 1, lastDone := max x.lastDone done } } })
    ∧ (s.nLats ≤ l ∨ 4 ≤ pipe ∨ (s.lpe.lats.getD l {}).started = false ∨ s.dX < done
        ∨ s.nextSlot l pipe 5 ((s.lpe.lats.getD l {}).nextPos.getD pipe 0) = none → exec (.axisCompute l pipe done) s = .next s)
    ∧ (s.rst.phase = .running →
      let c := s.dxCompute
      let o := ((List.range s.nAxes).foldl (fun t i => (State.closeHistory i t).freezeHistory i) c.2).dxOutputs
      exec .dXDeadline s = .next ((((o.2.captureFrame.commitsDx true).finishCmds.emuAll).govCycle c.1).writeShadow.twinDx o.1))
    ∧ (s.rst.phase ≠ .running → exec (.cycleSample ins) s = .next s ∧ exec .dUDeadline s = .next s ∧ exec .dXDeadline s = .next s)

/-- Supervision of an axis: a following error that lasts, a run of missed deadlines, the end of a stop by standstill or by its time limit,
a node that stays silent, and the freeze of a history; each acts exactly when its condition holds (01 R27, R29; 03 R92-R96; 04
R123; 05 R150). -/
def Obligations.AxisSupervision : Prop :=
  ∀ (i : Nat) (s : State),
    let a := s.axis i
    let m := s.mport (s.node i).port.toNat
    ((a.state = .enabled ∨ a.state = .stopping ∨ a.state = .fault) → a.hdr.feLimit ≠ 0 → a.cnt.feTimer ≠ 0 →
      a.hdr.feTime ≤ a.cnt.feTimer.toNat → exec (.followingError i) s = .next (s.faultCause i 1 false))
    ∧ (a.state = .disabled ∨ a.state = .ready ∨ a.hdr.feLimit = 0 ∨ a.cnt.feTimer = 0 ∨ a.cnt.feTimer.toNat < a.hdr.feTime →
      exec (.followingError i) s = .next s)
    ∧ (a.hdr.missLimit = 0 → exec (.missLimitReached i) s = .next s)
    ∧ (a.hdr.missLimit ≠ 0 →
      let t := if a.hdr.missLimit ≤ a.cnt.missRun.toNat then s.faultCause i 2 false else s
      let b := t.axis i
      exec (.missLimitReached i) s = .next (
        if (b.state = .stopping ∨ b.state = .fault) ∧ (b.action = some 1 ∨ b.action = some 3) ∧ b.hdr.missLimit ≤ b.missAgain then
          t.takeAction i 2 2 false
        else t))
    ∧ (a.state = .stopping → 16 ≤ a.still → exec (.standstillReached i) s = .next (s.endStopping i 0x8100))
    ∧ (a.state ≠ .stopping ∨ a.still < 16 → exec (.standstillReached i) s = .next s)
    ∧ (a.state = .stopping → a.hdr.stopTimeout ≠ 0 → a.hdr.stopTimeout ≤ a.stopCycles →
      exec (.stopTimeout i) s = .next ((s.modAxis i fun a => { a with flags := a.flags ||| flagStopTimeout }).endStopping i 0x8101))
    ∧ (a.state ≠ .stopping ∨ a.hdr.stopTimeout = 0 ∨ a.stopCycles < a.hdr.stopTimeout → exec (.stopTimeout i) s = .next s)
    ∧ ((s.node i).used = true → (s.node i).lost = false → (s.node i).graceEnd = none → m.linkLoss.toNat ≤ (s.node i).invalidRun →
      s.lineComputes (s.node i).port.toNat = true →
      exec (.nodeLost i) s = .next ((s.modNode i fun y => { y with lost := true }).eventNodeLost i 0))
    ∧ ((s.node i).used = false ∨ (s.node i).lost = true ∨ (s.node i).graceEnd ≠ none ∨ (s.node i).invalidRun < m.linkLoss.toNat
        ∨ s.lineComputes (s.node i).port.toNat = false → exec (.nodeLost i) s = .next s)
    ∧ (∀ c stop, a.cnt.freezeLeft = some (c, some stop) → stop ≤ a.cnt.histLast.toNat → i < s.axes.length →
      exec (.historyFreeze i) s = .next (s.modAxis i fun _ => { a with
        cnt := { a.cnt with frozen := true, histFreeze := BitVec.ofNat 64 c, freezeLeft := none } }))
    ∧ ((∀ c stop, a.cnt.freezeLeft = some (c, some stop) → a.cnt.histLast.toNat < stop) → exec (.historyFreeze i) s = .next s)

/-- Writes to an axis record: a sticky flag is cleared by writing 1; HIST_FROZEN releases the history; a mailbox slot takes the words of its
owner, and a write to a data word takes its commit back; a write by another is ignored (04 R112, R120, R123; 10 R298). -/
def Obligations.AxisRecordWrites : Prop :=
  ∀ (i slot off : Nat) (eddy : Bool) (v : Word) (s : State),
    let owner := if eddy then 2 ≤ slot ∧ slot ≤ 5 else 6 ≤ slot ∧ slot ≤ 7
    exec (.stickyFlagW1c i v) s
      = .next (s.modAxis i fun a => { a with cnt := { a.cnt with sticky := a.cnt.sticky &&& ~~~(v.extractLsb' 0 20) } })
    ∧ exec (.histFrozenW1c i) s = .next (s.modAxis i fun a => { a with cnt := { a.cnt with
        frozen := false, freezeLeft := if a.cnt.frozen then none else a.cnt.freezeLeft } })
    ∧ exec (.prfMarkRdWrite i v) s = .next (s.modAxis i fun a => { a with prof := { a.prof with markRd := v.extractLsb' 0 5 } })
    ∧ (i < s.nAxes → owner → 8 ≤ off → off < 28 →
      exec (.mailboxSlotWrite eddy i slot off v) s = .next (s.modAxis i fun a => { a with
        mbx := updAt a.mbx slot fun m => { m with data := updAt m.data (off / 4 - 2) fun _ => v, commit := 0 } }))
    ∧ (i < s.nAxes → owner → off < 4 →
      exec (.mailboxSlotWrite eddy i slot off v) s = .next (s.modAxis i fun a => { a with
        mbx := updAt a.mbx slot fun m => { m with tag := BitVec.ofNat 64 (m.tag.toNat / 2 ^ 32 * 2 ^ 32 + v.toNat), commit := 0 } }))
    ∧ (i < s.nAxes → owner → 4 ≤ off → off < 8 →
      exec (.mailboxSlotWrite eddy i slot off v) s = .next (s.modAxis i fun a => { a with
        mbx := updAt a.mbx slot fun m => { m with tag := BitVec.ofNat 64 (m.tag.toNat % 2 ^ 32 + v.toNat * 2 ^ 32), commit := 0 } }))
    ∧ (i < s.nAxes → owner →
      exec (.mailboxCommitWrite eddy i slot v) s
        = .next (s.modAxis i fun a => { a with mbx := updAt a.mbx slot fun m => { m with commit := v } }))
    ∧ (s.nAxes ≤ i ∨ ¬ owner →
      exec (.mailboxSlotWrite eddy i slot off v) s = .next s ∧ exec (.mailboxCommitWrite eddy i slot v) s = .next s)
    ∧ (28 ≤ off → exec (.mailboxSlotWrite eddy i slot off v) s = .next s)

/-- A generation becomes active at the cycle its activation names, and its command answers OK; one with another period or epoch takes
effect at the first whole second from there (the model's reading of the whole of it, log entry 97), with its period and epoch, when
acquisition is disarmed and the commands waiting for D_X fall due at once; slewing ends when the gap is closed (01 R10, R11; 05
R145; 06 R186; 12 R355). -/
def Obligations.PlanChanges : Prop :=
  ∀ (x : PendCmd) (g : GenImage) (s : State),
    ((s.cmds.find? fun y => y.opcode == 0x0202) = some x → s.net.pending = some g →
      let left : State := { s with cmds := s.cmds.filter fun y => y.opcode != 0x0202 }
      let anew : State := { left.disarm with tmb := { left.disarm.tmb with tc := g.tc, epoch := g.epoch } }
      let fresh : State := { anew with dxq := left.disarm.dxq.map fun y => { y with due := anew.k } }
      (s.k < x.cycle ∨ s.changesTime g = true → exec .generationActivate s = .next s)
      ∧ (x.cycle ≤ s.k → s.changesTime g = false →
        exec .generationActivate s = .next ((left.takeGeneration g x.cycle).finish x.pkt []))
      ∧ (s.changesTime g = true → s.changeInstant x.cycle ≤ s.now →
        exec .periodEpochChange s = .next ((fresh.takeGeneration g fresh.k).finish x.pkt []))
      ∧ (s.changesTime g = false ∨ s.now < s.changeInstant x.cycle → exec .periodEpochChange s = .next s))
    ∧ ((s.cmds.find? fun y => y.opcode == 0x0202) = none ∨ s.net.pending = none →
      exec .generationActivate s = .next s ∧ exec .periodEpochChange s = .next s)
    ∧ ((s.timeGap).1.natAbs ≤ 2 ^ 32 → exec .slewingEnd s = .next { s with tmb := { s.tmb with slewing := false } })
    ∧ (2 ^ 32 < (s.timeGap).1.natAbs → exec .slewingEnd s = .next s)

/-! ## The Millrace network -/

/-- Frames of a line: an F-frame leaves every running port whose line begins a cycle; a returned F-frame of this cycle in time gives its
slots to the nodes, an older or later one is counted LATE and reported, one with a bad FCS is counted; so are C-frames and segments;
a C-frame beyond its limit is reported; a drift of the delays that lasts is reported; a port's link goes down, and up again when it
comes up as the port's settings ask (05 R131-R160). -/
def Obligations.LineTraffic : Prop :=
  ∀ (f : FFrame) (g : GenImage) (l : Line) (port atNs : Nat) (cycle : Word) (ok looped dir duplex auto : Bool) (segs : List Seg) (s : State),
    let counted (p : Nat) : State := s.modMPort p fun x => { x with stat := x.stat ||| 2, fcsCount := satInc x.fcsCount }
    (s.net.active = none → exec .fFrameDepart s = .next s)
    ∧ (s.net.active = some g → exec .fFrameDepart s = .next ((List.range s.nPorts).foldl (fun t i =>
        if (t.mport i).state = .run ∧ t.lineBegins i = true ∧ t.twinSends i = true then
          t.emit (.fFrame i (BitVec.ofNat 32 t.k) (BitVec.ofNat 16 g.gen))
        else t) s))
    ∧ (f.port < s.nPorts → f.fcsOk = false → exec (.fFrameArrival f) s = .next (counted f.port))
    ∧ (f.port < s.nPorts → f.fcsOk = true →
      let old : Prop := f.cycle ≠ BitVec.ofNat 32 (s.lineCycle f.port)
      let since := f.atNs + (s.k - s.extend f.cycle) * s.tmb.tc
      let limit := s.dU + (match s.lineOf f.port with | some x => x.cOffset * s.tmb.tc | none => 0)
      let t := s.modMPort f.port fun p => { p with
        fArrive := BitVec.ofNat 18 since, driftRun := if ¬ old ∧ s.drifted f = true then p.driftRun + 1 else 0 }
      (¬ old → since ≤ limit → exec (.fFrameArrival f) s = .next ((f.slots.foldl (fun t x => State.takeSlot f.dir x t)
        (t.modMPort f.port fun p => { p with fSeen := true })).noteLoop f))
      ∧ (old ∨ limit < since → exec (.fFrameArrival f) s = .next (((t.setStat f.port 2).modMPort f.port fun p =>
        { p with lateCount := satInc p.lateCount }).overPlan f.port false since limit (s.extend f.cycle))))
    ∧ (s.nPorts ≤ f.port → exec (.fFrameArrival f) s = .next s)
    ∧ (s.nPorts ≤ port → exec (.cFrameReturn port cycle atNs ok looped dir) s = .next s ∧ exec (.serviceSegmentReturn port ok segs) s = .next s
      ∧ exec (.portLinkDown port) s = .next s ∧ exec (.portLinkUp port duplex auto) s = .next s)
    ∧ (port < s.nPorts → s.lineOf port = none → exec (.cFrameReturn port cycle atNs true looped dir) s = .next s)
    ∧ (port < s.nPorts → exec (.cFrameReturn port cycle atNs false looped dir) s = .next (counted port))
    ∧ (port < s.nPorts → s.lineOf port = some l →
      let derived := atNs - s.returnWay16 l.port looped dir / 16
      let limit := max 1 l.divider * s.tmb.tc - s.guardNs
      let t := s.modMPort port fun p => { p with cArrive := BitVec.ofNat 18 derived }
      exec (.cFrameReturn port cycle atNs true looped dir) s = .next (
        if derived > limit then t.overPlan port true derived limit (s.extend cycle) else t))
    ∧ (port < s.nPorts → exec (.serviceSegmentReturn port false segs) s = .next (counted port))
    ∧ (port < s.nPorts → exec (.serviceSegmentReturn port true segs) s = .next (segs.foldl (fun t g =>
        if g.up then (if g.filled then t.upFilled g else t) else if g.ack then t.downAcked port g else t) s))
    ∧ (16 ≤ (s.mport port).driftRun → exec (.dlyDrift port) s
        = .next { s.modMPort port fun p => { p with remeasure := true } with tmb := { s.tmb with dlyDrift := true } })
    ∧ ((s.mport port).driftRun < 16 → exec (.dlyDrift port) s = .next s)
    ∧ (port < s.nPorts → exec (.portLinkDown port) s
        = .next ((s.modMPort port fun p => { p with stat := p.stat ||| 32 }).modMPort port fun p => { p with link := false }))
    ∧ (port < s.nPorts →
      let barred : Prop := (s.twn.state = .isolated ∧ (s.mport port).topo = 2) ∨ s.rst.islands.getD 1 .inReset ≠ .running
      let meets : Prop := duplex = true ∧ (auto = true ∨ (s.mport port).gen = 3)
      (barred → exec (.portLinkUp port duplex auto) s = .next s)
      ∧ (¬ barred → meets → exec (.portLinkUp port duplex auto) s = .next (s.modMPort port fun x => { x with link := true }))
      ∧ (¬ barred → ¬ meets → exec (.portLinkUp port duplex auto) s = exec (.portLinkDown port) s))

/-- A walk: its answer is checked, refused or taken into the node table; three attempts without an answer end it with TIMEOUT; it completes
when every node has acknowledged its record. Probes are due on their interval, and their answer measures the line again. A generation
or a mailbox message that is not acknowledged in time fails (05 R139-R151, R160). -/
def Obligations.LineWalks : Prop :=
  ∀ (port a d base n : Nat) (far looped : Bool) (w : Walk) (x : Mailx) (ids : List DWord) (st : List Stamps) (recs : List NodeRec)
    (closed : Option Nat) (s : State),
    let free := (List.range s.nNodes).filter fun i =>
      (s.node i).used && (s.node i).port.toNat == port && !(recs.map NodeRec.identity).contains (s.node i).identity
    ((s.mport port).walk = none →
      exec (.walkReturn port far looped a d recs) s = .next s ∧ exec (.walkTimeout port) s = .next s)
    ∧ ((s.mport port).walk = some w →
      let heard : Prop := w.assigning = false ∧ (w.sent = true ∨ w.forPartner = true) ∧ recs ≠ [] ∧ (far = true → w.topo ≠ 0)
      let fault := s.walkFault w looped (recs.map NodeRec.identity) free recs
      (¬ heard → exec (.walkReturn port far looped a d recs) s = .next s)
      ∧ (∀ e detail, heard → fault = some (e, detail) → exec (.walkReturn port far looped a d recs) s
          = .next ((s.modMPort port fun y => { y with state := w.before, walk := none }).reply w.pkt e detail []))
      ∧ (heard → fault = none → exec (.walkReturn port far looped a d recs) s
          = .next (s.walkCommit port w looped a d free ((s.assignIndices free [] recs).getD []))))
    ∧ ((s.mport port).walk = some w →
      (w.assigning = true ∨ w.sent = false → exec (.walkTimeout port) s = .next s)
      ∧ (w.assigning = false → w.sent = true → 3 ≤ w.attempts → exec (.walkTimeout port) s
        = .next ((s.modMPort port fun y => { y with state := w.before, walk := none }).reply w.pkt stTimeout 0 []))
      ∧ (w.assigning = false → w.sent = true → w.attempts < 3 →
        exec (.walkTimeout port) s = .next (s.modMPort port fun y => { y with walk := some { w with sent := false } })))
    ∧ ((s.mport port).walk = some w →
      (w.forPartner = true → exec (.dFrameHandover port looped d recs) s
        = exec (.walkReturn port true looped 0 d recs) (s.emit (.oxbowDFrame port)))
      ∧ (w.forPartner = false → exec (.dFrameHandover port looped d recs) s = exec (.walkReturn port true looped 0 d recs) s))
    ∧ ((s.mport port).walk = none →
      (s.twn.state ≠ .single → exec (.dFrameHandover port looped d recs) s = .next (s.emit (.oxbowDFrame port)))
      ∧ (s.twn.state = .single → exec (.dFrameHandover port looped d recs) s = .next s))
    ∧ (let acked := ids.foldl (fun t id => match t.indexOf id with
          | some i => (match (t.node i).unacked with | some g => t.recordAck i g | none => t)
          | none => t) s
      let t := ids.foldl (fun t id => t.joinAck port id) acked
      ((t.mport port).walk = none → exec (.assignAck port ids) s = .next t)
      ∧ ((t.mport port).walk = some w → w.assigning = false → exec (.assignAck port ids) s = .next t)
      ∧ ((t.mport port).walk = some w → w.assigning = true →
        let left := w.awaiting.filter fun id => !ids.contains id
        (left = [] → exec (.assignAck port ids) s = .next ((t.linkPorts port w).finish w.pkt (State.walkResult w)))
        ∧ (left ≠ [] → exec (.assignAck port ids) s = .next (t.modMPort port fun y => { y with walk := some { w with awaiting := left } }))))
    ∧ exec .probeSend s = .next ((List.range s.nPorts).foldl
        (fun t i => if t.probeCycle i then t.modMPort i fun p => { p with probeDue := true } else t) s)
    ∧ ((s.mport port).probeP = none → exec (.probeReturn port a d st recs closed) s = .next s)
    ∧ ((s.mport port).probeP = some base →
      let t := s.modMPort port fun p => { p with probeP := none, remeasure := false, driftRun := 0 }
      let x := t.mport port
      let stamps := st ++ recs.map recStamps
      let measured : State := (if x.topo = 0 ∨ x.turned = true then t.setDelays port true a d stamps
        else t.modMPort port fun p => { p with fwd := overlay p.fwd (st.map fun y => BitVec.ofInt 16 (fwdDelay y)) }).refreshRecords port
      (recs ≠ [] → exec (.probeReturn port a d st recs closed) s
        = .next (measured.joinFound port base recs (closed.map fun q => (base - 1, q))))
      ∧ (recs = [] → closed = none → exec (.probeReturn port a d st recs closed) s = .next measured)
      ∧ (∀ q, recs = [] → closed = some q → x.turned = false ∨ x.reclose ≠ none →
        exec (.probeReturn port a d st recs closed) s = .next measured)
      ∧ (∀ q, recs = [] → closed = some q → x.turned = true → x.reclose = none →
        let c := measured.k + x.actLead.toNat
        exec (.probeReturn port a d st recs closed) s = .next (measured.modMPort port fun p => { p with
          reclose := some (c, base - 1, q), dq := p.dq ++ [.reclose (BitVec.ofNat 64 c) (base - 1) q] })))
    ∧ (s.net.pendState = 2 → s.net.joinGen = false → s.net.distEnd ≤ s.now →
      exec .distributionTimeout s = .next { s with net := { s.net with pendState := 4 } })
    ∧ (s.net.pendState ≠ 2 ∨ s.net.joinGen = true ∨ s.now < s.net.distEnd → exec .distributionTimeout s = .next s)
    ∧ ((s.node n).mailx = none → exec (.nodeMailboxTimeout n) s = .next s)
    ∧ ((s.node n).mailx = some x →
      (s.now < x.endNs → exec (.nodeMailboxTimeout n) s = .next s)
      ∧ (x.endNs ≤ s.now →
        let t := s.modNode n fun y => { y with mailx := none }
        exec (.nodeMailboxTimeout n) s = .next ((t.modMPort (t.node n).port.toNat fun p => { p with
          svc := p.svc.filter fun m => !(m.node == n && decide (m.kind.toNat ≥ 0x0100)) }).reply x.pkt stTimeout 0 [])))

/-- Joins and rings: a join acts in its cycle once every node has its record, and is abandoned when it is not ready two cycles before; a
node's grace ends; a ring closes again in its cycle (05 R152-R158). -/
def Obligations.LineJoins : Prop :=
  ∀ (port n c p q : Nat) (j : Join) (s : State),
    ((s.mport port).join = none → exec (.joinActivate port) s = .next s ∧ exec (.joinAbandon port) s = .next s)
    ∧ ((s.mport port).join = some j → j.waiting ≠ [] ∨ s.k < j.cycle → exec (.joinActivate port) s = .next s)
    ∧ ((s.mport port).join = some j → j.waiting = [] → j.cycle ≤ s.k →
      let left := j.removed.foldl (fun t i => (t.eventNodeLost i 1).freeNode i) s
      let entered := (mapI (fun i x => (i, x)) j.found).foldl (fun t x => t.modNode x.2.1 fun old =>
        { State.nodeEntry port (j.base + x.1) x.2.2.2 old with
          graceEnd := some (j.cycle + 4096), cfg := (j.cfgs.find? fun c => c.1 == x.2.2.2.identity).map Prod.snd
          sentCfg := none, unacked := none }) left
      let t := entered.modMPort port fun x => { x with
        join := none, pos := x.pos.take j.base ++ j.found.map Prod.fst
        joined := mapI (fun i x => (x.1, x.2.1, j.base + i, x.2.2.identity)) j.found }
      (j.gen = none ∨ t.net.pending = none → exec (.joinActivate port) s = .next t)
      ∧ (∀ g, j.gen ≠ none → t.net.pending = some g → exec (.joinActivate port) s = .next (t.takeGeneration g j.cycle)))
    ∧ ((s.mport port).join = some j → j.waiting ≠ [] → j.cycle ≤ s.k + 2 →
      let t := s.modMPort port fun x => { x with join := none }
      exec (.joinAbandon port) s = .next (if j.gen.isSome then
        { t.dropRecords with net := { t.dropRecords.net with pending := none, joinGen := false, pendState := 0 } } else t))
    ∧ ((s.mport port).join = some j → j.waiting = [] ∨ s.k + 2 < j.cycle → exec (.joinAbandon port) s = .next s)
    ∧ ((s.node n).graceEnd = some c → c ≤ s.k → exec (.joinGraceExpiry n) s = .next (s.modNode n fun x => { x with graceEnd := none }))
    ∧ ((s.node n).graceEnd = none ∨ (∃ e, (s.node n).graceEnd = some e ∧ s.k < e) → exec (.joinGraceExpiry n) s = .next s)
    ∧ ((s.mport port).reclose = some (c, p, q) → c ≤ s.k →
      let whole (x : MPort) : MPort := { x with turned := false, loopedDir0 := false, loopedDir1 := false, turnLo := none, turnHi := none }
      let t := s.modMPort port fun x => { whole x with reclose := none }
      exec (.recloseActivate port) s = .next ((if (s.mport port).topo = 1 then t.modMPort (s.mport port).ringPort.toNat whole else t).eventRingTurned
        port false (some p) (some q)))
    ∧ ((s.mport port).reclose = none ∨ (∃ x, (s.mport port).reclose = some x ∧ s.k < x.1) → exec (.recloseActivate port) s = .next s)

/-- The part accepts a write to NET_COM_ETYPE only while every Millrace port is DARK; at any other time the write is ignored (05 R127). -/
def Obligations.EtypeWrites : Prop :=
  ∀ (v : Word) (s : State),
    ((∀ p ∈ s.net.ports, p.state = .dark) →
      exec (.netComEtypeWrite v) s = .next { s with net := { s.net with etype := v.extractLsb' 0 16 } })
    ∧ ((∃ p ∈ s.net.ports, p.state ≠ .dark) → exec (.netComEtypeWrite v) s = .next s)

/-- A head that is a node of an upstream line: it copies its window out, takes the winning C-frame's payload into its window or counts a
cycle without one or with a tie, declares itself safe after too many, answers walks and records, and fills its slot and its segments; a head that is
none does nothing (05 R161-R170). NET_COM_CLAIM takes a legal claim base (13 R379). -/
def Obligations.UpstreamSide : Prop :=
  ∀ (f : CFrame) (u : Nat) (stamp cycle v : Word) (ok : Bool) (slots : List FSlot) (segs : List Seg) (hop p q : Nat) (c : NodeCfg)
    (es : List (DWord × NodeCfg)) (at' : DWord) (s : State),
    let conf := s.net.conf
    let top := conf.cands.foldl (fun m g => max m g.claim.toNat) 0
    (1 ≤ field v.toNat 0 16 → field v.toNat 0 16 ≤ 0xFFFD →
      exec (.netComClaimWrite v) s = .next { s with net := { s.net with claimBase := BitVec.ofNat 16 (field v.toNat 0 16) } })
    ∧ (field v.toNat 0 16 = 0 ∨ 0xFFFD < field v.toNat 0 16 → exec (.netComClaimWrite v) s = .next s)
    ∧ (conf.role = false → exec .confOutCopy s = .next s ∧ exec .confInWrite s = .next s ∧ exec (.upstreamCFrame f) s = .next s
      ∧ exec (.upstreamFFrame u ok cycle slots) s = .next s ∧ exec (.upstreamSFrame u segs) s = .next s ∧ exec .upSafe s = .next s)
    ∧ (conf.role = true →
      let out := conf.copy.foldl s.copyEntry conf.confOut
      (s.upCfg = none → exec .confOutCopy s = .next { s with net := { s.net with conf := { conf with confOut := out } } })
      ∧ (s.upCfg = some c → exec .confOutCopy s = .next { s with net := { s.net with conf := { conf with
        confOut := out, latched := cellGets out 0 1 (min 1024 c.fLen), latchedCycle := BitVec.ofNat 32 (s.upLine c) } } }))
    ∧ (conf.role = true →
      let best := conf.cands.filter fun g => g.claim.toNat == top
      let none' : Conf := { conf with cands := [], safeRun := conf.safeRun + 1, lastApplied := 0 }
      (best = [f] → exec .confInWrite s = .next { s with net := { s.net with conf := { conf with
        confIn := cellPuts conf.confIn 0 1 ((match s.ownSlot f with | some x => x.payload | none => []).take 1024)
        cands := [], safeRun := 0, upSafe := false, lastTie := false, lastMiss := false
        lastApplied := BitVec.ofNat 2 (f.uplink + 1), upGen := f.gen } } })
      ∧ (best = [] → exec .confInWrite s = .next { s with net := { s.net with conf := { none' with lastTie := false, lastMiss := true } } })
      ∧ (2 ≤ best.length →
        exec .confInWrite s = .next { s with net := { s.net with conf := { none' with lastTie := true, lastMiss := false } } }))
    ∧ (conf.role = true →
      let limit := match s.upCfg with | some c => c.nSafe | none => 3
      (limit ≤ conf.safeRun → exec .upSafe s = .next { s with net := { s.net with conf := { conf with upSafe := true } } })
      ∧ (conf.safeRun < limit → exec .upSafe s = .next s))
    ∧ (conf.role = true →
      let steers : Prop := s.tmb.domP.cfg.source = 3 ∧ ((f.fcsOk = true ∧ f.looped = false ∧ f.wellTyped = true ∧ f.idle = true)
        ∨ (s.isCandidate f = true ∧ ∀ g ∈ conf.cands, g.claim.toNat < f.claim.toNat))
      let t := match s.cfgFor f.gen with | some c => s.offsetTaken .p (State.cTheta c f) | none => s
      let steered : State := if steers then t else s
      exec (.upstreamCFrame f) s = .next (if s.isCandidate f = true then
        { steered with net := { steered.net with conf := { steered.net.conf with cands := steered.net.conf.cands ++ [f] } } } else steered))
    ∧ (let r := s.ownRecord stamp
      let moved (h : Nat) : State := { r.2 with net := { r.2.net with conf := { r.2.net.conf with pos := h } } }
      exec (.upstreamDFrame u (.walk hop) stamp) s = .next ((moved hop).emit (.upD u r.1 stamp))
      ∧ (hop < 32 → exec (.upstreamDFrame u (.probe hop p) stamp) s = .next ((if p ≤ hop then moved hop else r.2).emit (.upD u r.1 stamp))))
    ∧ (32 ≤ hop → exec (.upstreamDFrame u (.probe hop p) stamp) s = .next s)
    ∧ ((∀ e ∈ es, e.1 ≠ s.headId) → exec (.upstreamDFrame u (.assign es) stamp) s = .next s)
    ∧ (∀ e, es.find? (fun e => e.1 == s.headId) = some e →
      exec (.upstreamDFrame u (.assign es) stamp) s = .next ((s.takeRecord e.2).emit (.upAck u)))
    ∧ (let named : Prop := conf.role = true ∧ (p = conf.pos ∨ q = conf.pos)
      let t : State := if named then { s with net := { s.net with conf := { conf with resume := some at' } } } else s
      exec (.upstreamDFrame u (.resume at' p q) stamp) s = .next t ∧ exec (.upstreamDFrame u (.reclose at' p q) stamp) s = .next t)
    ∧ (conf.role = true →
      ((∃ y ∈ slots, y.node = conf.index.toNat) → exec (.upstreamFFrame u ok cycle slots) s = .next (s.emit (.upF u cycle {
        node := conf.index.toNat, valid := s.inTolerance && conf.latchedCycle == cycle, safe := conf.upSafe, tie := conf.lastTie
        cmdMiss := conf.lastMiss, syncErr := !s.inTolerance, svcPending := !conf.upq.isEmpty, applied := conf.lastApplied
        payload := conf.latched })))
      ∧ ((∀ y ∈ slots, y.node ≠ conf.index.toNat) → exec (.upstreamFFrame u ok cycle slots) s = .next s))
    ∧ (conf.role = true → exec (.upstreamSFrame u segs) s = .next (segs.foldl (fun t g =>
        if g.node ≠ t.net.conf.index.toNat then t else if g.up then t.fillUp u g else t.downSegment u g) s))

/-! ## Time and snapshots -/

/-- A 32-bit cycle number names the 64-bit cycle nearest to the present one whose low 32 bits match (01 R10); the start cycles of MOVE and
GEAR_SET are read so. -/
def Obligations.CycleNumbersExtendToTheNearest : Prop :=
  ∀ (c : Word) (m : Nat) (p : Pkt) (s : State),
    s.extend c % 2 ^ 32 = c.toNat
    ∧ (m % 2 ^ 32 = c.toNat → ((s.extend c : Int) - s.k).natAbs ≤ ((m : Int) - s.k).natAbs)
    ∧ (p.fld 0 16 1 = 1 → s.startCycle p = some (s.extend (BitVec.ofNat 32 (p.w 1))))

/-- The domains and the served time: a measured offset steers a domain that has a source; a domain that stops answering becomes LOST, the
served time then turning to the other domain or to holdover; AUTO returns to P after 10 s of lock; each PTP message leaves only of a
domain on an uplink, and the master's only of a master; reading TMB_SRV_NS latches the other halves (06 R176, R185-R200). -/
def Obligations.TimeDomains : Prop :=
  ∀ (d : Dom) (kind : PtpKind) (theta : Int) (t16 u t : Nat) (v : DWord) (a : Announce) (s : State),
    let x := s.domain d
    (x.state = .free → exec (.ptpSyncReceived d theta) s = .next s)
    ∧ (x.state ≠ .free →
      let y := State.lockCount theta s.now (State.servo s.tmb.incrNom theta x)
      let steered : State := s.modDomain d fun _ => y
      let t := if y.state = .locked ∧ x.state ≠ .locked then steered.domainLocked d
        else if x.state = .locked ∧ y.state ≠ .locked then steered.domainLeft d else steered
      (d = t.tmb.selected ∧ t.tmb.holdover = false →
        exec (.ptpSyncReceived d theta) s = .next { t with tmb := { t.tmb with holdIncr := (t.domain d).mean } })
      ∧ (¬ (d = t.tmb.selected ∧ t.tmb.holdover = false) → exec (.ptpSyncReceived d theta) s = .next t))
    ∧ exec (.ptpAnnounceReceived u a) s = .next (State.announceFor u a .s (State.announceFor u a .p s))
    ∧ (x.state = .acquiring ∨ x.state = .locked → exec (.domainLost d) s = .next ((s.modDomain d fun x => { x with
        state := .lost, incr := x.mean, inRun := 0, outRun := 0, lockedAt := none }).domainLeft d))
    ∧ (x.state = .free ∨ x.state = .lost → exec (.domainLost d) s = .next s)
    ∧ (s.tmb.domP.state = .locked → s.tmb.domP.lockedAt = some t → s.tmb.select = 2 → s.tmb.revert = true → s.tmb.selected = .s →
      t + 10000000000 ≤ s.now → exec .autoRevert s = .next (s.selectDomain .p 2))
    ∧ (s.tmb.domP.state ≠ .locked ∨ s.tmb.select ≠ 2 ∨ s.tmb.revert = false ∨ s.tmb.selected = .p
        ∨ s.tmb.domP.lockedAt = none ∨ (s.tmb.domP.lockedAt = some t ∧ s.now < t + 10000000000) → exec .autoRevert s = .next s)
    ∧ (s.domUplink d = none → exec (.ptpTransmit d kind t16) s = .next s ∧ exec (.ptpDelayMessage d kind t16) s = .next s)
    ∧ (s.domUplink d = some u → (s.tmb.uplinks.getD u {}).quiet = true → exec (.ptpTransmit d kind t16) s = .next s)
    ∧ (s.domUplink d = some u → (s.tmb.uplinks.getD u {}).quiet = false →
      exec (.ptpTransmit d .sync t16) s
        = .next (if x.isMaster then s.emit (.ptp u d .sync (if x.cfg.oneStep then s.egress16 d u else 0)) else s)
      ∧ exec (.ptpTransmit d .followUp t16) s
        = .next (if x.isMaster ∧ x.cfg.oneStep = false then s.emit (.ptp u d .followUp (s.egress16 d u)) else s)
      ∧ exec (.ptpTransmit d .delayResp t16) s
        = .next (if x.isMaster then s.emit (.ptp u d .delayResp (s.tmb.uplinks.getD u {}).lastRx) else s)
      ∧ exec (.ptpTransmit d .delayReq t16) s = .next (if x.cfg.profile = 0 then s.emit (.ptp u d .delayReq 0) else s)
      ∧ exec (.ptpTransmit d .pdelayReq t16) s = .next (if x.cfg.profile = 0 then s else s.emit (.ptp u d .pdelayReq 0))
      ∧ exec (.ptpTransmit d .pdelayResp t16) s = .next (s.emit (.ptp u d .pdelayResp (if x.cfg.oneStep then t16 else 0))))
    ∧ (s.domUplink d = some u →
      let t : State := { s with tmb := { s.tmb with
        uplinks := updAt s.tmb.uplinks u fun y => { y with lastRx := t16 - (s.tmb.uplinks.getD u {}).ing.toNat } } }
      exec (.ptpDelayMessage d .delayReq t16) s = exec (.ptpTransmit d .delayResp 0) t
      ∧ (kind ≠ .delayReq → exec (.ptpDelayMessage d kind t16) s = .next t))
    ∧ exec (.tmbIncrNomWrite v) s = .next { s with tmb := { s.tmb with incrNom := v.extractLsb' 0 40 } }
    ∧ exec .tmbSrvNsRead s = .next { s with
        tmb := { s.tmb with latSec := s.tmb.served.sec, latFrac := s.tmb.served.frac }
        lastRead := BitVec.ofNat 64 s.tmb.served.ns.toNat }

/-- Snapshots: the part's own entries are latched at the instant; a node's report fills its entry; the last one completes the snapshot, and
100 ms without it end it with TIMEOUT; a request from upstream starts a snapshot of the part's own clocks (06 R201-R206). -/
def Obligations.Snapshots : Prop :=
  ∀ (id n t latch : Nat) (late : Bool) (data : List Byte) (p : Pkt) (s : State),
    let x := s.snap id
    (x.state = 1 → x.latched = false → x.time ≤ s.now →
      let t := (s.dropCmd 0x0302 x.pkt).modSnap id fun y => { y with
        latched := true
        entries := (if x.scope.getLsbD 0 then s.internalEntries x.time else []) ++ y.entries }
      (x.upLate = none → exec (.snapshotLatch id) s = .next (t.snapCheck id))
      ∧ (x.upLate = some late → exec (.snapshotLatch id) s = .next ((t.snapAnswer id x.time late).snapCheck id)))
    ∧ (x.state ≠ 1 ∨ x.latched = true ∨ s.now < x.time → exec (.snapshotLatch id) s = .next s)
    ∧ (x.state = 1 → n ∈ x.waiting → exec (.snapshotReport n id late latch data) s = .next ((s.modSnap id fun y => { y with
        waiting := y.waiting.filter fun i => i != n
        entries := y.entries.map fun e =>
          if e.target = BitVec.ofNat 16 (0x3000 + n) then
            { e with status := BitVec.ofNat 8 (b2n late), latch := BitVec.ofNat 64 latch, data := data.take 64 }
          else e }).snapCheck id))
    ∧ (x.state ≠ 1 ∨ n ∉ x.waiting → exec (.snapshotReport n id late latch data) s = .next s)
    ∧ (x.state = 1 → x.time + 100000000 ≤ s.now →
      let t := (s.dropCmd 0x0302 x.pkt).modSnap id fun y => { y with state := 3, waiting := [] }
      (x.pkt = some p → exec (.snapshotTimeout id) s = .next (t.reply p stTimeout 0 []))
      ∧ (x.pkt = none → exec (.snapshotTimeout id) s = .next t))
    ∧ (x.state ≠ 1 ∨ s.now < x.time + 100000000 → exec (.snapshotTimeout id) s = .next s)
    ∧ (s.net.conf.role = true → id < 4 → x.state ≠ 1 →
      let begun (after : Bool) : State := (s.snapStart id t 7 none).modSnap id fun y => { y with upLate := some after }
      (s.now ≤ t → exec (.snapshotRequest id t) s = .next (begun false))
      ∧ (t < s.now → exec (.snapshotRequest id t) s = exec (.snapshotLatch id) (begun true)))
    ∧ (s.net.conf.role = false ∨ 4 ≤ id ∨ x.state = 1 → exec (.snapshotRequest id t) s = .next s)

/-! ## The scheduler and the governor -/

/-- Tasks: a decision gives ready flows to free cores and wakes parked ones, unless the head leads no pair or the scheduler is stopped; a
woken core becomes idle, or halts when a halt was asked of it; a trigger queues a periodic task or merges it into the waiting one; the
tasks due at a boundary are queued in the order of their times; a delay list's tick changes only while the list is empty (09
R253-R265). -/
def Obligations.TaskTraffic : Prop :=
  ∀ (c l ev : Nat) (v : Word) (s : State),
    (s.twn.noDispatch = true ∨ s.sch.stopped = true → exec .taskDispatch s = .next s)
    ∧ (s.twn.noDispatch = false → s.sch.stopped = false →
      let t := State.dispatchAll 64 s
      exec .taskDispatch s = .next ((((List.range 8).filter t.admitted).flatMap fun p => t.sch.ready.getD p []).foldl
        (fun u n => State.wakeFor n u) t).retryHeld)
    ∧ ((s.core c).waking = true → c < s.eddy.cores.length →
      ((s.core c).haltReq = false → exec (.coreWoken c) s = .next (s.modCore c fun x => { x with
        state := .idle, waking := false, govPark := false, idleSince := s.now }))
      ∧ ((s.core c).haltReq = true → exec (.coreWoken c) s = .next (s.modCore c fun x => { x with
        state := .halted, haltedFrom := .idle, haltNs := s.now, waking := false, govPark := false, idleSince := s.now })))
    ∧ ((s.core c).waking = false → exec (.coreWoken c) s = .next s)
    ∧ exec (.periodicTrigger ev) s = .next ((indicesOf (fun f => State.triggersAt f ev s.k) s.sch.flows).foldl (fun t n =>
        if (t.flow n).perWait then
          t.modFlow n fun f => { f with
            queue := f.queue.map fun q => if q.periodic then { q with coalesce := satInc q.coalesce } else q
            coalesced := satInc f.coalesced }
        else t.enqueueTask n { arg := (t.flow n).perArg, periodic := true }) s)
    ∧ (let items := (s.sch.dly.getD l {}).items
      let isDue := fun d : Delayed => decide (d.due ≤ s.boundaryNow l)
      exec (.delayBoundary l) s = .next (((items.filter isDue).foldl (fun a d => State.insertDue d a) []).foldl
        (fun t d => (t.modFlow d.flow fun f => { f with delayed := f.delayed - 1 }).enqueueTask d.flow { arg := d.arg })
        { s with sch := { s.sch with dly := updAt s.sch.dly l fun x => { x with items := x.items.filter fun d => !isDue d } } }))
    ∧ exec (.schDlyTickWrite l v) s = .next { s with sch := { s.sch with
        dly := updAt s.sch.dly l fun x =>
          if x.items = [] ∧ 1 ≤ (v.extractLsb' 0 14).toNat ∧ (v.extractLsb' 0 14).toNat ≤ 10000 then
            { x with tick := v.extractLsb' 0 14, err := x.err && !v.getLsbD 31 }
          else { x with err := true } } }

/-- The governor: at a period's end it measures, admits, lowers the setpoint where it may, and reports a conflict; the highest temperature
of the period is kept; a PMBus transaction counts as its result says, and after three failures in a row the setpoint is fixed; a
legal write of PWR_GOV waits for the period's end, another is ignored (09 R266-R279). -/
def Obligations.GovernorPeriods : Prop :=
  ∀ (est other : Nat) (temps : List Int) (kind : PmbKind) (ok : Bool) (data : Half) (v : Word) (s : State),
    (let a := (s.measure est other).govAdmit
      let low := a.canLower
      let b := if low then ({ a with pwr := { a.pwr with vset := a.pwr.vset - 5 } } : State).sendVout else a
      let t := b.govConflict (!s.pwr.firm && !s.pwr.soft) low
      exec (.governorPeriodEnd est other) s = .next (State.parkIdle t.pwr.periodStart 32 t).nextPeriod)
    ∧ (temps.length = 16 → (∀ x ∈ temps, -32768 ≤ x ∧ x ≤ 32767) → s.pwr.temps.length = 16 →
      exec (.temperatureSample temps) s = .next { s with pwr := { s.pwr with
        temps := temps.map (BitVec.ofInt 16)
        hot := temps.foldl (fun m t => match m with | some x => some (max x t) | none => some t) s.pwr.hot } })
    ∧ (s.pwr.pmbCfg.getLsbD 31 = false ∨ s.pwr.fixed = true → exec (.pmbusTransactionDone kind ok data) s = .next s)
    ∧ (s.pwr.pmbCfg.getLsbD 31 = true → s.pwr.fixed = false →
      exec (.pmbusTransactionDone kind true data) s = .next (s.pmbOk kind data)
      ∧ exec (.pmbusTransactionDone kind false data) s = .next (s.pmbFail kind))
    ∧ (3 ≤ s.pwr.failRun → s.pwr.fixed = false → exec .pmbFault s = .next (({ s with pwr := { s.pwr with
        pmbFault := true, fixed := true, vset := s.pwr.ackVset, sent := [], retry := none } } : State).eventConflict true 0))
    ∧ (s.pwr.failRun < 3 ∨ s.pwr.fixed = true → exec .pmbFault s = .next s)
    ∧ (let lo := field v.toNat 0 9
      let hi := field v.toNat 9 9
      let legal := 10 ≤ lo ∧ lo ≤ 400 ∧ lo + 50 ≤ hi ∧ 1 ≤ field v.toNat 18 4 ∧ 1 ≤ field v.toNat 22 4
      (legal → exec (.pwrGovWrite v) s = .next { s with pwr := { s.pwr with govNext := some v } })
      ∧ (¬ legal → exec (.pwrGovWrite v) s = .next s))

/-- An instruction changes a core that executes a task, and no other: a core that is idle, waiting, parked, halted or faulted ignores it,
and an instruction that the encoding rules make illegal stops its task with ILLEGAL and has no other effect (07 R208, R223, R227, 08
R233, R238, R251). -/
def Obligations.EddyInstructionsNeedARunningTask : Prop :=
  ∀ (c : Nat) (i : EIns) (cmd : Instr) (s : State), i.command c = some cmd →
    (¬ s.Runs c → exec cmd s = .next s)
    ∧ (s.Runs c → i.legal = false → exec cmd s = .next (s.taskFault c 2 (s.core c).regs.pc.toNat))

/-- The arithmetic of each legal PA instruction, its moves going on beside it, and what an arithmetic result does to its accumulator and
to the flags: exact when it fits, narrowed to 56 bits or limited to Q1.47 under MR.SAT, V set when it did not fit, VS following V, the
other registers as they were (07 R209, R210, 08 R236-R239). -/
def Obligations.EddyArithmetic : Prop :=
  (∀ (c : Nat) (n i j : Fin 4) (k : Fin 8) (sh : Fin 16) (pair neg0 neg1 idx : Bool) (sel : BitVec 3) (src : BitVec 4) (mv : PMoves)
      (s : State), s.Runs c →
    let goes (cmd : Instr) (ins : EIns) (f : ERegs → Arith) : Prop :=
      ins.legal = true → exec cmd s = .next (s.runPA c false ins mv f)
    let an (r : ERegs) : Int := accInt (r.acc n.val)
    let product (r : ERegs) : Int := signed 24 (r.data i.val).toNat * signed 24 (r.data (j.val + 4)).toNat * 2
    goes (.eNop c mv) (.nop mv) (fun r => (r, false))
    ∧ goes (.eMpy c n i j mv) (.mpy n i j mv) (fun r => putResult r n.val (product r) false)
    ∧ goes (.eMac c n i j mv) (.mac n i j mv) (fun r => putResult r n.val (an r + product r) (carryAdd (an r) (product r)))
    ∧ goes (.eMsu c n i j mv) (.msu n i j mv) (fun r => putResult r n.val (an r - product r) (borrowSub (an r) (product r)))
    ∧ goes (.eDmpy c pair sel neg0 neg1 mv) (.dmpy pair sel neg0 neg1 mv) (fun r => dual r false pair sel.toNat neg0 neg1)
    ∧ goes (.eDmac c pair sel neg0 neg1 mv) (.dmac pair sel neg0 neg1 mv) (fun r => dual r true pair sel.toNat neg0 neg1)
    ∧ goes (.eAdd c n src mv) (.add n src mv) (fun r => putResult r n.val (an r + r.src src.toNat) (carryAdd (an r) (r.src src.toNat)))
    ∧ goes (.eSub c n src mv) (.sub n src mv) (fun r => putResult r n.val (an r - r.src src.toNat) (borrowSub (an r) (r.src src.toNat)))
    ∧ goes (.eCmp c n src mv) (.cmp n src mv) (fun r => cmpResult r (an r - r.src src.toNat) (borrowSub (an r) (r.src src.toNat)))
    ∧ goes (.eCpy c n src mv) (.cpy n src mv) (fun r => let a := toAcc (r.src src.toNat)
        ((r.setAcc n.val a).setFlags { resultFlags r.flags a with v := false } false false false, false))
    ∧ goes (.eZero c n mv) (.zero n mv) (fun r =>
        ((r.setAcc n.val 0).setFlags { r.flags with z := true, n := false, v := false, g := false, h := true } false false false, false))
    ∧ goes (.eNeg c n mv) (.neg n mv) (fun r => putResult r n.val (-(an r)) (borrowSub 0 (an r)))
    ∧ goes (.eAbs c n mv) (.abs n mv) (fun r => putResult r n.val (an r).natAbs r.flags.c)
    ∧ goes (.eRound c n mv) (.round n mv) (fun r => let y := narrow false (roundAt24 (r.mr.getLsbD 3) (an r) * 2 ^ 24)
        ((r.setAcc n.val y.1).setFlags { resultFlags r.flags y.1 with v := y.2 } y.2 false false, y.2))
    ∧ goes (.eLim c n mv) (.lim n mv) (fun r => let y := narrow true (an r)
        ((r.setAcc n.val y.1).setFlags { resultFlags r.flags y.1 with v := y.2 } y.2 false false, y.2))
    ∧ goes (.eShl c n sh mv) (.shl n sh mv) (fun r => shiftLeft r n.val sh.val)
    ∧ goes (.eShr c n sh mv) (.shr n sh mv) (fun r => shiftRight r n.val sh.val)
    ∧ goes (.eAnd c n k mv) (.and n k mv) (fun r => logical r n.val fun w => w &&& r.data k.val)
    ∧ goes (.eOr c n k mv) (.or n k mv) (fun r => logical r n.val fun w => w ||| r.data k.val)
    ∧ goes (.eXor c n k mv) (.xor n k mv) (fun r => logical r n.val fun w => w ^^^ r.data k.val)
    ∧ goes (.eMaxiL c n k idx mv) (.maxi n k idx false mv) (fun r => extreme r false n.val k.val idx r.lc)
    ∧ goes (.eMaxiP c n k idx mv) (.maxi n k idx true mv) (fun r => extreme r false n.val k.val idx (r.p.getD mv.xptr.val 0))
    ∧ goes (.eMiniL c n k idx mv) (.mini n k idx false mv) (fun r => extreme r true n.val k.val idx r.lc)
    ∧ goes (.eMiniP c n k idx mv) (.mini n k idx true mv) (fun r => extreme r true n.val k.val idx (r.p.getD mv.xptr.val 0)))
  ∧ (∀ (r : ERegs) (n : Nat) (x : Int) (cf : Bool), n < r.a.length →
    let q := (putResult r n x cf).1
    let fits : Bool := if r.mr.getLsbD 2 then decide (-(2 ^ 47) ≤ x ∧ x ≤ 2 ^ 47 - 1) else decide (-(2 ^ 55) ≤ x ∧ x ≤ 2 ^ 55 - 1)
    (fits = true → accInt (q.acc n) = x)
    ∧ (r.mr.getLsbD 2 = true → 2 ^ 47 ≤ x → accInt (q.acc n) = 2 ^ 47 - 1)
    ∧ (r.mr.getLsbD 2 = true → x < -(2 ^ 47) → accInt (q.acc n) = -(2 ^ 47))
    ∧ (r.mr.getLsbD 2 = false → ∃ m : Int, accInt (q.acc n) = x + m * 2 ^ 56)
    ∧ q.flags.v = !fits ∧ q.flags.c = cf ∧ (q.flag 4 = (r.flag 4 || !fits))
    ∧ q.flags.z = decide (accInt (q.acc n) = 0) ∧ q.flags.n = decide (accInt (q.acc n) < 0)
    ∧ q.flags.g = decide (accInt (q.acc n) < -(2 ^ 47) ∨ 2 ^ 47 ≤ accInt (q.acc n))
    ∧ q.flag 7 = r.flag 7
    ∧ (∀ m, m ≠ n → q.acc m = r.acc m)
    ∧ q = { r with a := q.a
                   sr := q.sr })

/-- What the moves of a PA instruction do, whatever its arithmetic makes of the registers: with no move the program goes on; a move whose
pointer or address is not legal stops the task before any effect; moves to and from the core's own X and Y memory read the registers
before the instruction and write after its arithmetic, each pointer follows its move's mode, and a move of a whole accumulator that
limits sets VS and one that is large sets SC; a read of X through a window stalls until the data return, and a write of DMA_GO while
four descriptors are outstanding stalls too (07 R208, R211-R215, R220, R221, 08 R235, R238). -/
def Obligations.EddyParallelMoves : Prop :=
  ∀ (c : Nat) (ins : EIns) (mv : PMoves) (f : ERegs → Arith) (s : State),
    let r := (s.core c).regs
    let code (m : PMove) : Nat := if m.reg.toNat < 8 then m.reg.toNat else 49 + m.reg.toNat
    let px (m : PMove) : Nat := m.ptr.val
    let py (m : PMove) : Nat := m.ptr.val + 4
    let ok (m : Option PMove) (p : PMove → Nat) : Prop :=
      ∀ x, m = some x → r.ptrBad (p x) = false ∧ (r.p.getD (p x) 0).toNat < 0x4000
    let moves : List (Bool × PMove) := (match mv.x with | some m => [(false, m)] | none => []) ++ (match mv.y with | some m => [(true, m)] | none => [])
    let accs := moves.map fun m => State.pmoveAcc r m.1 m.2
    let waits : Bool := accs.any fun a => !a.write && s.readWaits c a.spaceY a.addr
    let refused := moves.findSome? fun m => if m.2.write then s.goDenied c (State.pmoveAcc r m.1 m.2) (r.read (code m.2)).1 else none
    (∀ e, s.accFault c accs = some e → s.runPA c false ins mv f = s.taskFault c e r.pc.toNat)
    ∧ (s.accFault c accs = none → s.goWaits c accs = true → s.runPA c false ins mv f = s.stallOn c 5 ins)
    ∧ (s.accFault c accs = none → s.goWaits c accs = false → waits = true → s.runPA c false ins mv f = s.stallOn c 4 ins)
    ∧ (s.accFault c accs = none → s.goWaits c accs = false → waits = false →
      (∀ e, refused = some e → s.runPA c false ins mv f = s.taskFault c e r.pc.toNat)
      ∧ (refused = none →
        let a := (f r).1.setFlags (f r).1.flags false (moves.any fun m => m.2.write && (r.read (code m.2)).2.1)
          (moves.any fun m => m.2.write && (r.read (code m.2)).2.2)
        let z := moves.foldl (fun (x : State × ERegs) m =>
          let p := m.2.ptr.val + (if m.1 then 4 else 0)
          let at_ := (r.p.getD p 0).toNat
          if m.2.write then (x.1.memWrite c m.1 at_ (r.read (code m.2)).1, x.2.setPtr p (r.postMod p m.2.mode))
          else ((x.1.memRead c m.1 at_).2, (x.2.write (code m.2) (x.1.memRead c m.1 at_).1).setPtr p (r.postMod p m.2.mode))) (s, a)
        s.runPA c false ins mv f = z.1.stepOn c z.2 1))
    ∧ (mv.x = none → mv.y = none → s.runPA c false ins mv f = s.stepOn c ((f r).1.setFlags (f r).1.flags false false false) 1)
    ∧ (∀ m, mv.x = some m → r.ptrBad (px m) = true → s.runPA c false ins mv f = s.taskFault c 8 r.pc.toNat)
    ∧ (∀ m, mv.x = none → mv.y = some m → r.ptrBad (py m) = true → s.runPA c false ins mv f = s.taskFault c 8 r.pc.toNat)
    ∧ (∀ m, mv.x = none → mv.y = some m → r.ptrBad (py m) = false →
        (let a := (r.p.getD (py m) 0).toNat; 0x4000 ≤ a ∧ a < 0x7F00 ∨ 0x8000 ≤ a) →
        s.runPA c false ins mv f = s.taskFault c 4 r.pc.toNat)
    ∧ (∀ m, mv.x = some m → mv.y = none → r.ptrBad (px m) = false → m.write = false →
        (let a := (r.p.getD (px m) 0).toNat; 0x4000 ≤ a ∧ a < 0x8000 ∧ s.winFault c a = none ∧ s.winLatched c a = none) →
        s.runPA c false ins mv f = s.stallOn c 4 ins)
    ∧ (ok mv.x px → ok mv.y py →
      let stores (m : Option PMove) : Bool := match m with | some x => x.write | none => false
      let limits (m : Option PMove) (g : Q23 × Bool × Bool → Bool) : Bool := match m with
        | some x => x.write && g (r.read (code x))
        | none => false
      let side (m : Option PMove) (p : PMove → Nat) (mem : Cells 24) (q : ERegs) : ERegs := match m with
        | some x => (if x.write then q else q.write (code x) (cellGet mem (r.p.getD (p x) 0).toNat)).setPtr (p x)
            (r.postMod (p x) x.mode)
        | none => q
      let put (m : Option PMove) (p : PMove → Nat) (mem : Cells 24) : Cells 24 := match m with
        | some x => if x.write then cellSet mem (r.p.getD (p x) 0).toNat (r.read (code x)).1 else mem
        | none => mem
      let a := (f r).1.setFlags (f r).1.flags false (limits mv.x (·.2.1) || limits mv.y (·.2.1))
        (limits mv.x (·.2.2) || limits mv.y (·.2.2))
      let t := if stores mv.x || stores mv.y then s.modCore c fun k => { k with
          x := put mv.x px k.x
          y := put mv.y py k.y } else s
      s.runPA c false ins mv f = t.stepOn c (side mv.y py (s.core c).y (side mv.x px (s.core c).x a)) 1)

/-- The single moves: a register from the core's own memory and to it, through a pointer and at an address; between registers, whole
accumulators keeping all their bits; a shared word through a window stalls before it is read; the control page gives the low half of the
time, and a store to DMA_GO submits the descriptor that the registers of the page hold, waits while four are outstanding, or stops the
task (07 R207, R211-R221, 08 R240). -/
def Obligations.EddySingleMoves : Prop :=
  ∀ (c : Nat) (a : PtrRef) (k rs : BitVec 6) (ad : Half) (y : Bool) (s : State), s.Runs c → k.toNat ≤ 60 →
    let r := (s.core c).regs
    let p := a.ptr.val
    let at_ : Nat := (if a.idx then r.next p (r.mod p) else r.p.getD p 0).toNat
    let after (q : ERegs) : ERegs := if a.idx then q else q.setPtr p (r.postMod p a.mode)
    let mem (z : Bool) : Cells 24 := if z then (s.core c).y else (s.core c).x
    let put (z : Bool) (b : Nat) : State := s.modCore c fun x =>
      if z then { x with y := cellSet x.y b (r.read k.toNat).1 } else { x with x := cellSet x.x b (r.read k.toNat).1 }
    let moved (q : ERegs) : ERegs := q.setFlags r.flags false (r.read k.toNat).2.1 (r.read k.toNat).2.2
    let out := r.read k.toNat
    let loads (cmd : Instr) (ins : EIns) (at1 : State.Acc1) (post : ERegs → ERegs) : Prop :=
      (∀ e, s.accFault c [at1] = some e → exec cmd s = .next (s.taskFault c e r.pc.toNat))
      ∧ (s.accFault c [at1] = none → s.readWaits c at1.spaceY at1.addr = true → exec cmd s = .next (s.stallOn c 4 ins))
      ∧ (s.accFault c [at1] = none → s.readWaits c at1.spaceY at1.addr = false →
        let t := s.memRead c at1.spaceY at1.addr
        exec cmd s = .next (t.2.stepOn c ((post (t.2.core c).regs).write k.toNat t.1) 1))
    let stores (cmd : Instr) (ins : EIns) (at1 : State.Acc1) (post : ERegs → ERegs) : Prop :=
      (∀ e, s.accFault c [at1] = some e → exec cmd s = .next (s.taskFault c e r.pc.toNat))
      ∧ (s.accFault c [at1] = none → s.goWaits c [at1] = true → exec cmd s = .next (s.stallOn c 5 ins))
      ∧ (s.accFault c [at1] = none → s.goWaits c [at1] = false →
        (∀ e, s.goDenied c at1 out.1 = some e → exec cmd s = .next (s.taskFault c e r.pc.toNat))
        ∧ (s.goDenied c at1 out.1 = none →
          exec cmd s = .next ((s.memWrite c at1.spaceY at1.addr out.1).stepOn c (moved (post r)) 1)))
    let throughPtr (w : Bool) : State.Acc1 := {
      spaceY := a.spaceY
      addr := at_
      ptr := some p
      write := w }
    let atAddress (w : Bool) : State.Acc1 := {
      spaceY := y
      addr := ad.toNat
      write := w }
    ((a.idx = true → a.mode = 0) → loads (.eLdPointer c a k) (.ldp a k) (throughPtr false) after
      ∧ stores (.eStPointer c a k) (.stp a k) (throughPtr true) after)
    ∧ loads (.eLdAbsolute c y k ad) (.lda y k ad) (atAddress false) id ∧ stores (.eStAbsolute c y k ad) (.sta y k ad) (atAddress true) id
    ∧ ((a.idx = true → a.mode = 0) →
      (r.ptrBad p = true → exec (.eLdPointer c a k) s = .next (s.taskFault c 8 r.pc.toNat)
        ∧ exec (.eStPointer c a k) s = .next (s.taskFault c 8 r.pc.toNat))
      ∧ (r.ptrBad p = false → at_ < 0x4000 →
        exec (.eLdPointer c a k) s = .next (s.stepOn c ((after r).write k.toNat (cellGet (mem a.spaceY) at_)) 1)
        ∧ exec (.eStPointer c a k) s = .next ((put a.spaceY at_).stepOn c (moved (after r)) 1))
      ∧ (r.ptrBad p = false → a.spaceY = false → 0x4000 ≤ at_ → at_ < 0x8000 → s.winFault c at_ = none →
        (s.winLatched c at_ = none → exec (.eLdPointer c a k) s = .next (s.stallOn c 4 (.ldp a k)))
        ∧ exec (.eStPointer c a k) s = .next ((s.winWrite c at_ (r.read k.toNat).1).stepOn c (moved (after r)) 1)))
    ∧ (ad.toNat < 0x4000 →
      exec (.eLdAbsolute c y k ad) s = .next (s.stepOn c (r.write k.toNat (cellGet (mem y) ad.toNat)) 1)
      ∧ exec (.eStAbsolute c y k ad) s = .next ((put y ad.toNat).stepOn c (moved r) 1))
    ∧ (0x4000 ≤ ad.toNat → ad.toNat < 0x8000 → s.winFault c ad.toNat = none →
      (s.winLatched c ad.toNat = none → exec (.eLdAbsolute c false k ad) s = .next (s.stallOn c 4 (.lda false k ad)))
      ∧ exec (.eStAbsolute c false k ad) s = .next ((s.winWrite c ad.toNat (r.read k.toNat).1).stepOn c (moved r) 1))
    ∧ ((0x4000 ≤ ad.toNat ∧ ad.toNat < 0x7F00 ∨ 0x8000 ≤ ad.toNat) →
      exec (.eLdAbsolute c true k ad) s = .next (s.taskFault c 4 r.pc.toNat)
      ∧ exec (.eStAbsolute c true k ad) s = .next (s.taskFault c 4 r.pc.toNat))
    ∧ (0x7F00 ≤ ad.toNat → ad.toNat < 0x8000 → ad.toNat ≠ 0x7F23 →
      exec (.eLdAbsolute c true k ad) s = .next ((s.pageRead c ad.toNat).2.stepOn c
        (((s.pageRead c ad.toNat).2.core c).regs.write k.toNat (s.pageRead c ad.toNat).1) 1)
      ∧ exec (.eStAbsolute c true k ad) s = .next ((s.pageWrite c ad.toNat (r.read k.toNat).1).stepOn c (moved r) 1))
    ∧ (exec (.timeLoRead c k) s = .next ((s.modCore c fun x => { x with timeHi := BitVec.ofNat 24 (s.now / 2 ^ 24) }).stepOn c
        (((s.modCore c fun x => { x with timeHi := BitVec.ofNat 24 (s.now / 2 ^ 24) }).core c).regs.write k.toNat (BitVec.ofNat 24 s.now)) 1))
    ∧ (let d := State.descOf (s.core c) (r.read k.toNat).1
      let denied := State.descFault d
      (4 ≤ (s.core c).descs.length → exec (.controlPageDmaGo c k) s = .next (s.stallOn c 5 (.sta true k 0x7F23)))
      ∧ ((s.core c).descs.length < 4 → ∀ e, denied = some e → exec (.controlPageDmaGo c k) s = .next (s.taskFault c e r.pc.toNat))
      ∧ ((s.core c).descs.length < 4 → denied = none → exec (.controlPageDmaGo c k) s =
          .next ((s.modCore c fun x => { x with descs := x.descs ++ [d] }).stepOn c (moved r) 1)))
    ∧ (rs.toNat ≤ 60 →
      (57 ≤ k.toNat → 57 ≤ rs.toNat → exec (.eMov c k rs) s =
        .next (s.stepOn c (r.setAcc (k.toNat - 57) (r.acc (rs.toNat - 57))) 1))
      ∧ (k.toNat < 57 ∨ rs.toNat < 57 → exec (.eMov c k rs) s =
        .next (s.stepOn c ((r.setFlags r.flags false (r.read rs.toNat).2.1 (r.read rs.toNat).2.2).write k.toNat (r.read rs.toNat).1) 1)))

/-- The immediate and pointer instructions (07 R213, R214, 08 R241-R243): constants loaded whole, as an integer and as a fraction; an
immediate at the main word's place added and compared; a pointer moved by an immediate or by its modifier; logic on a data register; and
normal form, whose count goes to a data register and which loses nothing when it shifts left. -/
def Obligations.EddyImmediates : Prop :=
  ∀ (c : Nat) (k : BitVec 6) (n : Fin 4) (d p : Fin 8) (v : Half) (w : Q23) (s : State), s.Runs c →
    let r := (s.core c).regs
    let x := accInt (r.acc n.val)
    let im : Int := signed 16 v.toNat * 2 ^ 32
    (k.toNat ≤ 60 →
      exec (.eLdi c k w) s = .next (s.stepOn c (r.write k.toNat w) 1)
      ∧ exec (.eLdis c k v) s = .next (s.stepOn c (r.write k.toNat (BitVec.ofInt 24 v.toInt)) 1))
    ∧ (k.toNat < 8 ∨ 57 ≤ k.toNat ∧ k.toNat ≤ 60 →
      exec (.eLdif c k v) s = .next (s.stepOn c (r.write k.toNat (v ++ (0 : Byte))) 1))
    ∧ exec (.eAddi c n v) s = .next (s.stepOn c (putResult r n.val (x + im) (carryAdd x im)).1 1)
    ∧ exec (.eCmpi c n v) s = .next (s.stepOn c (cmpResult r (x - im) (borrowSub x im)).1 1)
    ∧ (r.ptrBad p.val = true →
      exec (.ePadd c p v) s = .next (s.taskFault c 8 r.pc.toNat) ∧ exec (.ePmod c p) s = .next (s.taskFault c 8 r.pc.toNat))
    ∧ (r.ptrBad p.val = false →
      exec (.ePadd c p v) s = .next (s.stepOn c (r.setPtr p.val (r.next p.val v.toInt)) 1)
      ∧ exec (.ePmod c p) s = .next (s.stepOn c (r.setPtr p.val (r.next p.val (r.m.getD p.val 0).toInt)) 1))
    ∧ (let lg (u : Q23) : ERegs := (r.setData d.val u).setFlags { r.flags with z := u == 0, n := u.getLsbD 23 } false false false
      exec (.eAndi c d v) s = .next (s.stepOn c (lg (r.data d.val &&& v.setWidth 24)) 1)
      ∧ exec (.eOri c d v) s = .next (s.stepOn c (lg (r.data d.val ||| v.setWidth 24)) 1))
    ∧ exec (.eNorm c n d) s = .next (s.stepOn c (normalForm r n.val d.val).1 2)
    ∧ (∀ sh : Nat, 1 ≤ sh → x ≠ 0 →
        -(2 ^ 47) ≤ x * 2 ^ sh → x * 2 ^ sh < 2 ^ 47 → (x * 2 ^ (sh + 1) < -(2 ^ 47) ∨ 2 ^ 47 ≤ x * 2 ^ (sh + 1)) →
        n.val < r.a.length → d.val < r.d.length →
        let q := (normalForm r n.val d.val).1
        accInt (q.acc n.val) = x * 2 ^ sh ∧ q.data d.val = BitVec.ofNat 24 sh)

/-- Program control, waits, posts and semaphores (07 R225, R228-R230, 08 R244-R250): a control instruction at the end of an active loop
stops the task; a loop of no passes goes on behind its end, and a fifth loop stops the task; a jump goes to an address of the loaded
image and any other stops the task; an acquire of a semaphore that another core owns waits, and a release by another than its owner
stops the task. -/
def Obligations.EddyControlAndWaits : Prop :=
  ∀ (c : Nat) (cnt : BitVec 10) (e addr : BitVec 14) (k : BitVec 6) (cond : BitVec 4) (n : Fin 8) (ev : BitVec 3) (pair : BitVec 2)
    (dly : Bool) (t : BitVec 3) (sem : Fin 64) (s : State), s.Runs c →
    let r := (s.core c).regs
    let pc := r.pc.toNat
    let atEnd : Prop := ∃ l ∈ r.stack, l.2.1 = r.pc
    let looped (m : Nat) (q : State) : Prop :=
      (atEnd → q = s.taskFault c 2 pc)
      ∧ (¬ atEnd →
        (e.toNat ≤ pc → q = s.taskFault c 2 pc)
        ∧ (pc < e.toNat → 4 ≤ r.stack.length → q = s.taskFault c 7 pc)
        ∧ (pc < e.toNat → r.stack.length < 4 → m = 0 → q = s.complete c r 2 (e.toNat + 1))
        ∧ (pc < e.toNat → r.stack.length < 4 → m ≠ 0 → q = s.complete c { r with
            stack := (BitVec.ofNat 14 (pc + 1), e, BitVec.ofNat 16 m) :: (match r.stack with
              | l :: rest => (l.1, l.2.1, r.lc) :: rest
              | [] => [])
            lc := BitVec.ofNat 16 m } 2 (pc + 1)))
    let jumped (q : ERegs) (a : Nat) : State := if State.inImage (s.core c) a then s.complete c q 2 a else s.taskFault c 3 pc
    let turn (cmd : Instr) (q : State) : Prop := (atEnd → exec cmd s = .next (s.taskFault c 2 pc)) ∧ (¬ atEnd → exec cmd s = .next q)
    (∃ q, exec (.eLoop c cnt e) s = .next q ∧ looped cnt.toNat q)
    ∧ (k.toNat ≤ 60 → ∃ q, exec (.eLoopr c k e) s = .next q ∧ looped ((r.read k.toNat).1.toNat % 2 ^ 16) q)
    ∧ turn (.eLexit c) (if r.stack = [] then s.taskFault c 7 pc else s.complete c r.popLoop 1 (pc + 1))
    ∧ turn (.eGoto c addr) (jumped r addr.toNat)
    ∧ (cond ≠ 15 → turn (.eGotoCond c cond addr) (if r.holds cond.toNat then jumped r addr.toNat else s.complete c r 1 (pc + 1)))
    ∧ turn (.eLink c addr n) (jumped (r.setPtr n.val (BitVec.ofNat 16 (pc + 1))) addr.toNat)
    ∧ turn (.eRet c n) (if 0x4000 ≤ (r.p.getD n.val 0).toNat then s.taskFault c 3 pc else jumped r (r.p.getD n.val 0).toNat)
    ∧ exec (.eDone c) s = .next ((s.modCore c fun x => { x with steps := x.steps + 1 }).beginEnd c true)
    ∧ (ev.toNat < 6 → exec (.eWaitcy c ev) s = .next (s.modCore c fun x => { x with
        state := .wait
        waitKind := 1
        stall := some (.waitcy ev) }))
    ∧ (k.toNat ≤ 60 →
      let f := (r.read k.toNat).1.toNat % 2 ^ 10
      let arg : BitVec 48 := r.data (2 * pair.toNat + 1) ++ r.data (2 * pair.toNat)
      let dt : Option Nat := if dly then some (r.data t.toNat).toNat else none
      ((s.flow f).exist = false → exec (.ePost c k pair dly t) s = .next (s.stepOn c (State.ERegs.setZ r false) 2))
      ∧ ((s.flow f).exist = true → s.flowRoom f = true →
        exec (.ePost c k pair dly t) s = .next ((s.postTask f arg dt).stepOn c (State.ERegs.setZ r true) 2))
      ∧ ((s.flow f).exist = true → s.flowRoom f = false →
        exec (.ePost c k pair dly t) s = .next ((s.hold f (.core c f arg dt)).stallOn c 2 (.post k pair dly t))))
    ∧ (let owner := s.eddy.sems.getD sem.val none
      let own : State := { s with eddy := { s.eddy with sems := updAt s.eddy.sems sem.val fun _ => some c } }
      (owner = none → exec (.eSemAcquire c sem) s = .next (own.stepOn c r 1))
      ∧ (owner = some c → exec (.eSemAcquire c sem) s = .next (s.stepOn c r 1))
      ∧ (∀ o, owner = some o → o ≠ c → exec (.eSemAcquire c sem) s =
          .next (({ s with eddy := { s.eddy with semWait := State.insertWait (sem.val, s.now, c) s.eddy.semWait } } : State).stallOn c 3
            (.semAcquire sem)))
      ∧ (owner = none ∨ owner = some c → exec (.eSemTry c sem) s = .next (own.stepOn c (State.ERegs.setZ r true) 1))
      ∧ (∀ o, owner = some o → o ≠ c → exec (.eSemTry c sem) s = .next (s.stepOn c (State.ERegs.setZ r false) 1))
      ∧ (owner = some c → exec (.eSemRelease c sem) s = .next ((s.freeSem sem.val).stepOn c r 1))
      ∧ (owner ≠ some c → exec (.eSemRelease c sem) s = .next (s.taskFault c 10 pc)))

/-- The block search reads words until it has them all or one faults, stalling first where they lie behind a window; Z, N, G and H
follow the accumulator, V is 0, and it takes two steps more than it reads words. In the core's own memory, word after word, it finds
the first largest or smallest word: the accumulator takes it as a whole value, I0 its index, and the pointer ends behind the block (08
R251). -/
def Obligations.EddyBlockSearch : Prop :=
  ∀ (c : Nat) (minimum : Bool) (n : Fin 4) (y byM : Bool) (p : Fin 8) (count : BitVec 14) (s : State), s.Runs c →
    let r := (s.core c).regs
    let m : Nat := if count = 0 then 16384 else count.toNat
    let start := (r.p.getD p.val 0).toNat
    let word (i : Nat) : Int := (cellGet (if y then (s.core c).y else (s.core c).x) (start + i)).toInt
    let before (a b : Int) : Prop := if minimum then a < b else b < a
    let cmd : Instr := if minimum then .eVmin c n y p byM count else .eVmax c n y p byM count
    let waits : Bool := s.readWaits c y start && (s.accessFault c y start).isNone
    (waits = true → exec cmd s = .next (s.stallOn c 4 (.vext minimum n y p byM count)))
    ∧ (waits = false →
      let z := State.scan c minimum n.val y p.val byM m 0 s
      (∀ e, z.2 = some e → exec cmd s = .next (z.1.taskFault c e r.pc.toNat))
      ∧ (z.2 = none → let q := (z.1.core c).regs
        exec cmd s = .next (z.1.stepOn c (q.setFlags { resultFlags q.flags (q.acc n.val) with v := false } false false false) (m + 2))))
    ∧ (c < s.eddy.cores.length →
    r.mr.getLsbD (8 + p.val) = false → r.l.getD p.val 0 = 0 → n.val < r.a.length → p.val < r.p.length → start + m ≤ 0x4000 →
    ∃ best, best < m ∧ (∀ i, i < m → ¬ before (word i) (word best)) ∧ (∀ i, i < best → before (word best) (word i)) ∧
      let a := toAcc (word best * 2 ^ 24)
      let q : ERegs := { (r.setAcc n.val a).setPtr p.val (BitVec.ofNat 16 (start + m)) with i0 := BitVec.ofNat 16 best }
      byM = false → exec cmd s =
        .next ((s.modCore c fun x => { x with
          regs := q }).stepOn c (q.setFlags { resultFlags r.flags a with v := false } false false false) (m + 2)))

/-- What happens to a core beside its instructions: an awaited event shows its cycle number and the task goes on; a post that was held
and has been served, or a semaphore that was granted, lets its core go on; a window's data or room for a descriptor repeats the stalled
instruction; a task that has drained is over; a task past its limit is stopped, a block search between two words; a write of EDY_CTRL
steps a core that is halted, halts one between instructions, and lets one go on (07 R220-R222, R225-R230, 08 R252). -/
def Obligations.EddyCoreEvents : Prop :=
  ∀ (c sem : Nat) (v : Word) (s : State),
    let x := s.core c
    (x.state = .wait → x.waitKind = 1 → exec (.waitcyReturn c) s =
      .next ((s.modCore c fun k => { k with waitCycle := BitVec.ofNat 64 s.k }).stepOn c x.regs 1))
    ∧ (x.state ≠ .wait ∨ x.waitKind ≠ 1 → exec (.waitcyReturn c) s = .next s)
    ∧ (∀ z, (s.retryHeld.core c).posted = some z → (s.retryHeld.core c).state = .wait → (s.retryHeld.core c).waitKind = 2 →
      exec (.postStallEnd c) s = .next (s.retryHeld.stepOn c (State.ERegs.setZ (s.retryHeld.core c).regs z) 2))
    ∧ ((s.retryHeld.core c).posted = none → exec (.postStallEnd c) s = .next s.retryHeld)
    ∧ ((s.retryHeld.core c).state ≠ .wait ∨ (s.retryHeld.core c).waitKind ≠ 2 → exec (.postStallEnd c) s = .next s.retryHeld)
    ∧ (let u := if s.eddy.sems.getD sem none = none then s.freeSem sem else s
      (∀ w o, u.eddy.semWait.find? (fun q => q.1 == sem) = some w → u.eddy.sems.getD sem none = some o →
        (w.2.2 = o → exec (.semGrant sem) s = .next (({ u with eddy := { u.eddy with semWait := u.eddy.semWait.erase w } } : State).stepOn o
          (u.core o).regs 1))
        ∧ (w.2.2 ≠ o → exec (.semGrant sem) s = .next u))
      ∧ (u.eddy.semWait.find? (fun q => q.1 == sem) = none ∨ u.eddy.sems.getD sem none = none → exec (.semGrant sem) s = .next u))
    ∧ (∀ i, x.stall = some i → x.state = .wait → x.waitKind = 4 → exec (.windowReadReturn c) s =
      .next ((s.modCore c fun k => { k with state := .run }).run c true i))
    ∧ (x.stall = none ∨ x.state ≠ .wait ∨ x.waitKind ≠ 4 → exec (.windowReadReturn c) s = .next s)
    ∧ (let u : State := match x.descs with
        | [] => s
        | d :: rest => (runAll (State.dmaWord c d) (List.range d.count.toNat) s).modCore c fun k => { k with
          descs := rest
          dmaDone := k.dmaDone + 1 }
      ((u.core c).stall = none ∨ (u.core c).state ≠ .wait ∨ (u.core c).waitKind ≠ 5 ∨ 4 ≤ (u.core c).descs.length →
        exec (.dmaDescriptorDone c) s = .next u)
      ∧ (∀ i, (u.core c).stall = some i → (u.core c).state = .wait → (u.core c).waitKind = 5 → (u.core c).descs.length < 4 →
        exec (.dmaDescriptorDone c) s = .next ((u.modCore c fun k => { k with state := .run }).run c true i)))
    ∧ (x.ending = false ∨ x.descs ≠ [] → exec (.taskEnd c) s = .next s)
    ∧ (x.ending = true → x.descs = [] →
      let u := s.releaseAll c
      let w := (match x.flow with | some f => u.freeFlow f | none => u).modCore c fun k => { k with
        state := .idle
        waitKind := 0
        ending := false
        flow := none
        idleSince := (match x.flow with | some f => u.freeFlow f | none => u).now
        busy := k.busy + BitVec.ofNat 64 ((match x.flow with | some f => u.freeFlow f | none => u).now - k.started)
        cntDone := if k.endCounts then k.cntDone + 1 else k.cntDone }
      ((w.core c).uncorr = true → exec (.taskEnd c) s = .next (w.modCore c fun k => { k with
        state := .faulted
        uncorr := false }))
      ∧ ((w.core c).uncorr = false → (w.core c).parkPending = true → exec (.taskEnd c) s = .next (w.parkCore c))
      ∧ ((w.core c).uncorr = false → (w.core c).parkPending = false → (w.core c).haltReq = true →
        exec (.taskEnd c) s = .next (w.enterHalt c .idle))
      ∧ ((w.core c).uncorr = false → (w.core c).parkPending = false → (w.core c).haltReq = false → exec (.taskEnd c) s = .next w))
    ∧ (x.ending = false → x.flow ≠ none → x.state = .wait → s.rtLimit c ≤ s.taskTime c →
      exec (.runtimeLimit c) s = .next (s.taskFault c 1 x.regs.pc.toNat))
    ∧ (x.ending = false → x.flow ≠ none → x.state = .run → s.rtLimit c ≤ s.taskTime c →
        (∀ m n y p b k, decodeIns (cellGet x.prog x.regs.pc.toNat) ≠ .vext m n y p b k) →
      exec (.runtimeLimit c) s = .next (s.taskFault c 1 x.regs.pc.toNat))
    ∧ (x.ending = false → x.flow ≠ none → x.state = .run → s.rtLimit c ≤ s.taskTime c →
        ∀ m n y p b k, decodeIns (cellGet x.prog x.regs.pc.toNat) = .vext m n y p b k →
      exec (.runtimeLimit c) s = .next ((State.scan c m n.val y p.val b ((s.free 14).1.toNat % State.scanCount k) 0 (s.free 14).2).1.taskFault c 1
        x.regs.pc.toNat))
    ∧ (x.ending = true ∨ x.flow = none ∨ s.taskTime c < s.rtLimit c ∨ (x.state ≠ .run ∧ x.state ≠ .wait) → exec (.runtimeLimit c) s = .next s)
    ∧ (s.nCores ≤ c → exec (.edyHalt c v) s = .next s ∧ exec (.edyStep c v) s = .next s)
    ∧ (c < s.nCores →
      let stepped : State := if v.getLsbD 1 = true ∧ x.state = .halted ∧ x.haltedFrom = .run then
          if State.inImage x x.regs.pc.toNat then
            (s.leaveHalt c .run).run c false (decodeIns (cellGet x.prog x.regs.pc.toNat))
          else (s.leaveHalt c .run).taskFault c 3 x.regs.pc.toNat
        else s
      let k := stepped.core c
      let t := stepped.modCore c fun q => { q with haltReq := v.getLsbD 0 }
      let halts (u : State) : Prop := exec (.edyHalt c v) s = .next u ∧ exec (.edyStep c v) s = .next u
      (v.getLsbD 0 = true → (k.state = .run → halts (t.enterHalt c .run)) ∧ (k.state = .idle → halts (t.enterHalt c .idle))
        ∧ (k.state ≠ .run → k.state ≠ .idle → halts t))
      ∧ (v.getLsbD 0 = false →
        (k.state ≠ .halted → halts t)
        ∧ (k.state = .halted → k.haltedFrom = .run → halts ((t.leaveHalt c .run).fetch c k.regs.pc.toNat))
        ∧ (k.state = .halted → k.haltedFrom ≠ .run → k.parkPending = true → halts ((t.leaveHalt c .idle).parkCore c))
        ∧ (k.state = .halted → k.haltedFrom ≠ .run → k.parkPending = false → halts (t.leaveHalt c .idle))))

/-- Feedback of a local port: a quadrature edge counts one step of the travel order, in the direction COUNT_INV gives, and an edge that
skips a state counts nothing, sets the flag and counts as illegal; an index sets the reference the first time and afterwards compares,
correcting the position where IDX_ACT says so; a serial frame starts before the sample instant; when it fails it leaves the position
as it was, and when it is good the position takes the shortest way to its count, extrapolated where the port says so; a stuck modulator sets its flag; a full step moves the count by its microsteps (11 R309-R312, R314-R319, R335, R337). -/
def Obligations.LocalFeedback : Prop :=
  ∀ (n ch ns delay5 : Nat) (a b dir crcOk : Bool) (data : DWord) (s : State),
    let p := s.lport n
    (s.nLocal ≤ n → exec (.quadratureEdge n a b) s = .next s ∧ exec (.indexEvent n) s = .next s ∧ exec (.serialFrameStart n) s = .next s
      ∧ exec (.serialFrameEnd n crcOk dir data delay5) s = .next s ∧ exec (.stepInputEdge n dir ns) s = .next s)
    ∧ (s.nLocal ≤ n ∨ 3 ≤ ch → exec (.sdStuck n ch) s = .next s)
    ∧ (n < s.nLocal →
    let cpr := (p.cfg.getD 2 0).toNat
    let expect := (p.cfg.getD 3 0).toNat
    let t := s.modLPort n fun q => { State.setPin (State.setPin q 0 a) 1 b with fbk := { q.fbk with
      a := a
      b := b } }
    let turn := (State.quadPhase a b + 4 - State.quadPhase p.fbk.a p.fbk.b) % 4
    (turn = 0 → exec (.quadratureEdge n a b) s = .next t)
    ∧ (turn = 2 → exec (.quadratureEdge n a b) s = .next ((t.modLPort n fun q => { q with fbk := { q.fbk with
        stat := q.fbk.stat ||| 1
        illegal := q.fbk.illegal + 1 } }).flagPort n flagIllegal))
    ∧ (turn = 1 ∨ turn = 3 →
      let neg : Bool := decide (turn = 3) != decide (p.fld 1 4 1 = 1)
      let u := t.modLPort n fun q => { q with fbk := State.hysteresis { q.fbk with
        raw := if neg then q.fbk.raw - 1 else q.fbk.raw + 1
        revpos := if neg then (q.fbk.revpos + max 1 (q.cfg.getD 2 0).toNat - 1) % max 1 (q.cfg.getD 2 0).toNat
          else (q.fbk.revpos + 1) % max 1 (q.cfg.getD 2 0).toNat } }
      (u.axisOf n = none → exec (.quadratureEdge n a b) s = .next u)
      ∧ (∀ i, u.axisOf n = some i → exec (.quadratureEdge n a b) s = .next (State.emuRun
          (u.comparesAtPin i ((u.axis i).coord p.fbk.filt) ((u.axis i).coord (u.lport n).fbk.filt)).now n
          (u.comparesAtPin i ((u.axis i).coord p.fbk.filt) ((u.axis i).coord (u.lport n).fbk.filt)))))
    ∧ (let home := fun (u : State) => match u.axisOf n with
          | some i => u.homeIndex i (u.lport n).fbk.filt
          | none => u
      let d := State.indexDelta p.fbk.revpos expect cpr
      let act := p.fld 1 12 2
      let seen := (s.modLPort n fun q => { q with fbk := { q.fbk with
        stat := q.fbk.stat ||| 2
        mismatch := q.fbk.mismatch + 1
        idxDelta := BitVec.ofInt 32 d } }).flagPort n flagIndexMismatch
      let put := seen.modLPort n fun q => { q with fbk := { q.fbk with
        raw := q.fbk.raw - BitVec.ofInt 32 d
        filt := q.fbk.filt - BitVec.ofInt 32 d
        revpos := expect } }
      (p.fbk.referenced = false → exec (.indexEvent n) s = .next (home (s.modLPort n fun q => { q with fbk := { q.fbk with
        revpos := expect
        referenced := true } })))
      ∧ (p.fbk.referenced = true →
        (act = 0 ∨ d = 0 → exec (.indexEvent n) s = .next (home s))
        ∧ (act = 1 → d ≠ 0 → exec (.indexEvent n) s = .next (home seen))
        ∧ (act = 2 → d ≠ 0 → exec (.indexEvent n) s = .next (home put))
        ∧ (act = 3 → d ≠ 0 → exec (.indexEvent n) s = .next (home (put.latchFault n 4)))))
    ∧ (p.serial = true → p.func ≠ 0 → exec (.serialFrameStart n) s = .next (s.modLPort n fun q => { q with fbk := { q.fbk with
        serBusy := true
        lead := Config.frameNs (p.cfg.getD 4 0) (p.cfg.getD 5 0) p.fbk.serDly.toNat } }))
    ∧ (p.serial = false ∨ p.func = 0 → exec (.serialFrameStart n) s = .next s)
    ∧ (p.fbk.serBusy = false → ∀ started, exec (.serialFrameEnd n started crcOk data delay5) s = .next s)
    ∧ (p.fbk.serBusy = true →
      exec (.serialFrameEnd n false crcOk data delay5) s = .next (s.modLPort n fun q => { q with fbk := { q.fbk with
        serBusy := false
        serEnded := true
        serOk := false
        stat := q.fbk.stat ||| 0x10 } })
      ∧ (p.fld 4 0 1 = 1 → exec (.serialFrameEnd n true false data delay5) s = .next (s.modLPort n fun q => { q with fbk := { q.fbk with
        serBusy := false
        serEnded := true
        serOk := false
        stat := q.fbk.stat ||| 0x20 } }))
      ∧ (p.fld 4 0 1 ≠ 1 ∨ crcOk = true →
        let raw := data.toNat % 2 ^ p.fld 5 0 7
        let word := if p.fld 4 0 1 ≠ 1 ∧ p.fld 4 1 1 = 1 then State.grayDecode 6 raw else raw
        let w := p.fld 5 16 6
        let at_ := field word (p.fld 5 8 6) w
        let put (pos value : Word) (u : State) : State := u.modLPort n fun q => { q with fbk := { q.fbk with
          serBusy := false
          serEnded := true
          serOk := true
          serData := BitVec.ofNat 64 raw
          serQ := some at_
          serLast := some pos
          serP := value
          serDly := if p.fld 4 0 1 = 1 then BitVec.ofNat 9 delay5 else q.fbk.serDly } }
        (p.fbk.serQ = none ∨ p.fbk.serLast = none →
          exec (.serialFrameEnd n true crcOk data delay5) s = .next (put (BitVec.ofNat 32 at_) (BitVec.ofNat 32 at_) s))
        ∧ (∀ q0 last, p.fbk.serQ = some q0 → p.fbk.serLast = some last →
          let pos := last + BitVec.ofInt 32 (signed w (wrap w ((at_ : Int) - q0)))
          (p.fld 4 2 1 ≠ 1 → exec (.serialFrameEnd n true crcOk data delay5) s = .next (put pos pos s))
          ∧ (p.fld 4 2 1 = 1 → let z := s.extrapolated pos last p.fbk.lead
            exec (.serialFrameEnd n true crcOk data delay5) s = .next (put pos z.1 z.2)))))
    ∧ (ch < 3 → exec (.sdStuck n ch) s = .next (s.modLPort n fun q => { q with
        sdStuck := q.sdStuck ||| BitVec.ofNat 3 (2 ^ ch)
        fbk := { q.fbk with stat := q.fbk.stat ||| 0x40 } }))
    ∧ (p.func = 2 → p.step.stopped = false → exec (.stepInputEdge n dir ns) s = .next (s.modLPort n fun q => { q with step := { q.step with
        sn := if dir then q.step.sn + ((2 ^ p.fld 1 16 4 : Nat) : Int) else q.step.sn - ((2 ^ p.fld 1 16 4 : Nat) : Int)
        t := (ns :: q.step.t).take 3
        dirNeg := !dir
        same := if q.step.dirNeg = !dir then q.step.same + 1 else 1 } }))
    ∧ (p.func ≠ 2 ∨ p.step.stopped = true → exec (.stepInputEdge n dir ns) s = .next s))

/-- Faults and pulse width of a local port: a cause that acts latches, the first one posting PORT_FAULT, reaching the recorder and the
axis bound to the port, and one already latched posts nothing more; a clear is refused while a cause is present; at a period boundary
the held compares go over, a pending period waiting for all of its compares, the drive command is taken and short pulses are counted; a write of PWM_PERIOD on a synchronised port, or of a compare the current loop drives, is ignored and sets ERR (11
R320, R324-R330). -/
def Obligations.LocalFaultsAndPwm : Prop :=
  ∀ (n pair : Nat) (v : Word) (asserted : Bool) (s : State),
    let p := s.lport n
    let pin := s.modLPort n fun q => { State.setPin q 12 (!asserted) with pwm := { q.pwm with
      present := if asserted then q.pwm.present ||| 1 else q.pwm.present &&& ~~~1 } }
    (n < s.nLocal → p.func ≠ 0 → p.fld 10 16 16 ≠ 0 → exec (.overcurrent n) s = .next (s.latchFault n 2))
    ∧ (s.nLocal ≤ n ∨ p.func = 0 ∨ p.fld 10 16 16 = 0 → exec (.overcurrent n) s = .next s)
    ∧ (n < s.nLocal →
      (asserted = false ∨ (pin.lport n).func = 0 → exec (.faultN n asserted) s = .next pin)
      ∧ (asserted = true → (pin.lport n).func ≠ 0 → exec (.faultN n asserted) s = .next (pin.latchFault n 0)))
    ∧ exec (.gfaultN asserted) s = .next ((List.range s.nLocal).foldl (fun u m =>
        u.faultPin m 1 13 asserted ((u.lport m).fld 0 4 1 == 1)) s)
    ∧ (n < s.nLocal → p.fld 4 8 8 ≠ 0 → p.fld 4 8 8 ≤ p.fbLossRun → exec (.fbLoss n) s = .next (s.latchFault n 3))
    ∧ (s.nLocal ≤ n ∨ p.fld 4 8 8 = 0 ∨ p.fbLossRun < p.fld 4 8 8 → exec (.fbLoss n) s = .next s)
    ∧ (∀ cause, p.pwm.latched = true → s.latchFault n cause = s.modLPort n fun q => { q with pwm := { q.pwm with
        latched := true
        forced := true
        causes := q.pwm.causes ||| BitVec.ofNat 5 (2 ^ cause) } })
    ∧ (∀ cause, p.pwm.latched = false →
      let first := s.modLPort n fun q => { q with pwm := { q.pwm with
        latched := true
        forced := true
        causes := q.pwm.causes ||| BitVec.ofNat 5 (2 ^ cause)
        first := BitVec.ofNat 3 cause } }
      let told := (first.event 0x0A01 (State.tLocal n) ([BitVec.ofNat 8 cause, BitVec.ofNat 8 (first.lport n).pwm.causes.toNat,
        BitVec.ofNat 8 ((first.lport n).fld 0 5 1), 0] ++ leBytes 8 first.now))
      let u := told.acqFault true n (told.now * 65536)
      (u.axisOf n = none → s.latchFault n cause = u) ∧ (∀ i, u.axisOf n = some i → s.latchFault n cause = u.faultCause i 6 false))
    ∧ (v.getLsbD 0 = false → exec (.pwmFltclrWrite n v) s = .next s)
    ∧ (v.getLsbD 0 = true → s.faultPresent n = true → exec (.pwmFltclrWrite n v) s =
        .next (s.modLPort n fun q => { q with pwm := { q.pwm with err := true } }))
    ∧ (v.getLsbD 0 = true → s.faultPresent n = false →
      let u := s.modLPort n fun q => { q with pwm := { q.pwm with
        latched := false
        causes := 0
        first := 0 } }
      (u.axisOf n = none → exec (.pwmFltclrWrite n v) s = .next u)
      ∧ (∀ i, u.axisOf n = some i → exec (.pwmFltclrWrite n v) s = .next (u.causeClear i 6)))
    ∧ (s.nLocal ≤ n → exec (.faultN n asserted) s = .next s ∧ exec (.pwmPeriodBoundary n) s = .next s)
    ∧ (n < s.nLocal → exec (.pwmPeriodBoundary n) s = .next (s.modLPort n fun q =>
        State.countShort (State.takeDrive (State.transfer { q with pwm := { q.pwm with startNs := s.now } } s.now) s.now)))
    ∧ (∀ q : LPort, q.pwm.pairPending = true → q.pwm.commit = false →
        q.pwm.written &&& BitVec.ofNat 4 (q.fld 11 8 4) ≠ BitVec.ofNat 4 (q.fld 11 8 4) →
        State.transfer q s.now = { q with pwm := { q.pwm with pairHold := true } })
    ∧ (p.sync = true → exec (.pwmPeriodWrite n v) s = .next (s.modLPort n fun q => { q with pwm := { q.pwm with err := true } }))
    ∧ (p.sync = false → exec (.pwmPeriodWrite n v) s = .next (s.modLPort n fun q => { q with pwm := { q.pwm with
          period := v.extractLsb' 0 16
          pairPending := true
          written := 0 } }))
    ∧ (4 ≤ pair → exec (.pwmCmpWrite n pair v) s = .next s)
    ∧ (pair < 4 → p.loopPairs.contains pair = true → exec (.pwmCmpWrite n pair v) s =
        .next (s.modLPort n fun q => { q with pwm := { q.pwm with err := true } }))
    ∧ (pair < 4 → p.loopPairs.contains pair = false → p.fld 11 3 1 = 0 ∨ p.pwm.pairPending = true →
        exec (.pwmCmpWrite n pair v) s = .next (s.modLPort n fun q => { q with pwm := { q.pwm with
          cmps := updAt q.pwm.cmps pair fun _ => v.extractLsb' 0 22
          written := q.pwm.written ||| BitVec.ofNat 4 (2 ^ pair)
          dirty := q.pwm.dirty ||| BitVec.ofNat 4 (2 ^ pair) } }))
    ∧ (pair < 4 → p.loopPairs.contains pair = false → p.fld 11 3 1 = 1 → p.pwm.pairPending = false →
        exec (.pwmCmpWrite n pair v) s = .next (s.modLPort n fun q =>
          let w : LPort := { q with pwm := { q.pwm with
            cmps := updAt q.pwm.cmps pair fun _ => v.extractLsb' 0 22
            written := q.pwm.written ||| BitVec.ofNat 4 (2 ^ pair)
            actCmps := updAt q.pwm.actCmps pair fun _ => v.extractLsb' 0 22
            dirty := (q.pwm.dirty ||| BitVec.ofNat 4 (2 ^ pair)) &&& ~~~(BitVec.ofNat 4 (2 ^ pair)) } };
          { w with pwm := { w.pwm with
            onTime := updAt w.pwm.onTime pair fun _ => State.onTimeNow w pair (16 * (s.now - w.pwm.startNs)) } }))
    ∧ exec (.pwmCommitWrite n v) s = .next (s.modLPort n fun q => { q with pwm := { q.pwm with
        commit := q.pwm.commit || v.getLsbD 29
        err := q.pwm.err && !v.getLsbD 28 } })

/-- Mark inputs, limit and home inputs, and samples of the modulators: an edge within 50 ns of the one before on its input is dropped and
counted, another becomes the input's latest mark and is offered to the recorder and the axes; a qualified level changes the input's
state once, and finds home, or stops the axis at its limit; torque held at a hard stop finds home; a sample ends a stuck
indication when its value moves, and a recorded one is stored, unless it is lost, and judged by the level conditions (10 R291-R293, R296, R297, 11 R319, 12 R347). -/
def Obligations.QualifiedInputs : Prop :=
  ∀ (input ns i port ch stamp : Nat) (rising level : Bool) (frac val : Half) (count : Word) (s : State),
    let m := s.acq.marks.getD input {}
    let t := ns * 65536 + frac.toNat
    (16 ≤ input → exec (.markEdge input rising ns frac) s = .next s)
    ∧ (input < 16 → (∃ q, m.prev = some q ∧ t < q + 50 * 65536) → exec (.markEdge input rising ns frac) s =
        .next { s with acq := { s.acq with
          close := satInc s.acq.close
          marks := updAt s.acq.marks input fun x => { x with prev := some t } } })
    ∧ (input < 16 → (∀ q, m.prev = some q → q + 50 * 65536 ≤ t) →
      let u : State := { s with acq := { s.acq with marks := updAt s.acq.marks input fun x => { x with
        ns := BitVec.ofNat 64 ns
        frac := frac
        rising := rising
        count := x.count + 1
        prev := some t } } }
      (u.acq.wantsEdge input rising = false ∨ u.captures ns = false → exec (.markEdge input rising ns frac) s = .next
        ((List.range (u.acqMark input t rising).nAxes).foldl
          (fun w j => State.offerMark ns frac input rising ((u.acqMark input t rising).localCount ns) j w) (u.acqMark input t rising)))
      ∧ (u.acq.wantsEdge input rising = true → u.captures ns = true →
        let z := u.sampleLost
        let w := ({ z.2 with acq := { z.2.acq with edges := z.2.acq.edges ++ [{
          ns := ns
          frac := frac
          input := input
          rising := rising
          lost := z.1 }] } } : State).acqMark input t rising
        exec (.markEdge input rising ns frac) s = .next ((List.range w.nAxes).foldl
          (fun x j => State.offerMark ns frac input rising (w.localCount ns) j x) w)))
    ∧ (s.nAxes ≤ i → ∀ pin, exec (.inputQualified i pin level count) s = .next s)
    ∧ (let a := s.axis i
      let was (pin : InPin) := match pin with
        | .limP => a.prof.limP
        | .limN => a.prof.limN
        | .home => a.prof.home
      let now (pin : InPin) := s.modAxis i fun x => { x with prof := match pin with
        | .limP => { x.prof with limP := { x.prof.limP with
            level := level
            raw := level } }
        | .limN => { x.prof with limN := { x.prof.limN with
            level := level
            raw := level } }
        | .home => { x.prof with home := { x.prof.home with
            level := level
            raw := level } } }
      let h := a.prof.homing
      (i < s.nAxes → (∀ pin, (was pin).level = level → exec (.inputQualified i pin level count) s = .next s)
        ∧ (∀ pin, (was pin).level ≠ level →
          (a.prof.state ≠ .homing → exec (.inputQualified i pin level count) s = .next ((now pin).limitCheck i))
          ∧ (a.prof.state = .homing → level = false ∨ (was pin).ignore = true → exec (.inputQualified i pin level count) s = .next (now pin))
          ∧ (a.prof.state = .homing → level = true → (was pin).ignore = false →
            (pin = .limP → exec (.inputQualified i pin level count) s = .next ((now pin).homeLimit i false count))
            ∧ (pin = .limN → exec (.inputQualified i pin level count) s = .next ((now pin).homeLimit i true count))
            ∧ (pin = .home → h.method ≠ 1 ∨ h.found = true ∨ (h.phase ≠ 1 ∧ h.phase ≠ 2) →
              exec (.inputQualified i pin level count) s = .next (now pin))
            ∧ (pin = .home → h.method = 1 → h.found = false → h.phase = 1 ∨ h.phase = 2 →
              let past := (now pin).modAxis i fun x => { x with prof := { x.prof with home := { x.prof.home with ignore := true } } }
              (h.useIndex = false → exec (.inputQualified i pin level count) s = .next (past.homeFound i (a.coord count)))
              ∧ (h.useIndex = true → exec (.inputQualified i pin level count) s = .next (past.modAxis i fun x => { x with
                prof := State.Prof.seek { x.prof with homing := { x.prof.homing with phase := 3 } }
                  (velUnit (if h.dirNeg != (h.phase == 2) then -(h.creep : Int) else h.creep)) }))))))
      ∧ (a.prof.state = .homing → a.prof.homing.method = 3 → a.prof.homing.found = false → a.prof.homing.tqTime ≠ 0 →
          a.prof.homing.tqTime ≤ a.prof.homing.tqRun → exec (.hardStopHome i) s = .next (s.homeFound i (a.coord a.live.pFb)))
      ∧ (a.prof.state ≠ .homing ∨ a.prof.homing.method ≠ 3 ∨ a.prof.homing.found = true ∨ a.prof.homing.tqTime = 0 ∨
          a.prof.homing.tqRun < a.prof.homing.tqTime → exec (.hardStopHome i) s = .next s))
    ∧ (s.nLocal ≤ port ∨ 3 ≤ ch → exec (.acqSdSample port ch val stamp) s = .next s)
    ∧ (port < s.nLocal → ch < 3 →
      let u := s.modLPort port fun q => { q with
        sdFree := updAt q.sdFree ch fun _ => val
        sdStuck := if q.sdFree.getD ch 0 = val then q.sdStuck else q.sdStuck &&& ~~~(BitVec.ofNat 3 (2 ^ ch)) }
      let signal := (s.acq.sigs (· == 3)).find? fun x => field x.2.toNat 16 4 == port && field x.2.toNat 0 2 == ch
      let judge (x : Nat × Word) (w : State) : State := ({ w with
        acq := (State.levelSample w.acq x.1 (w.sdPeriod port) val stamp).1 } : State).fireConds (State.levelSample w.acq x.1 (w.sdPeriod port) val stamp).2
      (signal = none ∨ s.acq.armed = false → exec (.acqSdSample port ch val stamp) s = .next u)
      ∧ (∀ x, signal = some x → s.acq.armed = true →
        (u.captures stamp = false → exec (.acqSdSample port ch val stamp) s = .next (judge x u))
        ∧ (u.captures stamp = true →
          let z := u.sampleLost
          let w := { z.2 with acq := { z.2.acq with sds := z.2.acq.sds ++ [{
            signal := x.1
            inst := stamp
            val := val
            lost := z.1 }] } }
          (z.1 = false → exec (.acqSdSample port ch val stamp) s = .next (judge x w))
          ∧ (z.1 = true → exec (.acqSdSample port ch val stamp) s = .next (w.fireConds [])))))

/-- The recorder's events: it is ready when its pretrigger memory is full; a level condition loses its hold when the time is up; a record
whose end has passed with all its frames is closed and either acquisition is done or the next record fills; and a block of the oldest
record that is not yet in the host's memory goes there, with its ring entry, when the ring and the area have room (12 R350-R353, R359,
R363). -/
def Obligations.RecorderEvents : Prop :=
  ∀ (c n : Nat) (r : QRec) (s : State),
    let a := s.acq
    (a.state = .filling → a.tA ≠ none → a.readyAt ≤ s.now → exec .acqReady s = .next { s with acq := { a with state := .ready } })
    ∧ (a.state ≠ .filling ∨ a.tA = none ∨ s.now < a.readyAt → exec .acqReady s = .next s)
    ∧ (∀ t, (a.conds.getD c {}).trueTill = some t → t ≤ s.now → exec (.acqHoldExpiry c) s = .next { s with acq := { a with
        conds := updAt a.conds c fun x => { x with
          isTrue := false
          trueTill := none } } })
    ∧ ((∀ t, (a.conds.getD c {}).trueTill = some t → s.now < t) → exec (.acqHoldExpiry c) s = .next s)
    ∧ (a.cur = none → exec .acqRecordDone s = .next s)
    ∧ (a.cur = some r → a.state = .recording → r.endFine ≤ s.nowFine →
        (a.frames.filter fun f => r.holds (f.inst * 65536)).length = r.len →
      let u := s.closeRecord r
      (u.acq.loop = false ∨ (u.acq.nRec ≠ 0 ∧ u.acq.nRec ≤ u.acq.taken) → exec .acqRecordDone s = .next { u with acq := { u.acq with
        state := .done
        tA := none } })
      ∧ (u.acq.loop = true → (u.acq.nRec = 0 ∨ u.acq.taken < u.acq.nRec) → u.slotFree = false →
        exec .acqRecordDone s = .next { u with acq := { u.acq with
          state := .waitSlot
          tA := none
          frames := []
          sds := []
          edges := [] } })
      ∧ (u.acq.loop = true → (u.acq.nRec = 0 ∨ u.acq.taken < u.acq.nRec) → u.slotFree = true →
        let first := u.nextFrameAfter (ceilDiv r.endFine 65536 - 1)
        exec .acqRecordDone s = .next { u with acq := { u.acq with
          state := .filling
          tA := some first
          readyAt := first + u.acq.nPre * u.acqP
          frames := u.acq.frames.filter fun f => decide (first ≤ f.inst)
          sds := u.acq.sds.filter fun f => decide (first ≤ f.inst)
          edges := u.acq.edges.filter fun e => decide (first ≤ e.ns) } }))
    ∧ (a.cur = some r → a.state ≠ .recording ∨ s.nowFine < r.endFine ∨
        (a.frames.filter fun f => r.holds (f.inst * 65536)).length ≠ r.len → exec .acqRecordDone s = .next s)
    ∧ (a.ringOf = none ∨ State.nextCopy a = none → exec .acqRingBlock s = .next s)
    ∧ (a.ringOf = some n → State.nextCopy a = some r →
      let g := s.ring n
      let size := a.set 10
      let len := min 65536 (r.bytes - a.copyOff)
      let pos := if a.areaPos + len > size then 0 else a.areaPos
      let used := a.blocks.drop (a.blocks.length - g.fill)
      let last : Bool := decide (a.copyOff + len = r.bytes)
      let addr := a.set 8 + 2 ^ 32 * a.set 9 + pos
      let entry : List Word := [BitVec.ofNat 32 r.num, BitVec.ofNat 32 a.copyOff, BitVec.ofNat 32 len,
        BitVec.ofNat 32 (2 ^ 31 * (if g.tail.toNat < g.size then 1 else 0) + 2 ^ 30 * (if last then 1 else 0))] ++ leWords 2 addr
        ++ List.replicate 10 0
      (g.room 3 = false ∨ size < len ∨ (∃ b ∈ used, State.rangesMeet (pos, len) b = true) → exec .acqRingBlock s = .next s)
      ∧ (g.room 3 = true → len ≤ size → (∀ b ∈ used, State.rangesMeet (pos, len) b = false) →
        let u := ({ s with
          out := .acqEntry n (g.tail.toNat % g.size) entry :: .acqBlock r.num a.copyOff (BitVec.ofNat 64 addr) :: s.out
          acq := { a with
            copyOff := if last then 0 else a.copyOff + len
            areaPos := pos + len
            blocks := used ++ [(pos, len)] } } : State).advanceTail n
        exec .acqRingBlock s = .next (if last then u.freeRecord r.num else u)))

/-- The records between twins, what their absence does, forwarded commands, and the lanes between them: a record is read only in a pair
whose Oxbow is up; it gives the partner's health and checksum, and its absence counts, promotes a standby at its limit of cycles and
ends the pair at 64; a command from the partner is acknowledged as it is accepted here; a held one runs at its cycle; a lane goes down
and up (13 R366-R379, R381). -/
def Obligations.TwinRecords : Prop :=
  ∀ (r : CycleRec) (seq target lane : Nat) (cmd : Cmd) (peer : PeerInfo) (s : State),
    let gap (u : State) (b : Bool) (v : DWord) : State := { u with
      tmb := { u.tmb with partnerGap := if b then some (signed 64 v.toNat) else none }
      twn := { u.twn with
        missing := 0
        peerHealth := r.health
        peerState := field r.health.toNat 27 3
        peerCrc := r.crc
        peerClaim := r.claim
        fwds := State.takeAcks r.acks u.twn.fwds } }
    (s.twn.state.paired = false ∨ s.oxbowUp = false → exec (.cycleRecordReceived r) s = .next s)
    ∧ (s.twn.state.paired = true → s.oxbowUp = true →
      let t := (gap (s.free 64).2 (s.twn.state == .standby || s.twn.state == .joining) (s.free 64).1).compareCrc r
      let u := if t.twn.state = .standby ∧ r.claim = t.twn.ownClaim then t.outOfStep else t
      let ps := field r.health.toNat 27 3
      (u.twn.state = .active → (ps = 0 ∨ ps = 1 ∨ ps = 5 ∨ ps = 6) → exec (.cycleRecordReceived r) s = .next (u.goAlone 5))
      ∧ (u.twn.state = .active → ¬ (ps = 0 ∨ ps = 1 ∨ ps = 5 ∨ ps = 6) → exec (.cycleRecordReceived r) s = .next u)
      ∧ (u.twn.state = .alone → ps = 1 → u.twn.phase = 0 → exec (.cycleRecordReceived r) s = .next u.serveJoin)
      ∧ (u.twn.state = .alone → ps ≠ 1 → ps ≠ 3 → u.twn.phase ≠ 0 → exec (.cycleRecordReceived r) s = .next { u with twn := { u.twn with
          phase := 0
          entry := none
          noDispatch := false } })
      ∧ (u.twn.state = .alone → (ps = 1 ∧ u.twn.phase ≠ 0) ∨ ps = 3 ∨ (ps ≠ 1 ∧ u.twn.phase = 0) → exec (.cycleRecordReceived r) s = .next u)
      ∧ (u.twn.state ≠ .active → u.twn.state ≠ .alone → exec (.cycleRecordReceived r) s = .next u))
    ∧ (s.twn.state.paired = false → exec .cycleRecordMissing s = .next s)
    ∧ (s.twn.state.paired = true →
      let u : State := { s with twn := { s.twn with
        missing := s.twn.missing + 1
        missTotal := s.twn.missTotal + 1
        missCnt := satInc s.twn.missCnt
        missFirst := if s.twn.missing = 0 then (s.k, s.twn.ownCrc) else s.twn.missFirst } }
      (s.twn.state = .standby → s.twn.missing + 1 < s.twn.takeover ∨ s.twn.appliedOwn = false → exec .cycleRecordMissing s = .next u)
      ∧ (s.twn.state = .standby → s.twn.takeover ≤ s.twn.missing + 1 → s.twn.appliedOwn = true →
        exec .cycleRecordMissing s = .next (({ u with
          twn := { u.twn with
            promoted := true
            claims := [] }
          tmb := { u.tmb with partnerGap := none } } : State).goAlone 1))
      ∧ (s.twn.state = .outOfStep → exec .cycleRecordMissing s = .next u.twinLinksDown)
      ∧ (s.twn.state ≠ .standby → s.twn.state ≠ .outOfStep → exec .cycleRecordMissing s = .next u.checkIsolated))
    ∧ (s.twn.missing < 64 → exec .twinHoldTimeout s = .next s)
    ∧ (64 ≤ s.twn.missing →
      (s.twn.state = .active → exec .twinHoldTimeout s = .next (s.goAlone 5))
      ∧ (s.twn.state = .standby → exec .twinHoldTimeout s =
          .next (s.eventDiverged 3 s.twn.missFirst.1 s.twn.missFirst.2 0).outOfStep)
      ∧ (s.twn.state ≠ .active → s.twn.state ≠ .standby → exec .twinHoldTimeout s = .next s))
    ∧ (s.twn.state.paired = false ∨ s.oxbowUp = false → exec (.twinForwardReceived seq cmd target) s = .next s)
    ∧ (s.twn.state.paired = true → s.oxbowUp = true →
      (s.twn.state ≠ .standby ∨ twinForwarded cmd.opcode = false ∨ opOf cmd.opcode = none ∨
          (∃ op, opOf cmd.opcode = some op ∧ (cmd.pkt.kind ≠ op.kind ∨ s.unitCount op.kind ≤ cmd.pkt.unit)) → exec (.twinForwardReceived seq cmd target) s =
        .next (s.ackForward seq false))
      ∧ (∀ op, s.twn.state = .standby → twinForwarded cmd.opcode = true → opOf cmd.opcode = some op → cmd.pkt.kind = op.kind →
          cmd.pkt.unit < s.unitCount op.kind →
        let ctx : Ctx := {
          late := false
          due := some target }
        (∀ st d, op.body ctx cmd.pkt s = .fail st d → exec (.twinForwardReceived seq cmd target) s = .next (s.ackForward seq false))
        ∧ (∀ st d u, op.body ctx cmd.pkt s = .refuse st d u → exec (.twinForwardReceived seq cmd target) s = .next (u.ackForward seq false))
        ∧ (∀ u, op.body ctx cmd.pkt s = .accept u ∨ op.body ctx cmd.pkt s = .later u → exec (.twinForwardReceived seq cmd target) s = .next (u.ackForward seq true))
        ∧ (∀ res u, op.body ctx cmd.pkt s = .done res u → exec (.twinForwardReceived seq cmd target) s =
          .next (({ s with twn := { s.twn with fwds := s.twn.fwds ++ [{
            seq := seq
            cmd := cmd
            target := target
            acked := some true
            mine := false
            held := true }] } } : State).ackForward seq true))))
    ∧ ((s.twn.fwds.find? fun e => e.seq == seq) = none → exec (.twinForwardCommit seq) s = .next s)
    ∧ (∀ e, (s.twn.fwds.find? fun e => e.seq == seq) = some e →
      (s.k < e.target → exec (.twinForwardCommit seq) s = .next s)
      ∧ (e.target ≤ s.k →
        let u := ({ s with twn := { s.twn with fwds := s.twn.fwds.erase e } } : State).notAcked e
        (e.held = false ∨ opOf e.cmd.opcode = none → exec (.twinForwardCommit seq) s = .next u)
        ∧ (∀ op, e.held = true → opOf e.cmd.opcode = some op → exec (.twinForwardCommit seq) s =
          .next (u.settle e.cmd.pkt (op.body {
            late := false
            due := some e.target } e.cmd.pkt u)))))
    ∧ (exec (.oxbowLaneDown 0) s = .next { s with twn := { s.twn with lane0 := false } }
      ∧ exec (.oxbowLaneDown 1) s = .next { s with twn := { s.twn with lane1 := false } }
      ∧ (2 ≤ lane → exec (.oxbowLaneDown lane) s = .next s))
    ∧ (s.rst.islands.getD 2 .inReset ≠ .running ∨ 2 ≤ lane → exec (.oxbowLaneUp lane peer) s = .next s)
    ∧ (s.rst.islands.getD 2 .inReset = .running →
      exec (.oxbowLaneUp 0 peer) s = .next { s with twn := { s.twn with
        lane0 := true
        peer := some peer } }
      ∧ exec (.oxbowLaneUp 1 peer) s = .next { s with twn := { s.twn with
        lane1 := true
        peer := some peer } })

/-- Joining a pair, handing over, and health: preparation leads to the copy of the lockstep blocks, passes go on until few enough words
are marked, and the entry comes 64 cycles later, into lockstep when all has drained and back to the passes when not; a join that takes
too long is given up; a yield swaps the heads at its cycle; scrubbing and self tests count what they find (13 R380-R393, 07 R205). -/
def Obligations.TwinJoinsAndHealth : Prop :=
  ∀ (marked core c : Nat) (drained failed sram : Bool) (corrected uncorrectable : List Nat) (s : State),
    let ph := s.twn.phase
    (ph = 1 → exec .twinJoinPrepareDone s = .next { s with twn := { s.twn with phase := 2 } })
    ∧ (ph ≠ 1 → exec .twinJoinPrepareDone s = .next s)
    ∧ (ph ≠ 2 → ph ≠ 3 → exec (.twinCatchupPass marked) s = .next s)
    ∧ (ph = 2 ∨ ph = 3 →
      let n := if ph = 2 then s.lockstepBlocks else s.twn.marked.toNat
      let enter : Bool := decide (ph = 3 ∧ marked < 64)
      let cp : State := if s.twn.state = .alone then { s with out := .oxbowCopy n :: s.out } else s
      exec (.twinCatchupPass marked) s = .next { cp with twn := { s.twn with
        marked := BitVec.ofNat 16 (if marked < 2 ^ 16 then marked else 2 ^ 16 - 1)
        phase := if enter then 4 else 3
        entry := if enter then some (cp.k + 64) else none } })
    ∧ (s.twn.entry = none → exec (.twinEntry drained) s = .next s)
    ∧ (s.twn.entry = some c → ph ≠ 4 ∨ s.k < c → exec (.twinEntry drained) s = .next s)
    ∧ (s.twn.entry = some c → ph = 4 → c ≤ s.k →
      let joined : Twin := { s.twn with
        phase := 0
        entry := none
        noDispatch := false
        marked := 0
        mismatchRun := 0
        promoted := false
        joinFails := 0 }
      (s.twn.state = .joining →
        let t := s.twinPorts.foldl (fun u i => u.modMPort i fun p => { p with turned := false }) s
        exec (.twinEntry true) s = .next (({ t with twn := joined } : State).setTwin .standby 3)
        ∧ exec (.twinEntry false) s = .next { s with twn := { s.twn with
          phase := 3
          entry := none } })
      ∧ (s.twn.state = .alone →
        ((∀ x ∈ s.eddy.cores, x.flow = none) →
          let t := s.twinPorts.foldl (fun u i => State.reopenRing c i u) s
          exec (.twinEntry true) s = .next (({ t with twn := { joined with claims := [(c, 2)] } } : State).setTwin .active 3))
        ∧ (drained = false ∨ (∃ x ∈ s.eddy.cores, x.flow ≠ none) → exec (.twinEntry drained) s = .next { s with twn := { s.twn with
          phase := 3
          entry := none
          noDispatch := false } }))
      ∧ (s.twn.state ≠ .joining → s.twn.state ≠ .alone → exec (.twinEntry drained) s = .next s))
    ∧ (s.twn.state = .joining →
      let t := s.eventDiverged 2 s.k s.twn.ownCrc 0
      let u : State := { t with twn := { t.twn with
        phase := 0
        entry := none } }
      (u.twn.autoResync = true → exec .resyncTimeout s = .next { u with twn := { u.twn with phase := 1 } })
      ∧ (u.twn.autoResync = false → exec .resyncTimeout s = .next (u.setTwin .outOfStep 5)))
    ∧ (s.twn.state = .active ∨ s.twn.state = .alone →
      (ph = 0 → exec .resyncTimeout s = .next s) ∧ (ph ≠ 0 → exec .resyncTimeout s = .next s.partnerTimeout))
    ∧ (s.twn.state ≠ .joining → s.twn.state ≠ .active → s.twn.state ≠ .alone → exec .resyncTimeout s = .next s)
    ∧ (s.twn.state = .active → s.twn.yieldAt = some c →
      (s.k < c → exec .twinYieldHandover s = .next s)
      ∧ (c ≤ s.k → exec .twinYieldHandover s = .next (({ s with twn := { s.twn with
          claims := [(c, 1)]
          promoted := false
          yieldAt := none
          mismatchRun := 0 } } : State).setTwin .standby 2)))
    ∧ (s.twn.state = .standby → exec .twinYieldHandover s = .next (({ s with
        twn := { s.twn with
          claims := [(s.k, 2), (s.k + 1, 2)]
          promoted := false
          mismatchRun := 0 }
        tmb := { s.tmb with partnerGap := none } } : State).setTwin .active 2))
    ∧ (s.twn.state = .active → s.twn.yieldAt = none → exec .twinYieldHandover s = .next s)
    ∧ (s.twn.state ≠ .active → s.twn.state ≠ .standby → exec .twinYieldHandover s = .next s)
    ∧ (let t := uncorrectable.foldl (fun u k => State.memUncorr k u)
          (corrected.foldl (fun u k => u.modCore k fun x => { x with eccCorr := satInc x.eccCorr }) s)
      exec (.eccScrub corrected uncorrectable sram) s = .next { t with twn := { t.twn with
        eccUnc := t.twn.eccUnc || sram || !uncorrectable.isEmpty } })
    ∧ exec (.marchTest false) s = .next s
    ∧ exec (.marchTest true) s = .next { s with twn := { s.twn with
        marchFail := true
        marchCnt := satInc s.twn.marchCnt
        marchTot := s.twn.marchTot + 1 } }
    ∧ (failed = false ∨ s.nCores ≤ core ∨ (s.core core).state ≠ .idle → exec (.eddyTest core failed) s = .next s)
    ∧ (core < s.nCores → (s.core core).state = .idle → exec (.eddyTest core true) s = .next { s with twn := { s.twn with
        eddyFail := true
        eddyCnt := satInc s.twn.eddyCnt
        eddyTot := s.twn.eddyTot + 1 } })

/-- Reset sources: asserting one starts or widens the episode, sets REACH, LAST and SEEN, asserts the islands in its reach, clears what
that reach clears, and takes every link down; a source that is released stays in the history; the watchdog first warns; a twin's or an
upstream device's request acts only where RST_CFG lets it, and a block that is busy, absent or in a reset is not reset; a loss of the
core supply takes the links down (14 R388, R390, R395, R396). -/
def Obligations.ResetSources : Prop :=
  ∀ (n : Nat) (r : Reach) (bit : Nat) (s : State),
    let taken (bit : Nat) (r : Reach) (level : Bool) : State :=
      let b : Byte := BitVec.ofNat 8 (2 ^ bit)
      let w := match s.rst.episode with | some (q, _) => State.widest q r | none => r
      let src := match s.rst.episode with | some (_, bits) => bits ||| b | none => b
      let base := if w = .cold then s.coldClear else s.warmClear
      let rst : Rst := {
        reach := if w = .cold then 0 else 1
        last := src
        seen := if w = .cold then src else s.rst.seen ||| src
        islands := mapI (fun i x => if w = .warm ∧ (i = 0 ∨ i = 4) then x else .inReset) s.rst.islands
        asserted := if level then s.rst.asserted ||| b else s.rst.asserted
        episode := some (w, src)
        phase := .asserted }
      { base with
        rst := rst
        out := .linksDown :: base.out
        net := { base.net with ports := base.net.ports.map fun p => { p with link := false } }
        twn := { base.twn with
          lane0 := false
          lane1 := false } }
    let freed (bit : Nat) : State := { s with rst := { s.rst with asserted := s.rst.asserted &&& ~~~(BitVec.ofNat 8 (2 ^ bit)) } }
    (exec (.powerOnMonitor true) s = .next (taken 0 .cold true) ∧ exec (.powerOnMonitor false) s = .next (freed 0))
    ∧ (exec (.porstN true) s = .next (taken 1 .cold true) ∧ exec (.porstN false) s = .next (freed 1))
    ∧ (exec (.thermalTrip true) s = .next (taken 2 .cold true) ∧ exec (.thermalTrip false) s = .next (freed 2))
    ∧ (exec (.wrstN true) s = .next (taken 3 .warm true) ∧ exec (.wrstN false) s = .next (freed 3))
    ∧ exec .watchdogTimeout s = .next (taken 4 .warm false)
    ∧ (s.rst.twinEn = true → exec .twinResetRequest s = .next (taken 5 .warm false))
    ∧ (s.rst.twinEn = false → exec .twinResetRequest s = .next s)
    ∧ (s.rst.upstreamEn = true → exec (.upstreamReset none) s = .next (taken 6 .warm false))
    ∧ (s.rst.upstreamEn = false → exec (.upstreamReset (some n)) s = .next s ∧ exec (.upstreamReset none) s = .next s)
    ∧ (s.rst.upstreamEn = true →
      (State.blockOf n = none → exec (.upstreamReset (some n)) s = .next s)
      ∧ (∀ b, State.blockOf n = some b →
        (s.rst.episode ≠ none ∨ s.fusedOff b = true ∨ s.blockFree b = false → exec (.upstreamReset (some n)) s = .next s)
        ∧ (s.rst.episode = none → s.fusedOff b = false → s.blockFree b = true → exec (.upstreamReset (some n)) s =
          .next ((({ s with rst := { s.rst with
            blkNum := BitVec.ofNat 8 n
            blkCount := satInc s.rst.blkCount } } : State).blockClear b).abortPending n))))
    ∧ (s.rst.pendingReset = some (r, bit) → exec .resetAssert s = .next (taken bit r false))
    ∧ (s.rst.pendingReset = none → exec .resetAssert s = .next s)
    ∧ (s.rst.phase ≠ .running → exec .watchdogHalf s = .next s)
    ∧ (s.rst.phase = .running → s.host.cause.getLsbD 3 = true → exec .watchdogHalf s = .next s)
    ∧ (s.rst.phase = .running → s.host.cause.getLsbD 3 = false →
      let u : State := { s with host := { s.host with cause := s.host.cause ||| 8 } }
      (s.host.mask.getLsbD 3 = true → exec .watchdogHalf s = .next u)
      ∧ (s.host.mask.getLsbD 3 = false → exec .watchdogHalf s = .next (u.sendVector 63)))
    ∧ exec .vcoreLoss s = .next (let u := (List.range s.nPorts).foldl (fun t m => t.linkDown m) s
        { u with
          out := .linksDown :: u.out
          net := { u.net with ports := u.net.ports.map fun p => { p with link := false } }
          twn := { u.twn with
            lane0 := false
            lane1 := false } })

/-- The release sequence: once no source is asserted the islands come out of reset one by one in their order, each released, absent, or
late; then the memory is trained, the SRAM cleared, an image selected by its sequence or the loader alone runs, and the head is ready
for its host, which ends the episode; a clock lost later resets its island alone, and an override lets an island without a clock go on
(14 R391-R394, R398). -/
def Obligations.ReleaseSequence : Prop :=
  ∀ (i : Nat) (v : Word) (s : State),
    let order (u : State) : Option Nat := State.islandOrder.find? fun j => !State.Island.past (u.rst.islands.getD (j - 1) .inReset)
    let put (x : Island) : State :=
      let u : State := { s with rst := { s.rst with islands := updAt s.rst.islands (i - 1) fun _ => x } }
      if u.rst.phase = .islands ∧ order u = none then { u with rst := { u.rst with phase := .dram } } else u
    (s.rst.phase ≠ .asserted ∨ s.rst.asserted ≠ 0 → exec .releaseStart s = .next s)
    ∧ (s.rst.phase = .asserted → s.rst.asserted = 0 →
      (∀ b, s.rst.episode = some (.warm, b) → exec .releaseStart s = .next { s with rst := { s.rst with phase := .islands } })
      ∧ (∀ b, s.rst.episode = some (.cold, b) → let f : Fuse := { s.fuse with crcFail := s.fuse.crc != s.fuse.crc16 }
        exec .releaseStart s = .next { s with
          rst := { s.rst with phase := .islands }
          fuse := f
          pwr := { s.pwr with
            vset := f.vBoot
            ackVset := f.vBoot } }))
    ∧ (s.rst.phase = .asserted → exec (.islandRelease i) s = .next s)
    ∧ (s.rst.phase = .islands → order s = some i →
      exec (.islandRelease i) s = .next (put .running) ∧ exec (.islandAbsent i) s = .next (put .absent))
    ∧ (s.rst.phase = .islands → order s ≠ some i →
      exec (.islandRelease i) s = .next s ∧ exec (.islandAbsent i) s = .next s)
    ∧ (s.rst.phase ≠ .asserted → s.rst.phase ≠ .islands → 1 ≤ i → i ≤ 9 → State.Island.past (s.rst.islands.getD (i - 1) .inReset) = false →
      exec (.islandRelease i) s = .next (put .running))
    ∧ (s.rst.phase ≠ .islands → exec (.islandAbsent i) s = .next s)
    ∧ (s.rst.phase ≠ .asserted → 1 ≤ i → i ≤ 9 →
      (s.rst.islands.getD (i - 1) .inReset = .absent ∨ s.rst.islands.getD (i - 1) .inReset = .clockWait →
        exec (.islandLateClock i) s = .next (put .running))
      ∧ (s.rst.islands.getD (i - 1) .inReset = .inReset ∨ s.rst.islands.getD (i - 1) .inReset = .running →
        exec (.islandLateClock i) s = .next s))
    ∧ (s.rst.islands.getD (i - 1) .inReset ≠ .running → exec (.islandLockLoss i) s = .next s)
    ∧ (let lost (j : Nat) : State := { s with rst := { s.rst with islands := updAt s.rst.islands (j - 1) fun _ => .inReset } }
      let runs (j : Nat) : Prop := s.rst.islands.getD (j - 1) .inReset = .running
      (runs 2 → exec (.islandLockLoss 2) s = .next ((List.range s.nPorts).foldl (fun t m => t.linkDown m) (lost 2)))
      ∧ (runs 3 → exec (.islandLockLoss 3) s = .next { lost 3 with twn := { s.twn with
          lane0 := false
          lane1 := false } })
      ∧ (runs 4 → exec (.islandLockLoss 4) s = .next { (lost 4).resetHostIf with host := { (lost 4).resetHostIf.host with linkUp := false } })
      ∧ (i = 1 ∨ 5 ≤ i ∧ i ≤ 9 → runs i → exec (.islandLockLoss i) s = .next (lost i)))
    ∧ (s.rst.phase = .asserted → exec (.rstOverrideWrite v) s = .next { s with rst := { s.rst with override := v.extractLsb' 0 9 } })
    ∧ (s.rst.phase ≠ .asserted → exec (.rstOverrideWrite v) s = .next { s with rst := { s.rst with
        override := v.extractLsb' 0 9
        islands := mapI (fun j x => if v.getLsbD j && (x == .inReset || x == .absent) then .clockWait else x) s.rst.islands } })
    ∧ (s.rst.phase = .dram → exec .dramTrained s = .next { s with rst := { s.rst with phase := .sram } })
    ∧ (s.rst.phase ≠ .dram → exec .dramTrained s = .next s)
    ∧ (s.rst.phase = .sram → exec .sramCleared s = .next { s with rst := { s.rst with phase := .image } })
    ∧ (s.rst.phase ≠ .sram → exec .sramCleared s = .next s)
    ∧ (s.rst.phase ≠ .image → exec .imageSelect s = .next s)
    ∧ (s.rst.phase = .image →
      let a : ImgSlot := s.boot.slots.getD 0 {}
      let b : ImgSlot := s.boot.slots.getD 1 {}
      let order : List Nat := if a.headerValid ∧ b.headerValid ∧ 2 ^ 31 ≤ (a.seq - b.seq).toNat then [1, 0] else [0, 1]
      let u : State := { s with
        rst := { s.rst with phase := .running }
        spw := { s.spw with known := true } }
      ((∀ j ∈ order, State.ImgSlot.loads (s.boot.slots.getD j {}) = false) → exec .imageSelect s = .next { u with boot := { s.boot with
        running := 3
        seq := 0
        version := 0
        romOnly := true } })
      ∧ (∀ j, (order.find? fun j => State.ImgSlot.loads (s.boot.slots.getD j {})) = some j →
        exec .imageSelect s = .next ({ u with boot := { s.boot with
          running := BitVec.ofNat 2 j
          seq := (s.boot.slots.getD j {}).seq
          version := (s.boot.slots.getD j {}).version
          romOnly := false } } : State).startGovernor))
    ∧ (s.rst.phase = .running → exec .hostReady s = .next { s with
        host := { s.host with ready := true }
        rst := { s.rst with episode := none } })
    ∧ (s.rst.phase ≠ .running → exec .hostReady s = .next s)

/-- The power-loss store: a qualified PFAIL holds the part, stops tasks and acquisition and, with a tier that fits, starts a record; its
capture takes the positions, and with FULL the parameter sets, the fault log and the acquisition context, and erases the slot; when the
record is written it is the slot's, the report names it and a waiting command is answered; PFAIL cleared resumes; the reservoir's code
gives the tier; a loss of the auxiliary supply leaves only what the flash holds (14 R402-R407). -/
def Obligations.StoreEvents : Prop :=
  ∀ (code : BitVec 12) (rate : Nat) (r : StoreRun) (s : State),
    (let x := s.spw
      let av := x.avail code.toNat
      let full := x.need s.pwr.pMeas.toNat s.tmb.tc (recordBytes s.nAxes 2)
      let least := x.need s.pwr.pMeas.toNat s.tmb.tc (recordBytes s.nAxes 1)
      exec (.tierEvaluate code) s = .next { s with spw := { x with
        code := code
        vMv := satNat 16 (x.volt code.toNat / (4095 * 256))
        eAvail := av.1 / av.2
        needFull := needWord full
        needMin := needWord least
        tier := if tierFits av full then 2 else if tierFits av least then 1 else 0 } })
    ∧ (s.spw.pfail = true → exec (.pfailQualified code) s = .next s)
    ∧ (s.spw.pfail = false →
      let t := s.tierEvaluate code
      let x : Spw := { t.spw with pfail := true }
      (x.en = false → exec (.pfailQualified code) s = .next { t with spw := x })
      ∧ (x.en = true →
        let ks := if t.inCycle < t.dX then t.k else t.k + 1
        let u : State := { t with
          spw := { x with
            held := true
            report := (x.tier, 0, if x.tier = 0 then 0 else ks, x.eAvail)
            noneCnt := if x.tier = 0 then satInc x.noneCnt else x.noneCnt }
          sch := { t.sch with stopped := true } }
        let w := ((List.range u.nCores).foldl (fun a c => State.stopTask c a) (u.eventPower 1)).disarm
        (x.tier = 0 → exec (.pfailQualified code) s = .next w)
        ∧ (x.tier ≠ 0 → exec (.pfailQualified code) s = .next { w with spw := { w.spw with run := some {
          tier := x.tier
          reason := 0
          eAvail := x.eAvail
          slot := x.target
          pkt := (match x.run with | some q => q.pkt | none => none) } } })))
    ∧ (s.spw.pfail = false → exec .pfailClear s = .next s)
    ∧ (s.spw.pfail = true →
      let u : State := { s with spw := { s.spw with pfail := false } }
      exec .pfailClear s = .next (if s.spw.held then u.eventPower 3 else u).powerResume)
    ∧ (s.spw.run = none → exec .storeCapture s = .next s ∧ exec (.storeWriteDone rate) s = .next s)
    ∧ (s.spw.run = some r → r.captured ≠ none → exec .storeCapture s = .next s)
    ∧ (s.spw.run = some r → r.captured = none → r.tier ≠ 2 →
      let cap : StoreRec := {
        seq := (match s.spw.newestRec with | some n => n.seq | none => 0) + 1
        tier := r.tier
        reason := r.reason
        axes := s.nAxes
        ks := s.k
        time := s.now
        eAvail := r.eAvail
        tags := s.spw.tags
        positions := (s.axes.take s.nAxes).map Axis.entry
        setIds := []
        faultLog := []
        acqContext := [] }
      exec .storeCapture s = .next (({ s with spw := { s.spw with
        run := some { r with
          captured := some cap
          slot := s.spw.target }
        device := s.spw.device.filter fun d => d.1 != s.spw.slotAddr s.spw.target } } : State).raiseCause 1))
    ∧ (s.spw.run = some r → r.captured = none → r.tier = 2 →
      let z := s.acqContext
      let x := z.2.spw
      let cap : StoreRec := {
        seq := (match x.newestRec with | some n => n.seq | none => 0) + 1
        tier := r.tier
        reason := r.reason
        axes := z.2.nAxes
        ks := z.2.k
        time := z.2.now
        eAvail := r.eAvail
        tags := x.tags
        positions := (z.2.axes.take z.2.nAxes).map Axis.entry
        setIds := (z.2.axes.take z.2.nAxes).flatMap State.setIdWords
        faultLog := x.log.reverse
        acqContext := z.1 }
      exec .storeCapture s = .next (({ z.2 with spw := { x with
        run := some { r with
          captured := some cap
          slot := x.target }
        device := x.device.filter fun d => d.1 != x.slotAddr x.target } } : State).raiseCause 1))
    ∧ (s.spw.run = some r → r.captured = none → exec (.storeWriteDone rate) s = .next s)
    ∧ (∀ cap, s.spw.run = some r → r.captured = some cap →
      let x := s.spw
      let u := ({ s with
        out := .storeRecord r.slot cap :: s.out
        spw := { x with
          device := devicePut (x.slotAddr r.slot) cap x.device
          run := none
          stores := satInc x.stores
          rate := if x.rate = 0 then rate else min x.rate rate
          report := (cap.tier, cap.seq.toNat, cap.ks, cap.eAvail) } } : State).eventPower 2
      let w := match r.pkt with
        | some p => u.finish p [cap.seq, BitVec.ofNat 32 cap.tier]
        | none => u
      (w.spw.coldAfter = false → exec (.storeWriteDone rate) s = .next w.powerResume)
      ∧ (w.spw.coldAfter = true → exec (.storeWriteDone rate) s = .next (({ w with spw := {
        device := w.spw.device
        known := w.spw.known
        held := w.spw.held } } : State).powerResume)))
    ∧ (∀ (a : Nat) (cap : StoreRec) (l : List (Nat × StoreRec)), (l.Pairwise fun p q => p.1 < q.1) →
      let m := devicePut a cap l
      (m.Pairwise fun p q => p.1 < q.1) ∧ (a, cap) ∈ m ∧ ∀ p, p.1 ≠ a → (p ∈ m ↔ p ∈ l))
    ∧ exec .vauxFail s = .next (({ s with spw := {
        device := s.spw.device
        known := s.spw.known
        held := s.spw.held } } : State).powerResume)

/-- Registers and the test access port: a read answers the register's word and clears what a read clears; a write of another size or
alignment is ignored, a write of eight bytes is two of four, and read-only registers ignore a write; the port
runs only while island 9 is out of reset, IDCODE and REG_ACCESS show their registers, and an access to an island in reset or without a
clock answers all ones (02 R36, R37, 15 R439, R440). -/
def Obligations.RegistersAndTap : Prop :=
  ∀ (a size n : Nat) (v dr : DWord) (s : State),
    let answered (r : Word × State) : Result := .next { r.2 with lastRead := r.1.setWidth 64 };
    (let w := a / 4 * 4;
      (w < 0x600000 ∨ 0x700000 ≤ w → exec (.rcRegisterRead a) s = answered ((s.bar0Word w).1, (s.bar0Word w).2.readClear w))
      ∧ (0x600000 ≤ w → w < 0x700000 →
        exec (.rcRegisterRead a) s = answered ((s.emuAll.bar0Word w).1, (s.emuAll.bar0Word w).2.readClear w)))
    ∧ (exec (.rcRegisterRead 0x30010) s = answered (s.rstWord 0x10, { s with rst := { s.rst with blkCount := 0 } })
      ∧ exec (.rcRegisterRead 0x20) s = answered (s.glbWord 0x20, { s with host := { s.host with evtDropped := 0 } })
      ∧ exec (.rcRegisterRead 0x30000) s = answered (s.rstWord 0, s)
      ∧ exec (.rcRegisterRead 0x100010) s = answered (s.tmbWord 0x10, { s with tmb := { s.tmb with
        latSec := s.tmb.served.sec
        latFrac := s.tmb.served.frac } }))
    ∧ (¬ (size = 4 ∧ a % 4 = 0) → ¬ (size = 8 ∧ a % 8 = 0) → exec (.registerWrite a size v) s = .next s)
    ∧ (a % 4 = 0 → exec (.registerWrite a 4 v) s = .next (s.writeWord a (v.extractLsb' 0 32)))
    ∧ (a % 8 = 0 → exec (.registerWrite a 8 v) s = .next ((s.writeWord a (v.extractLsb' 0 32)).writeWord (a + 4) (v.extractLsb' 32 32)))
    ∧ (a < 0x10000 → a ≠ 0x20 → ∀ w, s.writeWord a w = s)
    ∧ ((a = 0x30000 ∨ a = 0x30008 ∨ a = 0x30010) → ∀ w, s.writeWord a w = s)
    ∧ (0x500000 ≤ a → a < 0x600000 → ∀ w, s.writeWord a w = s)
    ∧ (∀ w : Word, s.writeWord 0x30004 w = { s with rst := { s.rst with
        twinEn := w.getLsbD 31
        upstreamEn := w.getLsbD 30
        wdogMs := if 10 ≤ w.toNat % 2 ^ 16 ∧ w.toNat % 2 ^ 16 ≤ 1000 then BitVec.ofNat 16 (w.toNat % 2 ^ 16) else s.rst.wdogMs } })
    ∧ (∀ (w : Word), n < 64 → (s.ring n).enable = true → s.writeWord (0x10000 + 0x100 * n) w = s ∧ s.writeWord (0x10004 + 0x100 * n) w = s)
    ∧ (∀ (c : Nat) (w : Word), c < s.nCores → a < 0x4000 →
      s.writeWord (0x2000000 + 0x40000 * c + 4 * a) w = s.modCore c fun k => { k with x := cellSet k.x a (w.setWidth 24) })
    ∧ (∀ (c : Nat) (w : Word), c < s.nCores → a < 0x4000 → s.writeWord (0x2020000 + 0x40000 * c + 4 * a) w = s)
    ∧ (s.rst.islands.getD 8 .inReset ≠ .running → ∀ code,
      exec (.jtagInstruction code) s = .next s ∧ exec (.regAccessUpdate dr) s = .next s)
    ∧ (s.rst.islands.getD 8 .inReset = .running →
      exec (.jtagInstruction 0x02) s = .next { s with tap := { s.tap with
        ir := 2
        dr := s.idcode.setWidth 64 } }
      ∧ exec (.jtagInstruction 0x40) s = .next { s with tap := { s.tap with
        ir := 0x40
        dr := s.tap.answer.setWidth 64 } }
      ∧ (∀ code, code = 0 ∨ code = 1 → exec (.jtagInstruction code) s = .next { (s.free 64).2 with tap := { (s.free 64).2.tap with
        ir := code
        dr := (s.free 64).1 } })
      ∧ (∀ code, code ≠ 0 → code ≠ 1 → code ≠ 2 → code ≠ 0x40 → exec (.jtagInstruction code) s = .next { s with tap := { s.tap with
        ir := code
        dr := 0 } })
      ∧ (s.tap.ir ≠ 0x40 → exec (.regAccessUpdate dr) s = .next s)
      ∧ (s.tap.ir = 0x40 →
        let at_ := 4 * (dr.toNat / 2 ^ 32 % 2 ^ 24)
        let dead : Prop := ∃ i, State.islandOf at_ = some i ∧ (s.island i = .inReset ∨ s.island i = .absent)
        (dead → exec (.regAccessUpdate dr) s = .next { s with tap := { s.tap with
          answer := 0xFFFFFFFF
          dr := 0xFFFFFFFF } })
        ∧ (¬ dead → dr.getLsbD 63 = true → exec (.regAccessUpdate dr) s = .next (s.writeWord at_ (dr.extractLsb' 0 32)))
        ∧ (¬ dead → dr.getLsbD 63 = false → exec (.regAccessUpdate dr) s = .next { (s.readBar0 at_).2 with tap := { (s.readBar0 at_).2.tap with
          answer := (s.readBar0 at_).1
          dr := (s.readBar0 at_).1.setWidth 64 } })))

/-- maxi and mini (08 R239): An takes the value of Dk and Ij the index when the value is strictly greater, or with mini strictly smaller;
an equal value changes nothing; the index is LC as it stands, or the pointer that XPTR names before any move changes it, whether there is
an X move or not; no flag and no other register changes. -/
def Obligations.EddyExtremesKeepTheFirst : Prop :=
  ∀ (c : Nat) (minimum byPtr second : Bool) (n : Fin 4) (k : Fin 8) (mv : PMoves) (s : State), s.Runs c → movesOk [n.val] mv = true →
    let ins : EIns := if minimum then .mini n k second byPtr mv else .maxi n k second byPtr mv
    ∃ f : ERegs → Arith, (∀ cmd, ins.command c = some cmd → exec cmd s = .next (s.runPA c false ins mv f)) ∧
      ∀ r : ERegs, n.val < r.a.length →
        let x : Int := (r.data k.val).toInt * 2 ^ 24
        let q := (f r).1
        let index : Half := if byPtr then r.p.getD mv.xptr.val 0 else r.lc
        let better : Prop := if minimum then x < accInt (r.acc n.val) else accInt (r.acc n.val) < x
        (¬ better → q = r)
        ∧ (better → accInt (q.acc n.val) = x ∧ (∀ m, m ≠ n.val → q.acc m = r.acc m)
          ∧ q = { r with
            a := q.a
            i0 := if second then r.i0 else index
            i1 := if second then index else r.i1 })
end

