-- ==== Sys2Proof/Laws/View.lean ====
section
/-! SUPPORT. The part of the state that few operations change, and how state updates act on it. -/
namespace Sys2Proof.Machine

/-- What few operations change: the queue, the ordering code, the period, and the generations (00 R1; 01 R8, R11,
R16; 05 R144). -/
@[ext] structure View where
  pending : List Instr
  code : Half
  tc : Nat
  active : Option GenImage
  named : Option GenImage

/-- The view of a state. -/
def State.view (s : State) : View :=
  { pending := s.pending, code := s.fuse.code, tc := s.tmb.tc, active := s.net.active, named := s.net.pending }

namespace State
@[simp] theorem modAxis_view (s : State) (i : Nat) (f : Axis → Axis) : (s.modAxis i f).view = s.view := rfl
@[simp] theorem modCore_view (s : State) (i : Nat) (f : Core → Core) : (s.modCore i f).view = s.view := rfl
@[simp] theorem modRing_view (s : State) (i : Nat) (f : Ring → Ring) : (s.modRing i f).view = s.view := rfl
@[simp] theorem modMPort_view (s : State) (i : Nat) (f : MPort → MPort) : (s.modMPort i f).view = s.view := rfl
@[simp] theorem modNode_view (s : State) (i : Nat) (f : Node → Node) : (s.modNode i f).view = s.view := rfl
@[simp] theorem modFlow_view (s : State) (i : Nat) (f : Flow → Flow) : (s.modFlow i f).view = s.view := rfl
@[simp] theorem modLPort_view (s : State) (i : Nat) (f : LPort → LPort) : (s.modLPort i f).view = s.view := rfl
end State

@[simp] theorem runAll_view {α : Type} (f : α → State → State) (h : ∀ a s, (f a s).view = s.view) :
    ∀ (l : List α) (s : State), (runAll f l s).view = s.view
  | [], _ => rfl
  | a :: t, s => by
    have := runAll_view f h t (f a s)
    simp only [runAll, List.foldl] at *
    rw [this, h]

@[simp] theorem foldl_view {α : Type} (f : State → α → State) (h : ∀ s a, (f s a).view = s.view) :
    ∀ (l : List α) (s : State), (l.foldl f s).view = s.view
  | [], _ => rfl
  | a :: t, s => by
    have := foldl_view f h t (f s a)
    simp only [List.foldl] at *
    rw [this, h]


namespace State
@[simp] theorem view_ite (c : Prop) [Decidable c] (a b : State) : (if c then a else b).view = if c then a.view else b.view := apply_ite _ _ _ _

theorem view_mk (s : State) (fu : Fuse) (t : Tmb) (n : Net) (hf : fu.code = s.fuse.code) (ht : t.tc = s.tmb.tc) (ha : n.active = s.net.active) (hp : n.pending = s.net.pending)
    (out freeCtr lastRead rst boot host cmds dxq lpe axes eddy sch pwr ports acq twn spw tap) :
    (State.mk s.pending out freeCtr lastRead fu rst boot host cmds dxq t n lpe axes eddy sch pwr ports acq twn spw tap).view = s.view := by
  simp [view, hf, ht, ha, hp]
@[simp] theorem view_same (s : State) (out freeCtr lastRead rst boot host cmds dxq lpe axes eddy sch pwr ports acq twn spw tap) :
    (State.mk s.pending out freeCtr lastRead s.fuse rst boot host cmds dxq s.tmb s.net lpe axes eddy sch pwr ports acq twn spw tap).view = s.view := rfl
@[simp] theorem view_net (s : State) (n : Net) (ha : n.active = s.net.active) (hp : n.pending = s.net.pending)
    (out freeCtr lastRead rst boot host cmds dxq lpe axes eddy sch pwr ports acq twn spw tap) :
    (State.mk s.pending out freeCtr lastRead s.fuse rst boot host cmds dxq s.tmb n lpe axes eddy sch pwr ports acq twn spw tap).view = s.view := by
  simp [view, ha, hp]
@[simp] theorem view_tmb (s : State) (t : Tmb) (ht : t.tc = s.tmb.tc)
    (out freeCtr lastRead rst boot host cmds dxq lpe axes eddy sch pwr ports acq twn spw tap) :
    (State.mk s.pending out freeCtr lastRead s.fuse rst boot host cmds dxq t s.net lpe axes eddy sch pwr ports acq twn spw tap).view = s.view := by
  simp [view, ht]
end State

/-- Every state a verdict carries has this view. -/
def Verdict.keeps (w : View) : Verdict → Prop
  | .fail _ _ => True
  | .done _ s | .accept s | .later s | .refuse _ _ s => s.view = w

end Sys2Proof.Machine
end

