-- ==== Sys2Proof/Laws/ViewHost.lean ====
section
/-! SUPPORT. Frames on the view: rings, packets, interrupts, the scheduler and acquisition operations that others share, and axis states. -/
namespace Sys2Proof.Machine

@[simp] theorem State.free_view (s : State) (w : Nat) : (State.free s w).2.view = s.view := rfl

@[simp] theorem State.emit_view (s : State) (o : Out) : (State.emit s o).view = s.view := rfl

@[simp] theorem State.sendVector_view (s : State) (n : Nat) : (State.sendVector s n).view = s.view := by simp [State.sendVector]

@[simp] theorem State.raiseCause_view (s : State) (i : Nat) : (State.raiseCause s i).view = s.view := by simp [State.raiseCause]

@[simp] theorem State.signalRing_view (s : State) (n : Nat) : (State.signalRing s n).view = s.view := by simp [State.signalRing]

@[simp] theorem State.advanceTail_view (s : State) (n : Nat) : (State.advanceTail s n).view = s.view := by simp [State.advanceTail]

@[simp] theorem State.writeEvent_view (s : State) (n : Nat) (e : Evt) : (State.writeEvent s n e).view = s.view := by simp [State.writeEvent]

@[simp] theorem State.discardEvent_view (s : State) (n : Nat) (e : Evt) : (State.discardEvent s n e).view = s.view := rfl

@[simp] theorem State.flushOwed_view (s : State) (n : Nat) : (State.flushOwed s n).view = s.view := by simp [State.flushOwed]

@[simp] theorem State.flushHeld_view (s : State) : (State.flushHeld s).view = s.view := by
  unfold State.flushHeld
  repeat' split
  all_goals (first | rfl | simp [apply_ite Prod.snd])

@[simp] theorem State.postEvt_view (s : State) (e : Evt) : (State.postEvt s e).view = s.view := by
  unfold State.postEvt
  repeat' split
  all_goals (first | rfl | simp [apply_ite Prod.snd])

@[simp] theorem State.event_view (s : State) (code : Nat) (target : Nat) (data : List Byte) : (State.event s code target data).view = s.view := by simp [State.event]

@[simp] theorem State.postBootDone_view (s : State) (data : List Byte) : (State.postBootDone s data).view = s.view := by
  unfold State.postBootDone
  repeat' split
  all_goals (first | rfl | simp [apply_ite Prod.snd])

@[simp] theorem State.stopRing_view (s : State) (n : Nat) : (State.stopRing s n).view = s.view := by simp [State.stopRing]

@[simp] theorem State.writeCpl_view (s : State) (n : Nat) (c : Cpl) : (State.writeCpl s n c).view = s.view := by simp [State.writeCpl]

@[simp] theorem State.postCpl_view (s : State) (n : Nat) (c : Cpl) : (State.postCpl s n c).view = s.view := by simp [State.postCpl]

@[simp] theorem State.flushCpl_view (n : Nat) : ∀ (fuel : Nat) (s : State), (s.flushCpl n fuel).view = s.view
  | 0, _ => rfl
  | fuel + 1, s => by
    unfold State.flushCpl
    split
    · rfl
    · split
      · simp [State.flushCpl_view n fuel]
      · rfl

@[simp] theorem State.endScript_view (s : State) (state : Nat) : (State.endScript s state).view = s.view := by simp [State.endScript]

@[simp] theorem State.scriptReply_view (s : State) (status : Half) : (State.scriptReply s status).view = s.view := by
  unfold State.scriptReply
  repeat' split
  all_goals (first | rfl | simp [apply_ite Prod.snd])

@[simp] theorem State.reply_view (s : State) (p : Pkt) (status : Half) (detail : Half) (res : List Word) : (State.reply s p status detail res).view = s.view := by
  unfold State.reply
  repeat' split
  all_goals (first | rfl | simp [apply_ite Prod.snd])

@[simp] theorem State.commitTag_view (s : State) (p : Pkt) : (State.commitTag s p).view = s.view := by
  unfold State.commitTag
  repeat' split
  all_goals (first | rfl | simp [apply_ite Prod.snd])

@[simp] theorem State.finish_view (s : State) (p : Pkt) (res : List Word) : (State.finish s p res).view = s.view := by simp [State.finish]

@[simp] theorem State.settle_view (s : State) (p : Pkt) (v : Verdict) (h : v.keeps s.view) : (s.settle p v).view = s.view := by
  cases v <;> simp_all [State.settle, Verdict.keeps]

@[simp] theorem State.forwardTo_view (s : State) (opcode : Half) (p : Pkt) (n : Nat) (rest : BitVec 48) : (State.forwardTo s opcode p n rest).view = s.view := rfl

@[simp] theorem State.enqueueTwin_view (s : State) (opcode : Half) (p : Pkt) (t : Nat) (held : Bool) : (State.enqueueTwin s opcode p t held).view = s.view := rfl

@[simp] theorem State.dispatch_view (op : Op) (p : Pkt) (s : State) (h : ∀ x, (op.body x p s).keeps s.view) : (State.dispatch op p s).view = s.view := by
  have h0 := State.settle_view s p _ (h {})
  have h1 := h { due := some ((op.cycle p s).getD (s.k + 2)) }
  unfold State.dispatch
  extract_lets foreign t
  clear_value foreign
  split
  · exact h0
  · split
    · exact h0
    · exact h0
    · split <;> simp_all [Verdict.keeps, t]
    · simp

@[simp] theorem State.carry_view (op : Op) (p : Pkt) (s : State) (h : ∀ x q, (op.body x q s).keeps s.view) : (State.carry op p s).view = s.view := by
  have h0 := fun q => State.dispatch_view op q s fun x => h x q
  unfold State.carry
  repeat' split
  all_goals (first | exact h0 _ | rfl | simp)

@[simp] theorem State.enqueueDx_view (s : State) (opcode : Half) (p : Pkt) (due : Nat) : (State.enqueueDx s opcode p due).view = s.view := rfl

@[simp] theorem State.enqueueCmd_view (s : State) (opcode : Half) (p : Pkt) (cycle : Nat) : (State.enqueueCmd s opcode p cycle).view = s.view := rfl

@[simp] theorem State.rejectDoorbell_view (s : State) (n : Nat) : (State.rejectDoorbell s n).view = s.view := by simp [State.rejectDoorbell]

@[simp] theorem State.writeTail_view (s : State) (n : Nat) (v : Word) : (State.writeTail s n v).view = s.view := by simp [State.writeTail]

@[simp] theorem State.writeHead_view (s : State) (n : Nat) (v : Word) : (State.writeHead s n v).view = s.view := by simp [State.writeHead]

@[simp] theorem State.dropHeldFor_view (s : State) (n : Nat) : (State.dropHeldFor s n).view = s.view := rfl

@[simp] theorem State.writeRingCtrl_view (s : State) (n : Nat) (v : Word) : (State.writeRingCtrl s n v).view = s.view := by simp [State.writeRingCtrl]

@[simp] theorem State.moderationTimeout_view (s : State) (n : Nat) : (State.moderationTimeout s n).view = s.view := by simp [State.moderationTimeout]

@[simp] theorem State.clearCauses_view (s : State) (v : Word) : (State.clearCauses s v).view = s.view := rfl

@[simp] theorem State.unmaskCause_view (old : BitVec 4) (i : Nat) (s : State) : (State.unmaskCause old i s).view = s.view := by simp [State.unmaskCause]

@[simp] theorem State.writeMask_view (s : State) (v : Word) : (State.writeMask s v).view = s.view := by simp [State.writeMask]

@[simp] theorem State.clearIntx_view (s : State) (high : Bool) (v : Word) : (State.clearIntx s high v).view = s.view := rfl

@[simp] theorem State.resetHostIf_view (s : State) : (State.resetHostIf s).view = s.view := rfl

@[simp] theorem State.forwardReply_view (s : State) (id : Nat) (status : Half) (detail : Half) (result : List Word) : (State.forwardReply s id status detail result).view = s.view := by
  unfold State.forwardReply
  repeat' split
  all_goals (first | rfl | simp [apply_ite Prod.snd])

@[simp] theorem State.forwardLate_view (s : State) (id : Nat) : (State.forwardLate s id).view = s.view := by
  unfold State.forwardLate
  repeat' split
  all_goals (first | rfl | simp [apply_ite Prod.snd])

@[simp] theorem State.writeRoute_view (s : State) (v : Word) : (State.writeRoute s v).view = s.view := by simp [State.writeRoute]

@[simp] theorem State.startScript_view (s : State) : (State.startScript s).view = s.view := by simp [State.startScript]

@[simp] theorem State.fillFrom_view (s : State) (ta : Nat) : (State.fillFrom s ta).view = s.view := rfl

@[simp] theorem State.openRecord_view (s : State) (t : Nat) (c : Nat) : (State.openRecord s t c).view = s.view := rfl

@[simp] theorem State.acqTrigger_view (s : State) (t : Nat) (c : Nat) : (State.acqTrigger s t c).view = s.view := by
  unfold State.acqTrigger; dsimp only
  repeat' split
  all_goals (first | rfl | simp_all [apply_ite Prod.snd])

@[simp] theorem State.fireOne_view (s : State) (prev : Option Nat) (t : Nat) (c : Nat) : (State.fireOne s prev t c).view = s.view := by simp [State.fireOne]

theorem fireFold_view (l : List (Nat × Nat)) : ∀ (x : State × Option Nat),
    (l.foldl (fun x y => (State.fireOne x.1 x.2 y.1 y.2, some y.1)) x).1.view = x.1.view := by
  induction l with
  | nil => intro x; rfl
  | cons a t ih => intro x; simp [List.foldl, ih]

@[simp] theorem State.fireConds_view (s : State) (fs : List (Nat × Nat)) : (State.fireConds s fs).view = s.view := by
  unfold State.fireConds
  split
  · rfl
  · rw [fireFold_view]

@[simp] theorem State.fireEvent_view (s : State) (kind : Nat) (t : Nat) (test : Nat → Bool) : (State.fireEvent s kind t test).view = s.view := by simp [State.fireEvent]

@[simp] theorem State.acqMark_view (s : State) (input : Nat) (t : Nat) (rising : Bool) : (State.acqMark s input t rising).view = s.view := by simp [State.acqMark]

@[simp] theorem State.acqCompare_view (s : State) (axis : Nat) (n : Nat) (t : Nat) : (State.acqCompare s axis n t).view = s.view := by simp [State.acqCompare]

@[simp] theorem State.acqFault_view (s : State) (port : Bool) (unit : Nat) (t : Nat) : (State.acqFault s port unit t).view = s.view := by simp [State.acqFault]

@[simp] theorem State.pruneSamples_view (s : State) (ref : Nat) : (State.pruneSamples s ref).view = s.view := by simp [State.pruneSamples]

@[simp] theorem State.sampleLost_view (s : State) : (State.sampleLost s).2.view = s.view := by
  unfold State.sampleLost
  repeat' split
  all_goals (first | rfl | simp [apply_ite Prod.snd])

@[simp] theorem State.viewCopy_view (s : State) (r : QRec) : (State.viewCopy s r).view = s.view := by simp [State.viewCopy]

@[simp] theorem State.closeRecord_view (s : State) (r : QRec) : (State.closeRecord s r).view = s.view := by simp [State.closeRecord]

@[simp] theorem State.afterRecord_view (s : State) (r : QRec) : (State.afterRecord s r).view = s.view := by simp [State.afterRecord]

@[simp] theorem State.disarm_view (s : State) : (State.disarm s).view = s.view := by
  unfold State.disarm
  repeat' split
  all_goals (first | rfl | simp [apply_ite Prod.snd])

@[simp] theorem State.makeReady_view (s : State) (n : Nat) : (State.makeReady s n).view = s.view := rfl

@[simp] theorem State.enqueueTask_view (s : State) (n : Nat) (t : Task) : (State.enqueueTask s n t).view = s.view := by simp [State.enqueueTask]

@[simp] theorem State.postTask_view (s : State) (n : Nat) (arg : BitVec 48) (dt : Option Nat) : (State.postTask s n arg dt).view = s.view := by
  unfold State.postTask
  repeat' split
  all_goals (first | rfl | simp [apply_ite Prod.snd])

@[simp] theorem State.hold_view (s : State) (n : Nat) (h : Held) : (State.hold s n h).view = s.view := rfl

@[simp] theorem State.advanceHead_view (s : State) (n : Nat) : (State.advanceHead s n).view = s.view := by simp [State.advanceHead]

@[simp] theorem State.leaveHead_view (s : State) (n : Nat) : (State.leaveHead s n).view = s.view := by simp [State.leaveHead]

@[simp] theorem State.retryOne_view (h : Held) (s : State) : (State.retryOne h s).view = s.view := by
  unfold State.retryOne
  repeat' split
  all_goals (first | rfl | simp [apply_ite Prod.snd])

@[simp] theorem State.retryHeld_view (s : State) : (State.retryHeld s).view = s.view := by simp [State.retryHeld]

@[simp] theorem State.freeFlow_view (s : State) (n : Nat) : (State.freeFlow s n).view = s.view := by simp [State.freeFlow]

@[simp] theorem State.eventAxisState_view (s : State) (i : Nat) (new : AState) (old : AState) (reason : Nat) : (State.eventAxisState s i new old reason).view = s.view := by simp [State.eventAxisState]

@[simp] theorem State.setAState_view (s : State) (i : Nat) (new : AState) (reason : Nat) : (State.setAState s i new reason).view = s.view := by simp [State.setAState]

@[simp] theorem State.moveDone_view (s : State) (i : Nat) (result : Nat) (g : GState) (x : Int) (cycle : Nat) : (State.moveDone s i result g x cycle).view = s.view := by simp [State.moveDone]

@[simp] theorem State.stopSteps_view (s : State) (i : Nat) : (State.stopSteps s i).view = s.view := by
  unfold State.stopSteps
  repeat' split
  all_goals (first | rfl | simp [apply_ite Prod.snd])

@[simp] theorem State.reportDone_view (s : State) (i : Nat) : (State.reportDone s i).view = s.view := by
  unfold State.reportDone; dsimp only
  repeat' split
  all_goals (first | rfl | simp_all [apply_ite Prod.snd])

@[simp] theorem State.endMotion_view (s : State) (i : Nat) : (State.endMotion s i).view = s.view := by
  simp [State.endMotion, apply_ite State.view]

@[simp] theorem State.startRamp_view (s : State) (i : Nat) (dec : Nat) (inComp : Bool) : (State.startRamp s i dec inComp).view = s.view := by
  simp [State.startRamp, apply_ite State.view]

@[simp] theorem State.takeAction_view (s : State) (i : Nat) (code : Nat) (action : Nat) (inComp : Bool) : (State.takeAction s i code action inComp).view = s.view := by simp [State.takeAction]

@[simp] theorem State.eventAxisFault_view (s : State) (i : Nat) (code : Nat) (action : Nat) : (State.eventAxisFault s i code action).view = s.view := by simp [State.eventAxisFault]

@[simp] theorem State.recordCause_view (s : State) (i : Nat) (code : Nat) : (State.recordCause s i code).view = s.view := by simp [State.recordCause]

@[simp] theorem State.faultCause_view (s : State) (i : Nat) (code : Nat) (inComp : Bool) : (State.faultCause s i code inComp).view = s.view := by
  unfold State.faultCause
  extract_lets a s' act r e s1
  have h : s'.view = s.view := by simp [s']
  have h1 : s1.view = s.view := by simp [s1, h]
  clear_value s' s1
  split
  · rfl
  · split <;> simp [h, h1]

@[simp] theorem State.causeClear_view (s : State) (i : Nat) (code : Nat) : (State.causeClear s i code).view = s.view := rfl

@[simp] theorem State.endStopping_view (s : State) (i : Nat) (reason : Nat) : (State.endStopping s i reason).view = s.view := by simp [State.endStopping]

@[simp] theorem State.standstill_view (s : State) (i : Nat) : (State.standstill s i).view = s.view := by simp [State.standstill]

@[simp] theorem State.stopTimeout_view (s : State) (i : Nat) : (State.stopTimeout s i).view = s.view := by simp [State.stopTimeout]

@[simp] theorem State.missLimit_view (s : State) (i : Nat) : (State.missLimit s i).view = s.view := by simp [State.missLimit]

@[simp] theorem State.followingError_view (s : State) (i : Nat) (inComp : Bool) : (State.followingError s i inComp).view = s.view := by simp [State.followingError]

end Sys2Proof.Machine
end

