-- ==== Sys2Proof/Laws/ViewAxis.lean ====
section
/-! SUPPORT. Frames on the view: the servo law, feedback, profiles, local ports, axis records and the loop. -/
namespace Sys2Proof.Machine

@[simp] theorem State.setFlag_view (s : State) (i : Nat) (f : BitVec 20) : (State.setFlag s i f).view = s.view := rfl

@[simp] theorem State.commitMovePar_view (s : State) (i : Nat) (m : MovePar) : (State.commitMovePar s i m).view = s.view := by simp [State.commitMovePar]

@[simp] theorem State.commitMove_view (p : Pkt) (s : State) : (State.commitMove p s).view = s.view := by simp [State.commitMove]

@[simp] theorem State.commitPendMove_view (s : State) (i : Nat) : (State.commitPendMove s i).view = s.view := by
  unfold State.commitPendMove; dsimp only
  repeat' split
  all_goals (first | rfl | simp_all [apply_ite Prod.snd])

@[simp] theorem State.commitStop_view (p : Pkt) (s : State) : (State.commitStop p s).view = s.view := by simp [State.commitStop]

@[simp] theorem State.engage_view (s : State) (i : Nat) (mode : Nat) (g : Gear) (dec : Nat) : (State.engage s i mode g dec).view = s.view := by simp [State.engage]

@[simp] theorem State.commitGearSet_view (p : Pkt) (s : State) : (State.commitGearSet p s).view = s.view := by simp [State.commitGearSet]

@[simp] theorem State.commitPendGear_view (s : State) (i : Nat) : (State.commitPendGear s i).view = s.view := by
  unfold State.commitPendGear; dsimp only
  repeat' split
  all_goals (first | rfl | simp_all [apply_ite Prod.snd])

@[simp] theorem State.gearStep_view (s : State) (i : Nat) : (State.gearStep s i).view = s.view := rfl

@[simp] theorem State.bindHome_view (s : State) (p : Pkt) : (State.bindHome s p).view = s.view := rfl

@[simp] theorem State.commitHome_view (p : Pkt) (s : State) : (State.commitHome p s).view = s.view := by simp [State.commitHome]

@[simp] theorem State.homeFound_view (s : State) (i : Nat) (x : Int) : (State.homeFound s i x).view = s.view := rfl

@[simp] theorem State.homeRest_view (s : State) (i : Nat) : (State.homeRest s i).view = s.view := by
  unfold State.homeRest; dsimp only
  repeat' split
  all_goals (first | rfl | simp_all [apply_ite Prod.snd])

@[simp] theorem State.homeIndex_view (s : State) (i : Nat) (count : Word) : (State.homeIndex s i count).view = s.view := by simp [State.homeIndex]

@[simp] theorem State.hardStop_view (s : State) (i : Nat) : (State.hardStop s i).view = s.view := by simp [State.hardStop]

@[simp] theorem State.limitCheck_view (s : State) (i : Nat) : (State.limitCheck s i).view = s.view := by simp [State.limitCheck]

@[simp] theorem State.homeLimit_view (s : State) (i : Nat) (neg : Bool) (count : Word) : (State.homeLimit s i neg count).view = s.view := by simp [State.homeLimit]

@[simp] theorem State.inputQualified_view (s : State) (i : Nat) (pin : InPin) (level : Bool) (count : Word) : (State.inputQualified s i pin level count).view = s.view := by
  unfold State.inputQualified
  repeat' split
  all_goals (first | rfl | simp [apply_ite Prod.snd])

@[simp] theorem State.eventCompare_view (s : State) (i : Nat) (n : Nat) (passed : Bool) (hw : Bool) (added : Nat) (ns : Nat) (pos : Int) : (State.eventCompare s i n passed hw added ns pos).view = s.view := by simp [State.eventCompare]

@[simp] theorem State.fireCompare_view (s : State) (i : Nat) (n : Nat) (ns : Nat) (frac : Nat) (passed : Bool) (hw : Bool) (added : Nat) : (State.fireCompare s i n ns frac passed hw added).view = s.view := by simp [State.fireCompare]

@[simp] theorem State.commitCompareSet_view (p : Pkt) (s : State) : (State.commitCompareSet p s).view = s.view := by simp [State.commitCompareSet]

@[simp] theorem State.comparesAtIn_view (s : State) (i : Nat) (prev : Int × Nat) (now : Int × Nat) : (State.comparesAtIn s i prev now).view = s.view := by simp [State.comparesAtIn]

@[simp] theorem State.comparesAtPin_view (s : State) (i : Nat) (prev : Int) (now : Int) : (State.comparesAtPin s i prev now).view = s.view := by simp [State.comparesAtPin]

@[simp] theorem State.markEntry_view (s : State) (i : Nat) (ns : Nat) (frac : Half) (input : Nat) (rising : Bool) (span : Bool) (x16 : Int) (cycle : Nat) : (State.markEntry s i ns frac input rising span x16 cycle).view = s.view := rfl

@[simp] theorem State.offerMark_view (ns : Nat) (frac : Half) (input : Nat) (rising : Bool) (count : Nat → Option Word) (i : Nat) (s : State) : (State.offerMark ns frac input rising count i s).view = s.view := by
  unfold State.offerMark
  repeat' split
  all_goals (first | rfl | simp [apply_ite Prod.snd])

@[simp] theorem State.closeMarks_view (s : State) (i : Nat) (now : Int × Nat) : (State.closeMarks s i now).view = s.view := by
  unfold State.closeMarks
  dsimp only
  rw [runAll_view]
  · simp
  · intro x s
    repeat' split
    all_goals simp

@[simp] theorem State.writeMarkRd_view (s : State) (i : Nat) (v : Word) : (State.writeMarkRd s i v).view = s.view := rfl

@[simp] theorem State.writeRef_view (s : State) (i : Nat) : (State.writeRef s i).view = s.view := rfl

@[simp] theorem State.holdNear_view (s : State) (i : Nat) : (State.holdNear s i).view = s.view := rfl

@[simp] theorem State.genAxis_view (i : Nat) (s : State) : (State.genAxis i s).view = s.view := by
  unfold State.genAxis
  dsimp only
  repeat' split
  all_goals simp

@[simp] theorem State.generators_view (s : State) : (State.generators s).view = s.view := by simp [State.generators]

@[simp] theorem State.latchFault_view (s : State) (n : Nat) (cause : Nat) : (State.latchFault s n cause).view = s.view := by
  unfold State.latchFault; dsimp only
  repeat' split
  all_goals (first | rfl | simp_all [apply_ite Prod.snd])

@[simp] theorem State.clearLatch_view (s : State) (n : Nat) : (State.clearLatch s n).view = s.view := by
  unfold State.clearLatch; dsimp only
  repeat' split
  all_goals (first | rfl | simp_all [apply_ite Prod.snd])

@[simp] theorem State.writeFltclr_view (s : State) (n : Nat) (v : Word) : (State.writeFltclr s n v).view = s.view := by simp [State.writeFltclr]

@[simp] theorem State.faultPin_view (s : State) (n : Nat) (bit : Nat) (pin : Nat) (asserted : Bool) (acts : Bool) : (State.faultPin s n bit pin asserted acts).view = s.view := by simp [State.faultPin]

@[simp] theorem State.faultN_view (s : State) (n : Nat) (asserted : Bool) : (State.faultN s n asserted).view = s.view := by simp [State.faultN]

@[simp] theorem State.gfaultN_view (s : State) (asserted : Bool) : (State.gfaultN s asserted).view = s.view := by simp [State.gfaultN]

@[simp] theorem State.overcurrent_view (s : State) (n : Nat) : (State.overcurrent s n).view = s.view := by simp [State.overcurrent]

@[simp] theorem State.fbLoss_view (s : State) (n : Nat) : (State.fbLoss s n).view = s.view := by simp [State.fbLoss]

@[simp] theorem State.flagPort_view (s : State) (n : Nat) (f : BitVec 20) : (State.flagPort s n f).view = s.view := by
  unfold State.flagPort
  repeat' split
  all_goals (first | rfl | simp [apply_ite Prod.snd])

@[simp] theorem State.sdStuck_view (s : State) (n : Nat) (ch : Nat) : (State.sdStuck s n ch).view = s.view := by simp [State.sdStuck]

@[simp] theorem State.emuRun_view (t : Nat) (n : Nat) (s : State) : (State.emuRun t n s).view = s.view := by
  unfold State.emuRun
  repeat' split
  all_goals (first | rfl | simp [apply_ite Prod.snd])

@[simp] theorem State.emuAll_view (s : State) : (State.emuAll s).view = s.view := by simp [State.emuAll]

@[simp] theorem State.emuCycle_view (n : Nat) (s : State) : (State.emuCycle n s).view = s.view := by simp [State.emuCycle]

@[simp] theorem State.emuRefPath_view (n : Nat) (s : State) : (State.emuRefPath n s).view = s.view := by simp [State.emuRefPath]

@[simp] theorem State.emuFbPath_view (n : Nat) (s : State) : (State.emuFbPath n s).view = s.view := by
  unfold State.emuFbPath; dsimp only
  repeat' split
  all_goals (first | rfl | simp_all [apply_ite Prod.snd])

@[simp] theorem State.quadratureEdge_view (s : State) (n : Nat) (a b : Bool) : (State.quadratureEdge s n a b).view = s.view := by
  unfold State.quadratureEdge
  extract_lets p s' turn s2
  have h : s'.view = s.view := by simp [s']
  have h2 : s2.view = s.view := by simp [s2, h]
  clear_value s' s2 turn
  repeat' split
  all_goals simp [h, h2]

@[simp] theorem State.indexEvent_view (s : State) (n : Nat) : (State.indexEvent s n).view = s.view := by
  unfold State.indexEvent
  extract_lets p expect cpr act home d s1 s2 s3
  have hh : ∀ s, (home s).view = s.view := by intro s; simp only [home]; split <;> simp
  have h1 : s1.view = s.view := by simp [s1]
  have h2 : s2.view = s.view := by simp only [s2]; split <;> simp [h1]
  have h3 : s3.view = s.view := by simp only [s3]; split <;> simp [h2]
  clear_value s1 s2 s3 home
  repeat' split
  all_goals simp [hh, h3]

@[simp] theorem State.serialStart_view (s : State) (n : Nat) : (State.serialStart s n).view = s.view := by simp [State.serialStart]

@[simp] theorem State.extrapolated_view (s : State) (p : Word) (prev : Word) (lead : Nat) : (State.extrapolated s p prev lead).2.view = s.view := by
  unfold State.extrapolated; dsimp only
  repeat' split
  all_goals (first | rfl | simp_all [apply_ite Prod.snd])

@[simp] theorem State.serialEnd_view (s : State) (n : Nat) (started : Bool) (crcOk : Bool) (data : DWord) (delay5 : Nat) : (State.serialEnd s n started crcOk data delay5).view = s.view := by
  unfold State.serialEnd; dsimp only
  repeat' split
  all_goals (first | rfl | simp_all [apply_ite Prod.snd])

@[simp] theorem State.periodBoundary_view (s : State) (n : Nat) : (State.periodBoundary s n).view = s.view := by simp [State.periodBoundary]

@[simp] theorem State.writePeriod_view (s : State) (n : Nat) (v : Word) : (State.writePeriod s n v).view = s.view := rfl

@[simp] theorem State.writeCmp_view (s : State) (n : Nat) (pair : Nat) (v : Word) : (State.writeCmp s n pair v).view = s.view := by simp [State.writeCmp]

@[simp] theorem State.writeCommit_view (s : State) (n : Nat) (v : Word) : (State.writeCommit s n v).view = s.view := rfl

@[simp] theorem State.stepEdge_view (s : State) (n : Nat) (dir : Bool) (ns : Nat) : (State.stepEdge s n dir ns).view = s.view := by simp [State.stepEdge]

@[simp] theorem State.stepFree_view (n : Nat) (s : State) : (State.stepFree n s).view = s.view := by
  unfold State.stepFree
  repeat' split
  all_goals (first | rfl | simp [apply_ite Prod.snd])

@[simp] theorem State.latchPort_view (ins : List PortIn) (n : Nat) (s : State) : (State.latchPort ins n s).view = s.view := by simp [State.latchPort]

@[simp] theorem State.cmdState_view (s : State) (i : Nat) (new : AState) (reason : Nat) : (State.cmdState s i new reason).view = s.view := by simp [State.cmdState]

@[simp] theorem State.putSet_view (s : State) (p : Pkt) : (State.putSet s p).view = s.view := rfl

@[simp] theorem State.commitParamsetWrite_view (p : Pkt) (s : State) : (State.commitParamsetWrite p s).view = s.view := by simp [State.commitParamsetWrite]

@[simp] theorem State.paramsetSwitch_view (s : State) : (State.paramsetSwitch s).view = s.view := rfl

@[simp] theorem State.writeMbx_view (s : State) (eddy : Bool) (axis : Nat) (slot : Nat) (off : Nat) (v : Word) : (State.writeMbx s eddy axis slot off v).view = s.view := by simp [State.writeMbx]

@[simp] theorem State.clearSticky_view (s : State) (i : Nat) (v : Word) : (State.clearSticky s i v).view = s.view := rfl

@[simp] theorem State.unfreeze_view (s : State) (i : Nat) : (State.unfreeze s i).view = s.view := rfl

@[simp] theorem State.writeHistCtrl_view (s : State) (i : Nat) (v : Word) : (State.writeHistCtrl s i v).view = s.view := by simp [State.writeHistCtrl]

@[simp] theorem State.freezeHistory_view (s : State) (i : Nat) : (State.freezeHistory s i).view = s.view := rfl

@[simp] theorem State.recWrite_view (s : State) (eddy : Bool) (i : Nat) (off : Nat) (v : Word) : (State.recWrite s eddy i off v).view = s.view := by simp [State.recWrite]

@[simp] theorem State.recWriteHalf_view (s : State) (eddy : Bool) (i : Nat) (off : Nat) (upper : Bool) (h : Half) : (State.recWriteHalf s eddy i off upper h).view = s.view := by simp [State.recWriteHalf]

@[simp] theorem State.feTimer_view (s : State) (i : Nat) : (State.feTimer s i).view = s.view := by simp [State.feTimer]

@[simp] theorem State.nodeFault_view (s : State) (i : Nat) : (State.nodeFault s i).view = s.view := by simp [State.nodeFault]

@[simp] theorem State.dueRamp_view (s : State) (i : Nat) : (State.dueRamp s i).view = s.view := by
  simp [State.dueRamp]

@[simp] theorem State.hallStart_view (s : State) (i : Nat) : (State.hallStart s i).view = s.view := by
  unfold State.hallStart; dsimp only
  repeat' split
  all_goals (first | rfl | simp_all [apply_ite Prod.snd])

@[simp] theorem State.atIn_view (s : State) (i : Nat) (p : Word) : (State.atIn s i p).view = s.view := by
  unfold State.atIn
  dsimp only
  rw [State.closeMarks_view]
  split <;> simp

@[simp] theorem State.countStill_view (s : State) (i : Nat) : (State.countStill s i).view = s.view := by simp [State.countStill]

@[simp] theorem State.countTorque_view (s : State) (i : Nat) : (State.countTorque s i).view = s.view := by simp [State.countTorque]

@[simp] theorem State.computeAxis_view (s : State) (i : Nat) (r : Recipe) (f : Fb) (done : Nat) : (State.computeAxis s i r f done).view = s.view := by simp [State.computeAxis]

@[simp] theorem State.startLattice_view (s : State) (l : Nat) : (State.startLattice s l).view = s.view := by
  unfold State.startLattice
  exact (runAll_view _ (fun x s => by simp) _ _).trans (by simp)

@[simp] theorem State.latticeStart_view (s : State) (l : Nat) : (State.latticeStart s l).view = s.view := by simp [State.latticeStart]

@[simp] theorem State.axisCompute_view (s : State) (l pipe done : Nat) : (State.axisCompute s l pipe done).view = s.view := by
  unfold State.axisCompute
  dsimp only
  split
  · split <;> simp
  · rfl

end Sys2Proof.Machine
end

