-- ==== Sys2Proof/Laws/ViewNet.lean ====
section
/-! SUPPORT. Frames on the view: frames, walks, joins, generations, service messages and time. -/
namespace Sys2Proof.Machine

@[simp] theorem State.sendSvc_view (s : State) (n : Nat) (kind : Half) (words : List Word) : (State.sendSvc s n kind words).view = s.view := rfl

@[simp] theorem State.sendCfg_view (s : State) (n : Nat) (c : NodeCfg) : (State.sendCfg s n c).view = s.view := rfl

@[simp] theorem State.checkLoaded_view (s : State) : (State.checkLoaded s).view = s.view := by
  unfold State.checkLoaded
  repeat' split
  all_goals (first | rfl | simp [apply_ite Prod.snd])

@[simp] theorem State.joinAcked_view (s : State) (port : Nat) : (State.joinAcked s port).view = s.view := by
  unfold State.joinAcked
  repeat' split
  all_goals (first | rfl | simp [apply_ite Prod.snd])

@[simp] theorem State.joinAck_view (s : State) (port : Nat) (id : DWord) : (State.joinAck s port id).view = s.view := by
  unfold State.joinAck
  repeat' split
  all_goals (first | rfl | simp [apply_ite Prod.snd])

@[simp] theorem State.recordAck_view (s : State) (n : Nat) (genFirst : Half) : (State.recordAck s n genFirst).view = s.view := by simp [State.recordAck]

@[simp] theorem State.eventNodeLost_view (s : State) (n : Nat) (reason : Nat) : (State.eventNodeLost s n reason).view = s.view := by simp [State.eventNodeLost]

@[simp] theorem State.eventNodeJoined_view (s : State) (n : Option Nat) (port : Nat) (pos : Nat) (kind : Nat) (reason : Nat) (gen : Nat) (id : DWord) (c : Nat) : (State.eventNodeJoined s n port pos kind reason gen id c).view = s.view := by simp [State.eventNodeJoined]

@[simp] theorem State.eventRingTurned_view (s : State) (port : Nat) (turned : Bool) (lo : Option Nat) (hi : Option Nat) : (State.eventRingTurned s port turned lo hi).view = s.view := by simp [State.eventRingTurned]

@[simp] theorem State.freeNode_view (s : State) (n : Nat) : (State.freeNode s n).view = s.view := rfl

@[simp] theorem State.setStat_view (s : State) (port : Nat) (bit : Nat) : (State.setStat s port bit).view = s.view := rfl

@[simp] theorem State.modSnap_view (s : State) (id : Nat) (f : Snap → Snap) : (State.modSnap s id f).view = s.view := rfl

@[simp] theorem State.snapStart_view (s : State) (id : Nat) (t : Nat) (scope : Nat) (pkt : Option Pkt) : (State.snapStart s id t scope pkt).view = s.view := by
  unfold State.snapStart
  exact (runAll_view _ (fun x s => by simp) _ _).trans (by simp)

@[simp] theorem State.snapCheck_view (s : State) (id : Nat) : (State.snapCheck s id).view = s.view := by
  unfold State.snapCheck; dsimp only
  repeat' split
  all_goals (first | rfl | simp_all [apply_ite Prod.snd])

@[simp] theorem State.dropCmd_view (s : State) (opcode : Half) (p : Option Pkt) : (State.dropCmd s opcode p).view = s.view := by
  unfold State.dropCmd
  repeat' split
  all_goals (first | rfl | simp [apply_ite Prod.snd])

@[simp] theorem State.snapAnswer_view (s : State) (id : Nat) (t : Nat) (late : Bool) : (State.snapAnswer s id t late).view = s.view := rfl

@[simp] theorem State.snapLatch_view (s : State) (id : Nat) : (State.snapLatch s id).view = s.view := by
  unfold State.snapLatch; dsimp only
  repeat' split
  all_goals (first | rfl | simp_all [apply_ite Prod.snd])

@[simp] theorem State.snapReport_view (s : State) (n : Nat) (id : Nat) (late : Bool) (latch : Nat) (data : List Byte) : (State.snapReport s n id late latch data).view = s.view := by simp [State.snapReport]

@[simp] theorem State.snapTimeout_view (s : State) (id : Nat) : (State.snapTimeout s id).view = s.view := by
  unfold State.snapTimeout; dsimp only
  repeat' split
  all_goals (first | rfl | simp_all [apply_ite Prod.snd])

@[simp] theorem State.snapRequest_view (s : State) (id : Nat) (t : Nat) : (State.snapRequest s id t).view = s.view := by simp [State.snapRequest]

@[simp] theorem State.delivered_view (s : State) (m : SvcMsg) : (State.delivered s m).view = s.view := by
  unfold State.delivered
  repeat' split
  all_goals (first | rfl | simp [apply_ite Prod.snd])

@[simp] theorem State.downAcked_view (s : State) (port : Nat) (g : Seg) : (State.downAcked s port g).view = s.view := by
  unfold State.downAcked
  repeat' split
  all_goals (first | rfl | simp [apply_ite Prod.snd])

@[simp] theorem State.replyMessage_view (s : State) (n : Nat) (ws : List Word) : (State.replyMessage s n ws).view = s.view := by
  unfold State.replyMessage; dsimp only
  repeat' split
  all_goals (first | rfl | simp_all [apply_ite Prod.snd])

@[simp] theorem State.makerMessage_view (s : State) (n : Nat) (ws : List Word) : (State.makerMessage s n ws).view = s.view := by
  unfold State.makerMessage
  repeat' split
  all_goals (first | rfl | simp [apply_ite Prod.snd])

@[simp] theorem State.received_view (s : State) (n : Nat) (ws : List Word) : (State.received s n ws).view = s.view := by simp [State.received]

@[simp] theorem State.upFilled_view (s : State) (g : Seg) : (State.upFilled s g).view = s.view := by simp [State.upFilled]

@[simp] theorem State.badFcs_view (s : State) (port : Nat) : (State.badFcs s port).view = s.view := rfl

@[simp] theorem State.segmentReturn_view (s : State) (port : Nat) (fcsOk : Bool) (segs : List Seg) : (State.segmentReturn s port fcsOk segs).view = s.view := by simp [State.segmentReturn]

@[simp] theorem State.mailboxTimeout_view (s : State) (n : Nat) : (State.mailboxTimeout s n).view = s.view := by
  unfold State.mailboxTimeout
  repeat' split
  all_goals (first | rfl | simp [apply_ite Prod.snd])

@[simp] theorem State.fDepartures_view (s : State) : (State.fDepartures s).view = s.view := by
  unfold State.fDepartures
  repeat' split
  all_goals (first | rfl | simp [apply_ite Prod.snd])

@[simp] theorem State.overPlan_view (s : State) (port : Nat) (derived : Bool) (instant : Nat) (limit : Nat) (cycle : Nat) : (State.overPlan s port derived instant limit cycle).view = s.view := by simp [State.overPlan]

@[simp] theorem State.flagNode_view (s : State) (n : Nat) (f : BitVec 20) : (State.flagNode s n f).view = s.view := rfl

@[simp] theorem State.judgeSlot_view (s : State) (x : FSlot) : (State.judgeSlot s x).view = s.view := by simp [State.judgeSlot]

@[simp] theorem State.takeSlot_view (dir : Bool) (x : FSlot) (s : State) : (State.takeSlot dir x s).view = s.view := by simp [State.takeSlot]

@[simp] theorem State.noteLoop_view (s : State) (f : FFrame) : (State.noteLoop s f).view = s.view := by simp [State.noteLoop]

@[simp] theorem State.fArrival_view (s : State) (f : FFrame) : (State.fArrival s f).view = s.view := by simp [State.fArrival]

@[simp] theorem State.cReturn_view (s : State) (port : Nat) (cycle : Word) (atNs : Nat) (fcsOk : Bool) (looped : Bool) (dir : Bool) : (State.cReturn s port cycle atNs fcsOk looped dir).view = s.view := by
  unfold State.cReturn
  repeat' split
  all_goals (first | rfl | simp [apply_ite Prod.snd])

@[simp] theorem State.nodeLost_view (s : State) (n : Nat) : (State.nodeLost s n).view = s.view := by simp [State.nodeLost]

@[simp] theorem State.graceExpiry_view (s : State) (n : Nat) : (State.graceExpiry s n).view = s.view := by
  unfold State.graceExpiry
  repeat' split
  all_goals (first | rfl | simp [apply_ite Prod.snd])

@[simp] theorem State.linkDown_view (s : State) (port : Nat) : (State.linkDown s port).view = s.view := by simp [State.linkDown]

@[simp] theorem State.linkUp_view (s : State) (port : Nat) (fullDuplex : Bool) (negotiated : Bool) : (State.linkUp s port fullDuplex negotiated).view = s.view := by simp [State.linkUp]

@[simp] theorem State.writeEtype_view (s : State) (v : Word) : (State.writeEtype s v).view = s.view := by simp [State.writeEtype]

@[simp] theorem State.writeClaim_view (s : State) (v : Word) : (State.writeClaim s v).view = s.view := by simp [State.writeClaim]

@[simp] theorem State.dlyDrift_view (s : State) (port : Nat) : (State.dlyDrift s port).view = s.view := by
  unfold State.dlyDrift
  repeat' split
  all_goals (first | rfl | simp [apply_ite Prod.snd])

@[simp] theorem State.walkFail_view (s : State) (port : Nat) (status : Half) (detail : Half) : (State.walkFail s port status detail).view = s.view := by
  unfold State.walkFail
  repeat' split
  all_goals (first | rfl | simp [apply_ite Prod.snd])

@[simp] theorem State.freeHops_view : ∀ (n : Nat) (s : State), (State.freeHops n s).2.view = s.view
  | 0, _ => rfl
  | n + 1, s => by
    have := State.freeHops_view n (s.free 24).2
    simpa [State.freeHops] using this

@[simp] theorem State.setDelays_view (s : State) (port : Nat) (looped : Bool) (aH16 : Nat) (dH16 : Nat) (xs : List Stamps) : (State.setDelays s port looped aH16 dH16 xs).view = s.view := by simp [State.setDelays]

@[simp] theorem State.linkPorts_view (s : State) (port : Nat) (w : Walk) : (State.linkPorts s port w).view = s.view := by simp [State.linkPorts]

@[simp] theorem State.walkCommit_view (s : State) (port : Nat) (w : Walk) (looped : Bool) (aH16 dH16 : Nat) (free : List Nat)
    (found : List (Nat × Bool × NodeRec)) : (State.walkCommit s port w looped aH16 dH16 free found).view = s.view := by
  unfold State.walkCommit
  extract_lets n s1 s2 s3 s4 kept w2
  have h1 : s1.view = s.view := (runAll_view _ (fun x s => by simp) _ _).trans rfl
  have h2 : s2.view = s.view := by simp [s2, h1]
  have h3 : s3.view = s.view := by simp [s3, h2]
  have h4 : s4.view = s.view := (runAll_view _ (fun x s => by simp) _ _).trans h3
  clear_value s1 s2 s3 s4
  split <;> simp [h4]

@[simp] theorem State.walkReturn_view (s : State) (port : Nat) (far : Bool) (looped : Bool) (aH16 : Nat) (dH16 : Nat) (recs : List NodeRec) : (State.walkReturn s port far looped aH16 dH16 recs).view = s.view := by
  unfold State.walkReturn; dsimp only
  repeat' split
  all_goals (first | rfl | simp_all [apply_ite Prod.snd])

@[simp] theorem State.walkTimeout_view (s : State) (port : Nat) : (State.walkTimeout s port).view = s.view := by
  unfold State.walkTimeout
  repeat' split
  all_goals (first | rfl | simp [apply_ite Prod.snd])

@[simp] theorem State.assignAck_view (s : State) (port : Nat) (acks : List DWord) : (State.assignAck s port acks).view = s.view := by
  unfold State.assignAck
  extract_lets s1 s2
  have h1 : s1.view = s.view := by
    refine (runAll_view _ (fun id s => ?_) _ _)
    repeat' split
    all_goals simp
  have h2 : s2.view = s.view := (runAll_view _ (fun x s => by simp) _ _).trans h1
  clear_value s1 s2
  repeat' split
  all_goals simp [h2]

@[simp] theorem State.dHandover_view (s : State) (port : Nat) (looped : Bool) (dH16 : Nat) (recs : List NodeRec) : (State.dHandover s port looped dH16 recs).view = s.view := by
  unfold State.dHandover
  repeat' split
  all_goals (first | rfl | simp [apply_ite Prod.snd])

@[simp] theorem State.modDomain_view (s : State) (d : Dom) (f : Domain → Domain) : (State.modDomain s d f).view = s.view := by
  unfold State.modDomain
  repeat' split
  all_goals (first | rfl | simp [apply_ite Prod.snd])

@[simp] theorem State.slew_view (s : State) : (State.slew s).view = s.view := by simp [State.slew]

@[simp] theorem State.tick_view (s : State) : (State.tick s).view = s.view := by simp [State.tick]

@[simp] theorem State.slewingEnd_view (s : State) : (State.slewingEnd s).view = s.view := by simp [State.slewingEnd]

@[simp] theorem State.eventSwitch_view (s : State) (new : Dom) (prev : Nat) (reason : Nat) : (State.eventSwitch s new prev reason).view = s.view := by simp [State.eventSwitch]

@[simp] theorem State.eventHoldover_view (s : State) (entered : Bool) : (State.eventHoldover s entered).view = s.view := by simp [State.eventHoldover]

@[simp] theorem State.selectDomain_view (s : State) (d : Dom) (reason : Nat) : (State.selectDomain s d reason).view = s.view := by simp [State.selectDomain]

@[simp] theorem State.leaveHoldover_view (s : State) : (State.leaveHoldover s).view = s.view := by simp [State.leaveHoldover]

@[simp] theorem State.domainLocked_view (s : State) (d : Dom) : (State.domainLocked s d).view = s.view := by simp [State.domainLocked]

@[simp] theorem State.domainLeft_view (s : State) (d : Dom) : (State.domainLeft s d).view = s.view := by simp [State.domainLeft]

@[simp] theorem State.offsetTaken_view (s : State) (d : Dom) (θ : Int) : (State.offsetTaken s d θ).view = s.view := by simp [State.offsetTaken]

@[simp] theorem State.domainLost_view (s : State) (d : Dom) : (State.domainLost s d).view = s.view := by
  unfold State.domainLost
  repeat' split
  all_goals (first | rfl | simp [apply_ite Prod.snd])

@[simp] theorem State.autoRevert_view (s : State) : (State.autoRevert s).view = s.view := by
  unfold State.autoRevert
  repeat' split
  all_goals (first | rfl | simp [apply_ite Prod.snd])

@[simp] theorem State.writeIncrNom_view (s : State) (v : DWord) : (State.writeIncrNom s v).view = s.view := rfl

@[simp] theorem State.readSrvNs_view (s : State) : (State.readSrvNs s).view = s.view := rfl

@[simp] theorem State.announceFor_view (uplink : Nat) (a : Announce) (d : Dom) (s : State) : (State.announceFor uplink a d s).view = s.view := by simp [State.announceFor]

@[simp] theorem State.announce_view (s : State) (uplink : Nat) (a : Announce) : (State.announce s uplink a).view = s.view := by simp [State.announce]

@[simp] theorem State.ptpTransmit_view (s : State) (d : Dom) (kind : PtpKind) (turnaround16 : Nat) : (State.ptpTransmit s d kind turnaround16).view = s.view := by
  unfold State.ptpTransmit
  repeat' split
  all_goals (first | rfl | simp [apply_ite Prod.snd])

@[simp] theorem State.ptpDelay_view (s : State) (d : Dom) (kind : PtpKind) (stamp16 : Nat) : (State.ptpDelay s d kind stamp16).view = s.view := by
  unfold State.ptpDelay
  repeat' split
  all_goals (first | rfl | simp [apply_ite Prod.snd])

@[simp] theorem State.dropRecords_view (s : State) : (State.dropRecords s).view = s.view := by
  unfold State.dropRecords
  repeat' split
  all_goals (first | rfl | simp [apply_ite Prod.snd])

@[simp] theorem State.distribute_view (s : State) (g : GenImage) : (State.distribute s g).view = s.view := by
  unfold State.distribute
  refine runAll_view _ (fun x s => ?_) _ _
  dsimp only
  repeat' split
  all_goals simp

@[simp] theorem State.distTimeout_view (s : State) : (State.distTimeout s).view = s.view := by simp [State.distTimeout]

@[simp] theorem State.probeSend_view (s : State) : (State.probeSend s).view = s.view := by simp [State.probeSend]

@[simp] theorem State.refreshRecords_view (s : State) (port : Nat) : (State.refreshRecords s port).view = s.view := by
  unfold State.refreshRecords
  refine runAll_view _ (fun x s => ?_) _ _
  dsimp only
  repeat' split
  all_goals simp

@[simp] theorem State.joinRefused_view (s : State) (port : Nat) (base : Nat) (reason : Nat) (recs : List NodeRec) : (State.joinRefused s port base reason recs).view = s.view := by simp [State.joinRefused]

@[simp] theorem State.postJoined_view (s : State) (port : Nat) : (State.postJoined s port).view = s.view := by simp [State.postJoined]

@[simp] theorem State.recloseActivate_view (s : State) (port : Nat) : (State.recloseActivate s port).view = s.view := by
  unfold State.recloseActivate
  repeat' split
  all_goals (first | rfl | simp [apply_ite Prod.snd])

@[simp] theorem State.modConf_view (s : State) (f : Conf → Conf) : (State.modConf s f).view = s.view := rfl

@[simp] theorem State.confOutCopy_view (s : State) : (State.confOutCopy s).view = s.view := by
  unfold State.confOutCopy
  repeat' split
  all_goals (first | rfl | simp [apply_ite Prod.snd])

@[simp] theorem State.upstreamC_view (s : State) (f : CFrame) : (State.upstreamC s f).view = s.view := by
  unfold State.upstreamC
  repeat' split
  all_goals (first | rfl | simp [apply_ite Prod.snd])

@[simp] theorem State.confInWrite_view (s : State) : (State.confInWrite s).view = s.view := by
  unfold State.confInWrite; dsimp only
  repeat' split
  all_goals (first | rfl | simp_all [apply_ite Prod.snd])

@[simp] theorem State.upSafe_view (s : State) : (State.upSafe s).view = s.view := by simp [State.upSafe]

@[simp] theorem State.upstreamF_view (s : State) (uplink : Nat) (cycle : Word) (slots : List FSlot) : (State.upstreamF s uplink cycle slots).view = s.view := by simp [State.upstreamF]

@[simp] theorem State.ownRecord_view (s : State) (stamp : Word) : (State.ownRecord s stamp).2.view = s.view := rfl

@[simp] theorem State.takeRecord_view (s : State) (c : NodeCfg) : (State.takeRecord s c).view = s.view := by simp [State.takeRecord]

@[simp] theorem State.upstreamD_view (s : State) (uplink : Nat) (f : DFrame) (stamp : Word) : (State.upstreamD s uplink f stamp).view = s.view := by
  unfold State.upstreamD; dsimp only
  repeat' split
  all_goals (first | rfl | simp_all [apply_ite Prod.snd])

@[simp] theorem State.upMessage_view (s : State) (ws : List Word) : (State.upMessage s ws).view = s.view := by simp [State.upMessage]

@[simp] theorem State.downSegment_view (s : State) (uplink : Nat) (g : Seg) : (State.downSegment s uplink g).view = s.view := by simp [State.downSegment]

@[simp] theorem State.fillUp_view (s : State) (uplink : Nat) (g : Seg) : (State.fillUp s uplink g).view = s.view := by
  unfold State.fillUp; dsimp only
  repeat' split
  all_goals (first | rfl | simp_all [apply_ite Prod.snd])

@[simp] theorem State.upstreamS_view (s : State) (uplink : Nat) (segs : List Seg) : (State.upstreamS s uplink segs).view = s.view := by simp [State.upstreamS]

@[simp] theorem addUp_view (cap : Nat) (b : SBuild) (n : Nat) : (addUp cap b n).st.view = b.st.view := by
  unfold addUp
  split <;> simp

@[simp] theorem addDown_view (b : SBuild) (m : SvcMsg) : (addDown b m).st.view = b.st.view := by
  unfold addDown
  dsimp only
  repeat' split
  all_goals simp

theorem addDowns_view : ∀ (l : List SvcMsg) (b : SBuild), (l.foldl addDown b).st.view = b.st.view
  | [], _ => rfl
  | a :: t, b => by rw [List.foldl, addDowns_view t, addDown_view]

theorem addUps_view (cap : Nat) : ∀ (l : List Nat) (b : SBuild), (l.foldl (addUp cap) b).st.view = b.st.view
  | [], _ => rfl
  | a :: t, b => by rw [List.foldl, addUps_view cap t, addUp_view]

@[simp] theorem State.buildS_view (s : State) (port : Nat) : (State.buildS s port).st.view = s.view := by
  unfold State.buildS
  dsimp only
  split <;> simp [addUps_view, addDowns_view]

end Sys2Proof.Machine
end

