-- ==== Sys2Proof/Laws/ViewEddy.lean ====
section
/-! SUPPORT. Frames on the view: Eddy cores and the scheduler. -/
namespace Sys2Proof.Machine

@[simp] theorem State.edyMemWrite_view (s : State) (off : Nat) (v : Word) : (State.edyMemWrite s off v).view = s.view := by simp [State.edyMemWrite]

@[simp] theorem State.acqMemWord_view (s : State) (off : Nat) : (State.acqMemWord s off).2.view = s.view := by
  unfold State.acqMemWord
  repeat' split
  all_goals (first | rfl | simp [apply_ite Prod.snd])

@[simp] theorem State.sharedWord_view (s : State) (a : Nat) : (State.sharedWord s a).2.view = s.view := by
  unfold State.sharedWord
  split <;> simp

@[simp] theorem State.confOutWrite_view (s : State) (off : Nat) (v : Word) : (State.confOutWrite s off v).view = s.view := by simp [State.confOutWrite]

@[simp] theorem State.sharedWrite_view (s : State) (a : Nat) (v : Word) : (State.sharedWrite s a v).view = s.view := by
  unfold State.sharedWrite
  split <;> simp

@[simp] theorem State.sharedWriteHalf_view (s : State) (a : Nat) (upper : Bool) (h : Half) : (State.sharedWriteHalf s a upper h).view = s.view := by
  unfold State.sharedWriteHalf
  split <;> simp

@[simp] theorem State.modWin_view (s : State) (c : Nat) (n : Nat) (f : Win → Win) : (State.modWin s c n f).view = s.view := rfl

@[simp] theorem State.winRead_view (s : State) (c : Nat) (a : Nat) : (State.winRead s c a).2.view = s.view := by
  unfold State.winRead
  repeat' split
  all_goals (first | rfl | simp [apply_ite Prod.snd])

@[simp] theorem State.winWrite_view (s : State) (c : Nat) (a : Nat) (v : Q23) : (State.winWrite s c a v).view = s.view := by
  unfold State.winWrite; dsimp only
  repeat' split
  all_goals (first | rfl | simp_all [apply_ite Prod.snd])

@[simp] theorem State.pageRead_view (s : State) (c : Nat) (a : Nat) : (State.pageRead s c a).2.view = s.view := by
  unfold State.pageRead
  repeat' split
  all_goals (first | rfl | simp [apply_ite Prod.snd])

@[simp] theorem State.pageWrite_view (s : State) (c : Nat) (a : Nat) (v : Q23) : (State.pageWrite s c a v).view = s.view := by simp [State.pageWrite]

@[simp] theorem State.memRead_view (s : State) (c : Nat) (spaceY : Bool) (a : Nat) : (State.memRead s c spaceY a).2.view = s.view := by
  unfold State.memRead
  repeat' split
  all_goals (first | rfl | simp [apply_ite Prod.snd])

@[simp] theorem State.memWrite_view (s : State) (c : Nat) (spaceY : Bool) (a : Nat) (v : Q23) : (State.memWrite s c spaceY a v).view = s.view := by simp [State.memWrite]

@[simp] theorem State.dmaWord_view (c : Nat) (d : Desc) (i : Nat) (s : State) : (State.dmaWord c d i s).view = s.view := by simp [State.dmaWord]

@[simp] theorem State.dmaDone_view (s : State) (c : Nat) : (State.dmaDone s c).view = s.view := by
  unfold State.dmaDone
  repeat' split
  all_goals (first | rfl | simp [apply_ite Prod.snd])

@[simp] theorem State.setRegs_view (s : State) (c : Nat) (r : ERegs) : (State.setRegs s c r).view = s.view := rfl

@[simp] theorem State.enterHalt_view (s : State) (c : Nat) (was : CState) : (State.enterHalt s c was).view = s.view := rfl

@[simp] theorem State.leaveHalt_view (s : State) (c : Nat) (dest : CState) : (State.leaveHalt s c dest).view = s.view := rfl

@[simp] theorem State.beginEnd_view (s : State) (c : Nat) (counts : Bool) : (State.beginEnd s c counts).view = s.view := by simp [State.beginEnd]

@[simp] theorem State.taskFault_view (s : State) (c : Nat) (code : Nat) (pc : Nat) : (State.taskFault s c code pc).view = s.view := by simp [State.taskFault]

@[simp] theorem State.fetch_view (s : State) (c : Nat) (pc : Nat) : (State.fetch s c pc).view = s.view := by simp [State.fetch]

@[simp] theorem State.complete_view (s : State) (c : Nat) (r : ERegs) (steps : Nat) (pc : Nat) : (State.complete s c r steps pc).view = s.view := by simp [State.complete]

@[simp] theorem State.stepOn_view (s : State) (c : Nat) (r : ERegs) (steps : Nat) : (State.stepOn s c r steps).view = s.view := by simp [State.stepOn]

@[simp] theorem State.stallOn_view (s : State) (c : Nat) (kind : Nat) (i : EIns) : (State.stallOn s c kind i).view = s.view := rfl

theorem State.guarded_view (s : State) (c : Nat) (granted : Bool) (i : EIns) (l : List State.Acc1) (go : State → State)
    (h : ∀ s, (go s).view = s.view) : (State.guarded s c granted i l go).view = s.view := by
  unfold State.guarded
  split
  · simp
  · simp [h]

@[simp] theorem State.runPA_view (s : State) (c : Nat) (granted : Bool) (i : EIns) (mv : PMoves) (arith : ERegs → Arith) :
    (State.runPA s c granted i mv arith).view = s.view := by
  unfold State.runPA
  extract_lets r ms out a lim big a' one
  refine State.guarded_view _ _ _ _ _ _ fun s => ?_
  extract_lets z
  split
  · simp
  · have h1 : ∀ x m, (one x m).1.view = x.1.view := by
      intro x m; simp only [one]; split <;> simp
    have hz : ∀ (l : List (Bool × PMove)) (x : State × ERegs), (l.foldl one x).1.view = x.1.view := by
      intro l
      induction l with
      | nil => intro x; rfl
      | cons m t ih => intro x; rw [List.foldl, ih, h1]
    simp [z, hz]

@[simp] theorem State.loadReg_view (s : State) (c : Nat) (granted : Bool) (i : EIns) (a : State.Acc1) (code : Nat) (post : ERegs → ERegs) :
    (State.loadReg s c granted i a code post).view = s.view := by
  unfold State.loadReg
  exact State.guarded_view _ _ _ _ _ _ fun s => by simp

@[simp] theorem State.storeReg_view (s : State) (c : Nat) (i : EIns) (a : State.Acc1) (code : Nat) (post : ERegs → ERegs) :
    (State.storeReg s c i a code post).view = s.view := by
  unfold State.storeReg
  refine State.guarded_view _ _ _ _ _ _ fun s => ?_
  dsimp only
  split <;> simp

@[simp] theorem scan_view (c : Nat) (minimum : Bool) (n : Nat) (spaceY : Bool) (ptr : Nat) (byM : Bool) :
    ∀ (fuel i : Nat) (s : State), (State.scan c minimum n spaceY ptr byM fuel i s).1.view = s.view
  | 0, _, _ => rfl
  | fuel + 1, i, s => by
    unfold State.scan
    extract_lets r a v s1 w better r1 r2 s2
    split
    · rfl
    · have h1 : s1.view = s.view := by simp [s1, v]
      have h2 : s2.view = s.view := by simp [s2, h1]
      rw [scan_view c minimum n spaceY ptr byM fuel (i + 1) s2, h2]

@[simp] theorem State.runScan_view (s : State) (c : Nat) (granted : Bool) (i : EIns) (minimum : Bool) (n : Nat) (spaceY : Bool) (ptr : Nat)
    (byM : Bool) (count : Nat) : (State.runScan s c granted i minimum n spaceY ptr byM count).view = s.view := by
  unfold State.runScan
  have h := scan_view c minimum n spaceY ptr byM count 0 s
  dsimp only
  split
  · simp
  · split <;> simp_all

@[simp] theorem State.freeSem_view (s : State) (n : Nat) : (State.freeSem s n).view = s.view := rfl

@[simp] theorem State.semAcquire_view (s : State) (c : Nat) (n : Nat) (i : EIns) : (State.semAcquire s c n i).view = s.view := by
  unfold State.semAcquire
  repeat' split
  all_goals (first | rfl | simp [apply_ite Prod.snd])

@[simp] theorem State.semTry_view (s : State) (c : Nat) (n : Nat) : (State.semTry s c n).view = s.view := by simp [State.semTry]

@[simp] theorem State.semRelease_view (s : State) (c : Nat) (n : Nat) : (State.semRelease s c n).view = s.view := by simp [State.semRelease]

@[simp] theorem State.post_view (s : State) (c : Nat) (i : EIns) (rf : Nat) (pair : Nat) (dly : Bool) (t : Nat) : (State.post s c i rf pair dly t).view = s.view := by simp [State.post]

@[simp] theorem State.jump_view (s : State) (c : Nat) (r : ERegs) (steps : Nat) (pc : Nat) : (State.jump s c r steps pc).view = s.view := by simp [State.jump]

theorem State.control_view (s : State) (c : Nat) (go : ERegs → Nat → State) (h : ∀ r n, (go r n).view = s.view) :
    (State.control s c go).view = s.view := by
  unfold State.control
  simp [h]

@[simp] theorem State.beginLoop_view (s : State) (c n : Nat) (last : BitVec 14) : (State.beginLoop s c n last).view = s.view := by
  unfold State.beginLoop
  refine State.control_view _ _ _ fun r pc => ?_
  simp

@[simp] theorem State.plain_view (s : State) (c : Nat) (steps : Nat) (f : ERegs → Arith) : (State.plain s c steps f).view = s.view := by simp [State.plain]

@[simp] theorem State.run_view (s : State) (c : Nat) (granted : Bool) (i : EIns) : (State.run s c granted i).view = s.view := by
  have hc : ∀ go, (∀ r n, (go r n).view = s.view) → (State.control s c go).view = s.view := fun go h => State.control_view s c go h
  unfold State.run
  extract_lets r0 bad pa ext imm
  have hb : bad.view = s.view := by simp [bad]
  have hp : ∀ mv f, (pa mv f).view = s.view := by intro mv f; simp [pa]
  have he : ∀ m n k j b mv, (ext m n k j b mv).view = s.view := by intro m n k j b mv; simp [ext, hp]
  clear_value bad pa ext imm r0
  split
  · exact hb
  · split
    all_goals first
      | exact hp _ _
      | exact he _ _ _ _ _ _
      | exact hb
      | (simp; done)
      | (refine hc _ fun r pc => ?_; (try split) <;> simp; done)

@[simp] theorem State.edy_view (s : State) (c : Nat) (i : EIns) : (State.edy s c i).view = s.view := by simp [State.edy]

@[simp] theorem State.waitcyReturn_view (s : State) (c : Nat) : (State.waitcyReturn s c).view = s.view := by simp [State.waitcyReturn]

@[simp] theorem State.postStallEnd_view (s : State) (c : Nat) : (State.postStallEnd s c).view = s.view := by
  unfold State.postStallEnd; dsimp only
  repeat' split
  all_goals (first | rfl | simp_all [apply_ite Prod.snd])

@[simp] theorem State.semGrant_view (s : State) (n : Nat) : (State.semGrant s n).view = s.view := by
  unfold State.semGrant; dsimp only
  repeat' split
  all_goals (first | rfl | simp_all [apply_ite Prod.snd])

@[simp] theorem State.windowReturn_view (s : State) (c : Nat) : (State.windowReturn s c).view = s.view := by
  unfold State.windowReturn; dsimp only
  repeat' split
  all_goals (first | rfl | simp_all [apply_ite Prod.snd])

@[simp] theorem State.descriptorDone_view (s : State) (c : Nat) : (State.descriptorDone s c).view = s.view := by
  unfold State.descriptorDone; dsimp only
  repeat' split
  all_goals (first | rfl | simp_all [apply_ite Prod.snd])

@[simp] theorem State.lostRegs_view (s : State) : (State.lostRegs s).2.view = s.view := rfl

@[simp] theorem State.parkCore_view (s : State) (c : Nat) : (State.parkCore s c).view = s.view := rfl

@[simp] theorem State.releaseAll_view (s : State) (c : Nat) : (State.releaseAll s c).view = s.view := by simp [State.releaseAll]

@[simp] theorem State.taskEnd_view (s : State) (c : Nat) : (State.taskEnd s c).view = s.view := by
  unfold State.taskEnd
  extract_lets x s1 s2 s3 x2
  have h1 : s1.view = s.view := by simp [s1]
  have h2 : s2.view = s.view := by simp only [s2]; split <;> simp [h1]
  have h3 : s3.view = s.view := by simp [s3, h2]
  clear_value s1 s2 s3 x2
  simp [h3]

@[simp] theorem State.runtimeLimit_view (s : State) (c : Nat) : (State.runtimeLimit s c).view = s.view := by
  unfold State.runtimeLimit
  dsimp only
  split
  · rfl
  · rw [State.taskFault_view]
    split <;> simp

@[simp] theorem State.stepHalted_view (s : State) (c : Nat) : (State.stepHalted s c).view = s.view := by simp [State.stepHalted]

@[simp] theorem State.writeHalt_view (s : State) (c : Nat) (halt : Bool) : (State.writeHalt s c halt).view = s.view := by
  unfold State.writeHalt; dsimp only
  repeat' split
  all_goals (first | rfl | simp_all [apply_ite Prod.snd])

@[simp] theorem State.writeEdyCtrl_view (s : State) (c : Nat) (v : Word) : (State.writeEdyCtrl s c v).view = s.view := by simp [State.writeEdyCtrl]

@[simp] theorem State.writeEdyReg_view (s : State) (c : Nat) (i : Nat) (v : Word) : (State.writeEdyReg s c i v).view = s.view := by simp [State.writeEdyReg]

@[simp] theorem State.loadChunk_view (s : State) (n : Nat) (p : Pkt) : (State.loadChunk s n p).view = s.view := by simp [State.loadChunk]

@[simp] theorem hostPark_view (n : Nat) (s : State) : (hostPark n s).view = s.view := by
  unfold hostPark; dsimp only
  repeat' split
  all_goals (first | rfl | simp_all [apply_ite Prod.snd])

@[simp] theorem hostRelease_view (n : Nat) (s : State) : (hostRelease n s).view = s.view := rfl

@[simp] theorem State.beginTask_view (s : State) (c : Nat) (f : Nat) (t : Task) : (State.beginTask s c f t).view = s.view := by simp [State.beginTask]

@[simp] theorem State.giveTask_view (s : State) (f : Nat) (c : Nat) : (State.giveTask s f c).view = s.view := by
  unfold State.giveTask; dsimp only
  repeat' split
  all_goals (first | rfl | simp_all [apply_ite Prod.snd])

@[simp] theorem State.dispatchAll_view : ∀ (n : Nat) (s : State), (State.dispatchAll n s).view = s.view
  | 0, _ => rfl
  | n + 1, s => by
    unfold State.dispatchAll
    split
    · rw [State.dispatchAll_view n]; simp
    · rfl

@[simp] theorem State.wakeFor_view (f : Nat) (s : State) : (State.wakeFor f s).view = s.view := by
  unfold State.wakeFor
  repeat' split
  all_goals (first | rfl | simp [apply_ite Prod.snd])

@[simp] theorem State.dispatchDecision_view (s : State) : (State.dispatchDecision s).view = s.view := by simp [State.dispatchDecision]

@[simp] theorem State.coreWoken_view (s : State) (c : Nat) : (State.coreWoken s c).view = s.view := by simp [State.coreWoken]

@[simp] theorem State.triggerFlow_view (n : Nat) (s : State) : (State.triggerFlow n s).view = s.view := by simp [State.triggerFlow]

@[simp] theorem State.periodicTrigger_view (s : State) (ev : Nat) : (State.periodicTrigger s ev).view = s.view := by simp [State.periodicTrigger]

@[simp] theorem State.delayBoundary_view (s : State) (l : Nat) : (State.delayBoundary s l).view = s.view := by simp [State.delayBoundary]

@[simp] theorem State.writeDlyTick_view (s : State) (l : Nat) (v : Word) : (State.writeDlyTick s l v).view = s.view := rfl

end Sys2Proof.Machine
end

