-- ==== Sys2Proof/Laws/ViewUnits.lean ====
section
/-! SUPPORT. Frames on the view: the governor, acquisition, the twin, the store, resets, the register map and the cycle. -/
namespace Sys2Proof.Machine

@[simp] theorem State.pmbSend_view (s : State) (k : PmbKind) (data : Half) : (State.pmbSend s k data).view = s.view := by simp [State.pmbSend]

@[simp] theorem State.sendVout_view (s : State) : (State.sendVout s).view = s.view := by simp [State.sendVout]

@[simp] theorem State.pmbOk_view (s : State) (k : PmbKind) (data : Half) : (State.pmbOk s k data).view = s.view := by
  unfold State.pmbOk; dsimp only
  repeat' split
  all_goals (first | rfl | simp_all [apply_ite Prod.snd])

@[simp] theorem State.pmbFail_view (s : State) (k : PmbKind) : (State.pmbFail s k).view = s.view := by
  unfold State.pmbFail
  repeat' split
  all_goals (first | rfl | simp [apply_ite Prod.snd])

@[simp] theorem State.pmbDone_view (s : State) (k : PmbKind) (ok : Bool) (data : Half) : (State.pmbDone s k ok data).view = s.view := by simp [State.pmbDone]

@[simp] theorem State.eventShed_view (s : State) (reason : Nat) : (State.eventShed s reason).view = s.view := by simp [State.eventShed]

@[simp] theorem State.eventConflict_view (s : State) (raised : Bool) (limits : Nat) : (State.eventConflict s raised limits).view = s.view := by simp [State.eventConflict]

@[simp] theorem State.pmbFaulted_view (s : State) : (State.pmbFaulted s).view = s.view := by simp [State.pmbFaulted]

@[simp] theorem State.parkIdle_view (since : Nat) : ∀ (n : Nat) (s : State), (State.parkIdle since n s).view = s.view
  | 0, _ => rfl
  | n + 1, s => by
    unfold State.parkIdle
    dsimp only
    split
    · split
      · rw [State.parkIdle_view since n]; simp
      · rfl
    · rfl

@[simp] theorem State.govCycle_view (s : State) (slack : Option Int) : (State.govCycle s slack).view = s.view := by
  unfold State.govCycle; dsimp only
  repeat' split
  all_goals (first | rfl | simp_all [apply_ite Prod.snd])

@[simp] theorem State.takeTemps_view (s : State) (ts : List Int) : (State.takeTemps s ts).view = s.view := rfl

@[simp] theorem State.measure_view (s : State) (coreEst : Nat) (other : Nat) : (State.measure s coreEst other).view = s.view := by
  unfold State.measure
  repeat' split
  all_goals (first | rfl | simp [apply_ite Prod.snd])

@[simp] theorem State.govAdmit_view (s : State) : (State.govAdmit s).view = s.view := by simp [State.govAdmit]

@[simp] theorem State.govConflict_view (s : State) (shed : Bool) (lowered : Bool) : (State.govConflict s shed lowered).view = s.view := by simp [State.govConflict]

@[simp] theorem State.nextPeriod_view (s : State) : (State.nextPeriod s).view = s.view := by simp [State.nextPeriod]

@[simp] theorem State.periodEnd_view (s : State) (coreEst : Nat) (other : Nat) : (State.periodEnd s coreEst other).view = s.view := by simp [State.periodEnd]

@[simp] theorem State.writeGov_view (s : State) (v : Word) : (State.writeGov s v).view = s.view := by simp [State.writeGov]

@[simp] theorem State.commitAcqArm_view (p : Pkt) (s : State) : (State.commitAcqArm p s).view = s.view := by
  unfold State.commitAcqArm
  repeat' split
  all_goals (first | rfl | simp [apply_ite Prod.snd])

@[simp] theorem State.freeRecord_view (s : State) (num : Nat) : (State.freeRecord s num).view = s.view := by simp [State.freeRecord]

@[simp] theorem State.captureFrame_view (s : State) : (State.captureFrame s).view = s.view := by
  unfold State.captureFrame
  repeat' split
  all_goals (first | rfl | simp [apply_ite Prod.snd])

@[simp] theorem State.sdSample_view (s : State) (port ch : Nat) (v : Half) (stamp : Nat) : (State.sdSample s port ch v stamp).view = s.view := by
  unfold State.sdSample
  split
  · rfl
  · extract_lets +onlyGivenNames s1
    have h1 : s1.view = s.view := by simp [s1]
    clear_value s1
    split
    · exact h1
    · split
      · exact h1
      · extract_lets +onlyGivenNames capt z s2
        have h2 : s2.view = s.view := by simp only [s2, z]; split <;> simp [h1]
        clear_value s2
        simp [h2]

@[simp] theorem State.markEdge_view (s : State) (input : Nat) (rising : Bool) (ns : Nat) (frac : Half) : (State.markEdge s input rising ns frac).view = s.view := by
  unfold State.markEdge
  repeat' split
  all_goals (first | rfl | simp [apply_ite Prod.snd])

@[simp] theorem State.acqReady_view (s : State) : (State.acqReady s).view = s.view := by simp [State.acqReady]

@[simp] theorem State.holdExpiry_view (s : State) (c : Nat) : (State.holdExpiry s c).view = s.view := rfl

@[simp] theorem State.recordDone_view (s : State) : (State.recordDone s).view = s.view := by
  unfold State.recordDone
  repeat' split
  all_goals (first | rfl | simp [apply_ite Prod.snd])

@[simp] theorem State.ringBlock_view (s : State) : (State.ringBlock s).view = s.view := by
  unfold State.ringBlock
  repeat' split
  all_goals (first | rfl | simp [apply_ite Prod.snd])

@[simp] theorem State.setTwin_view (s : State) (new : TState) (reason : Nat) : (State.setTwin s new reason).view = s.view := by simp [State.setTwin]

@[simp] theorem State.eventDiverged_view (s : State) (cause : Nat) (first : Nat) (own : Word) (peer : Word) : (State.eventDiverged s cause first own peer).view = s.view := by simp [State.eventDiverged]

@[simp] theorem State.twinLinksDown_view (s : State) : (State.twinLinksDown s).view = s.view := by simp [State.twinLinksDown]

@[simp] theorem State.beginJoin_view (s : State) (reason : Nat) : (State.beginJoin s reason).view = s.view := by
  unfold State.beginJoin
  extract_lets fresh s1
  have h1 : s1.view = s.view := by
    simp only [s1]
    split
    · exact runAll_view _ (fun x s => by simp) _ _
    · rfl
  simp [h1]

@[simp] theorem State.outOfStep_view (s : State) : (State.outOfStep s).view = s.view := by simp [State.outOfStep]

@[simp] theorem State.goAlone_view (s : State) (reason : Nat) : (State.goAlone s reason).view = s.view := by simp [State.goAlone]

@[simp] theorem State.sendEnd_view (loop : Bool) (s : State) (port : Nat) : (State.sendEnd loop s port).view = s.view := by
  unfold State.sendEnd
  repeat' split
  all_goals (first | rfl | simp [apply_ite Prod.snd])

@[simp] theorem State.serveJoin_view (s : State) : (State.serveJoin s).view = s.view := by simp [State.serveJoin]

@[simp] theorem State.noteApplied_view (s : State) : (State.noteApplied s).view = s.view := rfl

@[simp] theorem State.isolate_view (s : State) : (State.isolate s).view = s.view := by simp [State.isolate]

@[simp] theorem State.checkIsolated_view (s : State) : (State.checkIsolated s).view = s.view := by simp [State.checkIsolated]

@[simp] theorem State.twinDx_view (s : State) (crc : Word) : (State.twinDx s crc).view = s.view := by simp [State.twinDx]

@[simp] theorem State.compareCrc_view (s : State) (r : CycleRec) : (State.compareCrc s r).view = s.view := by simp [State.compareCrc]

@[simp] theorem State.cycleRecord_view (s : State) (r : CycleRec) : (State.cycleRecord s r).view = s.view := by
  unfold State.cycleRecord
  split
  · rfl
  · extract_lets +onlyGivenNames peer f s1 follows
    have h1 : s1.view = s.view := by simp [s1, f]
    extract_lets +onlyGivenNames q1 q2 s2 s3 s4
    have h2 : s2.view = s.view := by simp [s2, q1, h1]
    have h3 : s3.view = s.view := by simp [s3, h2]
    have h4 : s4.view = s.view := by simp only [s4]; split <;> simp [h3]
    clear_value s2 s3 s4
    repeat' split
    all_goals simp [h4]

@[simp] theorem State.recordMissing_view (s : State) : (State.recordMissing s).view = s.view := by
  unfold State.recordMissing; dsimp only
  repeat' split
  all_goals (first | rfl | simp_all [apply_ite Prod.snd])

@[simp] theorem State.holdTimeout_view (s : State) : (State.holdTimeout s).view = s.view := by
  unfold State.holdTimeout
  repeat' split
  all_goals (first | rfl | simp [apply_ite Prod.snd])

@[simp] theorem State.laneDown_view (s : State) (lane : Nat) : (State.laneDown s lane).view = s.view := by simp [State.laneDown]

@[simp] theorem State.laneUp_view (s : State) (lane : Nat) (peer : PeerInfo) : (State.laneUp s lane peer).view = s.view := by simp [State.laneUp]

@[simp] theorem State.prepareDone_view (s : State) : (State.prepareDone s).view = s.view := by simp [State.prepareDone]

@[simp] theorem State.catchupPass_view (s : State) (marked : Nat) : (State.catchupPass s marked).view = s.view := by simp [State.catchupPass]

@[simp] theorem State.reopenRing_view (c : Nat) (port : Nat) (s : State) : (State.reopenRing c port s).view = s.view := by simp [State.reopenRing]

@[simp] theorem State.twinEntry_view (s : State) (drained : Bool) : (State.twinEntry s drained).view = s.view := by
  have h1 : ∀ l, (runAll (fun i s => s.modMPort i fun p => { p with turned := false }) l s).view = s.view :=
    fun l => runAll_view _ (fun x s => by simp) _ _
  have h2 : ∀ c l, (runAll (State.reopenRing c) l s).view = s.view := fun c l => runAll_view _ (fun x s => by simp) _ _
  unfold State.twinEntry
  split
  · rfl
  · split
    · rfl
    · extract_lets +onlyGivenNames done
      split
      · split <;> simp [h1]
      · split <;> simp [h2]
      · rfl

@[simp] theorem State.partnerTimeout_view (s : State) : (State.partnerTimeout s).view = s.view := by simp [State.partnerTimeout]

@[simp] theorem State.resyncTimeout_view (s : State) : (State.resyncTimeout s).view = s.view := by
  unfold State.resyncTimeout
  repeat' split
  all_goals (first | rfl | simp [apply_ite Prod.snd])

@[simp] theorem State.yieldHandover_view (s : State) : (State.yieldHandover s).view = s.view := by
  unfold State.yieldHandover
  repeat' split
  all_goals (first | rfl | simp [apply_ite Prod.snd])

@[simp] theorem State.finishYield_view (s : State) (p : Pkt) : (State.finishYield s p).view = s.view := by simp [State.finishYield]

@[simp] theorem State.memUncorr_view (c : Nat) (s : State) : (State.memUncorr c s).view = s.view := by simp [State.memUncorr]

@[simp] theorem State.eccScrub_view (s : State) (corrected uncorrectable : List Nat) (sram : Bool) :
    (State.eccScrub s corrected uncorrectable sram).view = s.view := by
  unfold State.eccScrub
  extract_lets s1 s2
  have h1 : s1.view = s.view := runAll_view _ (fun x s => by simp) _ _
  have h2 : s2.view = s.view := (runAll_view _ (fun x s => by simp) _ _).trans h1
  simp [h2]

@[simp] theorem State.marchTest_view (s : State) (failed : Bool) : (State.marchTest s failed).view = s.view := by simp [State.marchTest]

@[simp] theorem State.eddyTest_view (s : State) (core : Nat) (failed : Bool) : (State.eddyTest s core failed).view = s.view := by simp [State.eddyTest]

@[simp] theorem State.pairUp_view (s : State) (sideB : Bool) : (State.pairUp s sideB).view = s.view := by simp [State.pairUp]

@[simp] theorem State.eventPower_view (s : State) (what : Nat) : (State.eventPower s what).view = s.view := by simp [State.eventPower]

@[simp] theorem State.tierEvaluate_view (s : State) (code : BitVec 12) : (State.tierEvaluate s code).view = s.view := rfl

@[simp] theorem State.writeShadow_view (s : State) : (State.writeShadow s).view = s.view := rfl

@[simp] theorem State.stopTask_view (c : Nat) (s : State) : (State.stopTask c s).view = s.view := by simp [State.stopTask]

@[simp] theorem State.pfailQualified_view (s : State) (code : BitVec 12) : (State.pfailQualified s code).view = s.view := by simp [State.pfailQualified]

@[simp] theorem State.powerResume_view (s : State) : (State.powerResume s).view = s.view := by simp [State.powerResume]

@[simp] theorem State.pfailClear_view (s : State) : (State.pfailClear s).view = s.view := by simp [State.pfailClear]

@[simp] theorem State.acqContext_view (s : State) : (State.acqContext s).2.view = s.view := rfl

@[simp] theorem State.storeCapture_view (s : State) : (State.storeCapture s).view = s.view := by
  unfold State.storeCapture
  repeat' split
  all_goals (first | rfl | simp [apply_ite Prod.snd])

@[simp] theorem State.storeDone_view (s : State) (rate : Nat) : (State.storeDone s rate).view = s.view := by
  unfold State.storeDone
  split
  · rfl
  · split
    · rfl
    · extract_lets +onlyGivenNames x s1 s2 s3 s4
      have h1 : s1.view = s.view := by simp [s1]
      have h2 : s2.view = s.view := by simp [s2, h1]
      have h3 : s3.view = s.view := by simp [s3, h2]
      have h4 : s4.view = s.view := by simp only [s4]; split <;> simp [h3]
      clear_value s1 s2 s3 s4
      rw [State.powerResume_view]
      split
      · rw [State.view_same, h4]
      · exact h4

@[simp] theorem State.vauxFail_view (s : State) : (State.vauxFail s).view = s.view := by
  unfold State.vauxFail
  rw [State.powerResume_view, State.view_same]

@[simp] theorem State.applyStored_view (x : Nat × PosEntry) (s : State) : (State.applyStored x s).view = s.view := by simp [State.applyStored]

@[simp] theorem State.allLinksDown_view (s : State) : (State.allLinksDown s).view = s.view := rfl

@[simp] theorem State.linksLost_view (s : State) : (State.linksLost s).view = s.view := by simp [State.linksLost]

@[simp] theorem State.releaseStart_view (s : State) : (State.releaseStart s).view = s.view := by
  unfold State.releaseStart
  dsimp only
  split
  · rfl
  · split <;> rfl

@[simp] theorem State.setIsland_view (s : State) (i : Nat) (x : Island) : (State.setIsland s i x).view = s.view := by simp [State.setIsland]

@[simp] theorem State.islandRelease_view (s : State) (i : Nat) : (State.islandRelease s i).view = s.view := by simp [State.islandRelease]

@[simp] theorem State.islandAbsent_view (s : State) (i : Nat) : (State.islandAbsent s i).view = s.view := by simp [State.islandAbsent]

@[simp] theorem State.lateClock_view (s : State) (i : Nat) : (State.lateClock s i).view = s.view := by simp [State.lateClock]

@[simp] theorem State.lockLoss_view (s : State) (i : Nat) : (State.lockLoss s i).view = s.view := by simp [State.lockLoss]

@[simp] theorem State.writeOverride_view (s : State) (v : Word) : (State.writeOverride s v).view = s.view := by simp [State.writeOverride]

@[simp] theorem State.releaseStep_view (s : State) (at_ : Phase) (next : Phase) : (State.releaseStep s at_ next).view = s.view := by simp [State.releaseStep]

@[simp] theorem State.hostReady_view (s : State) : (State.hostReady s).view = s.view := by simp [State.hostReady]

@[simp] theorem State.restartDomain_view (u : Nat) (d : Dom) (s : State) : (State.restartDomain u d s).view = s.view := by simp [State.restartDomain]

@[simp] theorem State.resetCore_view (s : State) (c : Nat) : (State.resetCore s c).view = s.view := by
  unfold State.resetCore
  dsimp only
  split <;> simp

@[simp] theorem State.abortPending_view (s : State) (n : Nat) : (State.abortPending s n).view = s.view := by simp [State.abortPending]

@[simp] theorem State.quiesceBlock_view (s : State) (b : State.Block) : (State.quiesceBlock s b).view = s.view := by
  cases b <;> simp [State.quiesceBlock]

@[simp] theorem State.quiesceDone_view (s : State) (n : Nat) : (State.quiesceDone s n).view = s.view := by
  unfold State.quiesceDone
  repeat' split
  all_goals (first | rfl | simp [apply_ite Prod.snd])

@[simp] theorem State.watchdogHalf_view (s : State) : (State.watchdogHalf s).view = s.view := by simp [State.watchdogHalf]

@[simp] theorem State.writeRstCfg_view (s : State) (v : Word) : (State.writeRstCfg s v).view = s.view := rfl

@[simp] theorem State.startGovernor_view (s : State) : (State.startGovernor s).view = s.view := by simp [State.startGovernor]

@[simp] theorem State.imageSelect_view (s : State) : (State.imageSelect s).view = s.view := by
  unfold State.imageSelect; dsimp only
  repeat' split
  all_goals (first | rfl | simp_all [apply_ite Prod.snd])

@[simp] theorem State.eraseDone_view (s : State) : (State.eraseDone s).view = s.view := by
  unfold State.eraseDone
  repeat' split
  all_goals (first | rfl | simp [apply_ite Prod.snd])

@[simp] theorem State.commitDone_view (s : State) : (State.commitDone s).view = s.view := by
  unfold State.commitDone
  repeat' split
  all_goals (first | rfl | simp [apply_ite Prod.snd])

@[simp] theorem State.jtag_view (s : State) (code : Byte) : (State.jtag s code).view = s.view := by simp [State.jtag]

@[simp] theorem State.bar0Word_view (s : State) (a : Nat) : (State.bar0Word s a).2.view = s.view := by
  unfold State.bar0Word
  repeat' split
  all_goals (first | rfl | simp [apply_ite Prod.snd])

@[simp] theorem State.readClearNet_view (s : State) (o : Nat) : (State.readClearNet s o).view = s.view := by simp [State.readClearNet]

@[simp] theorem State.readClear_view (s : State) (a : Nat) : (State.readClear s a).view = s.view := by simp [State.readClear]

@[simp] theorem State.readBar0_view (s : State) (addr : Nat) : (State.readBar0 s addr).2.view = s.view := by simp [State.readBar0]

@[simp] theorem State.writeRng_view (s : State) (n : Nat) (off : Nat) (v : Word) : (State.writeRng s n off v).view = s.view := by simp [State.writeRng]

@[simp] theorem State.writeMsix_view (s : State) (off : Nat) (v : Word) : (State.writeMsix s off v).view = s.view := by simp [State.writeMsix]

@[simp] theorem State.writeIrq_view (s : State) (off : Nat) (v : Word) : (State.writeIrq s off v).view = s.view := by simp [State.writeIrq]

@[simp] theorem State.writePwr_view (s : State) (off : Nat) (v : Word) : (State.writePwr s off v).view = s.view := by simp [State.writePwr]

@[simp] theorem State.writeTmb_view (s : State) (off : Nat) (v : Word) : (State.writeTmb s off v).view = s.view := by
  unfold State.writeTmb
  repeat' split
  all_goals first | rw [State.writeIncrNom_view] | rw [State.modDomain_view] | rfl

@[simp] theorem State.writeNet_view (s : State) (o : Nat) (v : Word) : (State.writeNet s o v).view = s.view := by simp [State.writeNet]

@[simp] theorem State.writeAxp_view (s : State) (n : Nat) (off : Nat) (v : Word) : (State.writeAxp s n off v).view = s.view := by simp [State.writeAxp]

@[simp] theorem State.writeEdy_view (s : State) (c : Nat) (off : Nat) (v : Word) : (State.writeEdy s c off v).view = s.view := by simp [State.writeEdy]

@[simp] theorem State.writeWord_view (s : State) (a : Nat) (v : Word) : (State.writeWord s a v).view = s.view := by simp [State.writeWord]

@[simp] theorem State.writeBar0_view (s : State) (addr : Nat) (size : Nat) (v : DWord) : (State.writeBar0 s addr size v).view = s.view := by simp [State.writeBar0]

@[simp] theorem State.regAccess_view (s : State) (dr : DWord) : (State.regAccess s dr).view = s.view := by simp [State.regAccess]

@[simp] theorem State.hostRead_view (s : State) (addr : Nat) : (State.hostRead s addr).view = s.view := by simp [State.hostRead]

@[simp] theorem State.cycleSample_view (s : State) (ins : List PortIn) : (State.cycleSample s ins).view = s.view := by
  unfold State.cycleSample
  split
  · rfl
  · extract_lets +onlyGivenNames q1 q2 s1 s2
    have h1 : s1.view = s.view := rfl
    have h2 : s2.view = s.view := (runAll_view _ (fun x s => by simp) _ _).trans h1
    clear_value s1 s2
    rw [State.emuAll_view]
    exact (runAll_view _ (fun x s => by simp) _ _).trans h2

@[simp] theorem State.feedbackMiss_view (i : Nat) (s : State) : (State.feedbackMiss i s).view = s.view := by simp [State.feedbackMiss]

@[simp] theorem State.duDeadline_view (s : State) : (State.duDeadline s).view = s.view := by simp [State.duDeadline]

@[simp] theorem State.holdNow_view (s : State) (i : Nat) (was : AState) : (State.holdNow s i was).view = s.view := by
  unfold State.holdNow
  split <;> rfl

@[simp] theorem State.deadlineMiss_view (i : Nat) (s : State) : (State.deadlineMiss i s).view = s.view := by simp [State.deadlineMiss]

@[simp] theorem State.lateCauses_view (i : Nat) (s : State) : (State.lateCauses i s).view = s.view := by
  unfold State.lateCauses
  repeat' split
  all_goals (first | rfl | simp [apply_ite Prod.snd])

@[simp] theorem State.extendPos_view (i : Nat) (s : State) : (State.extendPos i s).view = s.view := by
  unfold State.extendPos
  repeat' split
  all_goals (first | rfl | simp [apply_ite Prod.snd])

@[simp] theorem State.latSlack_view (s : State) (l : Nat) (missed : List Nat) : (State.latSlack s l missed).2.view = s.view := by
  unfold State.latSlack
  repeat' split
  all_goals (first | rfl | simp [apply_ite Prod.snd])

@[simp] theorem State.latDone_view (missed : List Nat) (r : List (Int × Nat) × State) (l : Nat) : (State.latDone missed r l).2.view = r.2.view := by
  unfold State.latDone
  dsimp only
  split
  · rfl
  · simp

@[simp] theorem State.leastSlack_view (xs : List (Int × Nat)) (s : State) : (State.leastSlack xs s).2.view = s.view := by
  unfold State.leastSlack
  dsimp only
  repeat' split
  all_goals simp

@[simp] theorem State.lpeCycle_view (s : State) (missed : List Nat) : (State.lpeCycle s missed).2.view = s.view := by
  have hf : ∀ (l : List Nat) (r : List (Int × Nat) × State), (l.foldl (State.latDone missed) r).2.view = r.2.view := by
    intro l
    induction l with
    | nil => intro r; rfl
    | cons a t ih => intro r; rw [List.foldl, ih, State.latDone_view]
  unfold State.lpeCycle
  dsimp only
  split <;> simp [hf]

@[simp] theorem State.commitDx_view (c : DxCmd) (s : State) : (State.commitDx c s).view = s.view := by simp [State.commitDx]

@[simp] theorem State.commitsDx_view (s : State) (arm : Bool) : (State.commitsDx s arm).view = s.view := by simp [State.commitsDx]

@[simp] theorem State.finishCmds_view (s : State) : (State.finishCmds s).view = s.view := by simp [State.finishCmds]

@[simp] theorem State.closeHistory_view (i : Nat) (s : State) : (State.closeHistory i s).view = s.view := by simp [State.closeHistory]

@[simp] theorem State.freeBytes_view (s : State) (n : Nat) : (State.freeBytes s n).2.view = s.view := rfl

@[simp] theorem State.drivePayload_view (n : Nat) (r : List Byte × State) (x : Nat × Mode) : (State.drivePayload n r x).2.view = r.2.view := by
  unfold State.drivePayload
  split <;> simp

@[simp] theorem State.putEvents_view (n : Nat) (r : List Byte × List Nat × State) (i : Nat) : (State.putEvents n r i).2.2.view = r.2.2.view := by
  unfold State.putEvents
  repeat' split
  all_goals simp

theorem State.drivePayloads_view (n : Nat) : ∀ (l : List (Nat × Mode)) (r : List Byte × State), (l.foldl (State.drivePayload n) r).2.view = r.2.view
  | [], _ => rfl
  | a :: t, r => by rw [List.foldl, State.drivePayloads_view n t, State.drivePayload_view]

theorem State.putAllEvents_view (n : Nat) : ∀ (l : List Nat) (r : List Byte × List Nat × State), (l.foldl (State.putEvents n) r).2.2.view = r.2.2.view
  | [], _ => rfl
  | a :: t, r => by rw [List.foldl, State.putAllEvents_view n t, State.putEvents_view]

@[simp] theorem State.cSlot_view (r : List CSlot × State) (x : GNode) : (State.cSlot r x).2.view = r.2.view := by
  unfold State.cSlot
  dsimp only
  rw [State.putAllEvents_view]
  split
  · rw [State.drivePayloads_view]
  · simp

@[simp] theorem State.cSlots_view (s : State) (g : GenImage) (port : Nat) : (State.cSlots s g port).2.view = s.view := by
  have hf : ∀ (l : List GNode) (r : List CSlot × State), (l.foldl State.cSlot r).2.view = r.2.view := by
    intro l
    induction l with
    | nil => intro r; rfl
    | cons a t ih => intro r; rw [List.foldl, ih, State.cSlot_view]
  simp [State.cSlots, hf]

@[simp] theorem State.lineFrames_view (g : GenImage) (r : List Byte × State) (l : Line) : (State.lineFrames g r l).2.view = r.2.view := by
  unfold State.lineFrames
  dsimp only
  repeat' split
  all_goals simp

@[simp] theorem State.idleFrame_view (i : Nat) (s : State) : (State.idleFrame i s).view = s.view := by simp [State.idleFrame]

@[simp] theorem State.cFrames_view (s : State) : (State.cFrames s).2.view = s.view := by
  have hf : ∀ (g : GenImage) (l : List Line) (r : List Byte × State), (l.foldl (State.lineFrames g) r).2.view = r.2.view := by
    intro g l
    induction l with
    | nil => intro r; rfl
    | cons a t ih => intro r; rw [List.foldl, ih, State.lineFrames_view]
  unfold State.cFrames
  dsimp only
  split <;> simp [hf, runAll_view]

@[simp] theorem State.serviceFrame_view (i : Nat) (s : State) : (State.serviceFrame i s).view = s.view := by
  unfold State.serviceFrame
  dsimp only
  repeat' split
  all_goals simp

@[simp] theorem State.walkFrame_view (i : Nat) (s : State) : (State.walkFrame i s).view = s.view := by
  unfold State.walkFrame
  repeat' split
  all_goals (first | rfl | simp [apply_ite Prod.snd])

@[simp] theorem State.behindC_view (i : Nat) (s : State) : (State.behindC i s).view = s.view := by
  unfold State.behindC
  repeat' split
  all_goals (first | rfl | simp [apply_ite Prod.snd])

@[simp] theorem State.localOutputs_view (i : Nat) (s : State) : (State.localOutputs i s).view = s.view := by
  unfold State.localOutputs
  repeat' split
  all_goals (first | rfl | simp [apply_ite Prod.snd])

@[simp] theorem State.dxCompute_view (s : State) : (State.dxCompute s).2.view = s.view := by simp [State.dxCompute]

@[simp] theorem State.dxOutputs_view (s : State) : (State.dxOutputs s).2.view = s.view := by simp [State.dxOutputs]

@[simp] theorem State.dxDeadline_view (s : State) : (State.dxDeadline s).view = s.view := by simp [State.dxDeadline]

@[simp] theorem State.ackForward_view (s : State) (seq : Nat) (ok : Bool) : (State.ackForward s seq ok).view = s.view := rfl

@[simp] theorem State.notAcked_view (s : State) (e : TFwd) : (State.notAcked s e).view = s.view := by simp [State.notAcked]

@[simp] theorem State.withFetchWord_view (s : State) (nbits : Nat) (w : Nat) : (State.withFetchWord s nbits w).view = s.view := rfl

end Sys2Proof.Machine
end

