-- ==== Sys2Proof/Laws/Bodies.lean ====
section
/-! SUPPORT. Frames on the view: the commands that packets carry. -/
namespace Sys2Proof.Machine

namespace Verdict

@[simp] theorem keeps_fail (w : View) (a b : Half) : (fail a b).keeps w := trivial

@[simp] theorem keeps_badParam (w : View) (i : Nat) : (badParam i).keeps w := trivial

@[simp] theorem keeps_badParamAll (w : View) : badParamAll.keeps w := trivial

@[simp] theorem keeps_done (w : View) (r : List Word) (s : State) : (done r s).keeps w ↔ s.view = w := Iff.rfl

@[simp] theorem keeps_accept (w : View) (s : State) : (accept s).keeps w ↔ s.view = w := Iff.rfl

@[simp] theorem keeps_later (w : View) (s : State) : (later s).keeps w ↔ s.view = w := Iff.rfl

@[simp] theorem keeps_refuse (w : View) (a b : Half) (s : State) : (refuse a b s).keeps w ↔ s.view = w := Iff.rfl

theorem keeps_if (w : View) (c : Prop) [Decidable c] (a b : Verdict) (ha : a.keeps w) (hb : b.keeps w) : (if c then a else b).keeps w := by
  split <;> assumption
end Verdict

theorem State.bodyActivateAt_keeps (c : Ctx) (p : Pkt) (s : State) : (State.bodyActivateAt c p s).keeps s.view := by
  unfold State.bodyActivateAt
  extract_lets +onlyGivenNames cyc old s1
  clear_value old
  have h1 : s1.view = s.view := by simp only [s1]; split <;> simp
  clear_value s1
  split
  · exact trivial
  · repeat' (refine Verdict.keeps_if _ _ _ _ ?_ ?_)
    all_goals try exact trivial
    simp [h1]

theorem State.bodyAxisClearFault_keeps (c : Ctx) (p : Pkt) (s : State) : (State.bodyAxisClearFault c p s).keeps s.view := by
  unfold State.bodyAxisClearFault
  try extract_lets
  repeat' (first | (refine Verdict.keeps_if _ _ _ _ ?_ ?_) | split)
  all_goals (first | exact trivial | rfl | (simp; done) | (simp +zetaDelta; done))

theorem State.bodyAxisConfigure_keeps (c : Ctx) (p : Pkt) (s : State) : (State.bodyAxisConfigure c p s).keeps s.view := by
  unfold State.bodyAxisConfigure
  try extract_lets
  repeat' (first | (refine Verdict.keeps_if _ _ _ _ ?_ ?_) | split)
  all_goals (first | exact trivial | rfl | (simp; done) | (simp +zetaDelta; done))

theorem State.bodyAxisDisable_keeps (c : Ctx) (p : Pkt) (s : State) : (State.bodyAxisDisable c p s).keeps s.view := by
  unfold State.bodyAxisDisable
  try extract_lets
  repeat' (first | (refine Verdict.keeps_if _ _ _ _ ?_ ?_) | split)
  all_goals (first | exact trivial | rfl | (simp; done) | (simp +zetaDelta; done))

theorem State.bodyAxisEnable_keeps (c : Ctx) (p : Pkt) (s : State) : (State.bodyAxisEnable c p s).keeps s.view := by
  unfold State.bodyAxisEnable
  try extract_lets
  repeat' (first | (refine Verdict.keeps_if _ _ _ _ ?_ ?_) | split)
  all_goals (first | exact trivial | rfl | (simp; done) | (simp +zetaDelta; done))

theorem State.bodyCompareSet_keeps (c : Ctx) (p : Pkt) (s : State) : (State.bodyCompareSet c p s).keeps s.view := by
  unfold State.bodyCompareSet
  try extract_lets
  repeat' (first | (refine Verdict.keeps_if _ _ _ _ ?_ ?_) | split)
  all_goals (first | exact trivial | rfl | (simp; done) | (simp +zetaDelta; done))

theorem State.bodyDiscover_keeps (c : Ctx) (p : Pkt) (s : State) : (State.bodyDiscover c p s).keeps s.view := by
  unfold State.bodyDiscover
  try extract_lets
  repeat' (first | (refine Verdict.keeps_if _ _ _ _ ?_ ?_) | split)
  all_goals (first | exact trivial | rfl | (simp; done) | (simp +zetaDelta; done))

theorem State.bodyFaultClear_keeps (c : Ctx) (p : Pkt) (s : State) : (State.bodyFaultClear c p s).keeps s.view := by
  unfold State.bodyFaultClear
  try extract_lets
  repeat' (first | (refine Verdict.keeps_if _ _ _ _ ?_ ?_) | split)
  all_goals (first | exact trivial | rfl | (simp; done) | (simp +zetaDelta; done))

theorem State.bodyGearSet_keeps (c : Ctx) (p : Pkt) (s : State) : (State.bodyGearSet c p s).keeps s.view := by
  unfold State.bodyGearSet
  try extract_lets
  repeat' (first | (refine Verdict.keeps_if _ _ _ _ ?_ ?_) | split)
  all_goals (first | exact trivial | rfl | (simp; done) | (simp +zetaDelta; done))

theorem State.bodyHome_keeps (c : Ctx) (p : Pkt) (s : State) : (State.bodyHome c p s).keeps s.view := by
  unfold State.bodyHome
  try extract_lets
  repeat' (first | (refine Verdict.keeps_if _ _ _ _ ?_ ?_) | split)
  all_goals (first | exact trivial | rfl | (simp; done) | (simp +zetaDelta; done))

theorem State.bodyJoinConfigure_keeps (c : Ctx) (p : Pkt) (s : State) : (State.bodyJoinConfigure c p s).keeps s.view := by
  unfold State.bodyJoinConfigure
  try extract_lets
  repeat' (first | (refine Verdict.keeps_if _ _ _ _ ?_ ?_) | split)
  all_goals (first | exact trivial | rfl | (simp; done) | (simp +zetaDelta; done))

theorem State.bodyMove_keeps (c : Ctx) (p : Pkt) (s : State) : (State.bodyMove c p s).keeps s.view := by
  unfold State.bodyMove
  try extract_lets
  repeat' (first | (refine Verdict.keeps_if _ _ _ _ ?_ ?_) | split)
  all_goals (first | exact trivial | rfl | (simp; done) | (simp +zetaDelta; done))

theorem State.bodyNodeMailbox_keeps (c : Ctx) (p : Pkt) (s : State) : (State.bodyNodeMailbox c p s).keeps s.view := by
  unfold State.bodyNodeMailbox
  try extract_lets
  repeat' (first | (refine Verdict.keeps_if _ _ _ _ ?_ ?_) | split)
  all_goals (first | exact trivial | rfl | (simp; done) | (simp +zetaDelta; done))

theorem State.bodyParamsetSwitchAt_keeps (c : Ctx) (p : Pkt) (s : State) : (State.bodyParamsetSwitchAt c p s).keeps s.view := by
  have h : ∀ l (f : Nat → Axis → Axis), (runAll (fun j s => s.modAxis j (f j)) l s).view = s.view :=
    fun l f => runAll_view _ (fun x s => by simp) _ _
  unfold State.bodyParamsetSwitchAt
  extract_lets axes cyc s1
  repeat' (refine Verdict.keeps_if _ _ _ _ ?_ ?_)
  all_goals try exact trivial
  simp [s1, h]

theorem State.bodyParamsetWrite_keeps (c : Ctx) (p : Pkt) (s : State) : (State.bodyParamsetWrite c p s).keeps s.view := by
  unfold State.bodyParamsetWrite
  try extract_lets
  repeat' (first | (refine Verdict.keeps_if _ _ _ _ ?_ ?_) | split)
  all_goals (first | exact trivial | rfl | (simp; done) | (simp +zetaDelta; done))

theorem State.bodyPortConfigure_keeps (c : Ctx) (p : Pkt) (s : State) : (State.bodyPortConfigure c p s).keeps s.view := by
  unfold State.bodyPortConfigure
  try extract_lets
  repeat' (first | (refine Verdict.keeps_if _ _ _ _ ?_ ?_) | split)
  all_goals (first | exact trivial | rfl | (simp; done) | (simp +zetaDelta; done))

theorem State.bodyQuiesce_keeps (c : Ctx) (p : Pkt) (s : State) : (State.bodyQuiesce c p s).keeps s.view := by
  unfold State.bodyQuiesce
  try extract_lets
  repeat' (first | (refine Verdict.keeps_if _ _ _ _ ?_ ?_) | split)
  all_goals (first | exact trivial | rfl | (simp; done) | (simp +zetaDelta; done))

theorem State.bodyRegistrationBind_keeps (c : Ctx) (p : Pkt) (s : State) : (State.bodyRegistrationBind c p s).keeps s.view := by
  unfold State.bodyRegistrationBind
  try extract_lets
  repeat' (first | (refine Verdict.keeps_if _ _ _ _ ?_ ?_) | split)
  all_goals (first | exact trivial | rfl | (simp; done) | (simp +zetaDelta; done))

theorem State.bodySnapshotAt_keeps (c : Ctx) (p : Pkt) (s : State) : (State.bodySnapshotAt c p s).keeps s.view := by
  unfold State.bodySnapshotAt
  try extract_lets
  repeat' (first | (refine Verdict.keeps_if _ _ _ _ ?_ ?_) | split)
  all_goals (first | exact trivial | rfl | (simp; done) | (simp +zetaDelta; done))

theorem State.bodySnapshotRead_keeps (c : Ctx) (p : Pkt) (s : State) : (State.bodySnapshotRead c p s).keeps s.view := by
  unfold State.bodySnapshotRead
  try extract_lets
  repeat' (first | (refine Verdict.keeps_if _ _ _ _ ?_ ?_) | split)
  all_goals (first | exact trivial | rfl | (simp; done) | (simp +zetaDelta; done))

theorem State.bodyStop_keeps (c : Ctx) (p : Pkt) (s : State) : (State.bodyStop c p s).keeps s.view := by
  unfold State.bodyStop
  try extract_lets
  repeat' (first | (refine Verdict.keeps_if _ _ _ _ ?_ ?_) | split)
  all_goals (first | exact trivial | rfl | (simp; done) | (simp +zetaDelta; done))

theorem State.bodyStoreConfigure_keeps (c : Ctx) (p : Pkt) (s : State) : (State.bodyStoreConfigure c p s).keeps s.view := by
  unfold State.bodyStoreConfigure
  extract_lets +onlyGivenNames x clock
  repeat' (refine Verdict.keeps_if _ _ _ _ ?_ ?_)
  all_goals try exact trivial
  all_goals try exact rfl
  extract_lets +onlyGivenNames t s1
  clear_value t
  split <;> rfl

theorem State.bodyStoreNow_keeps (c : Ctx) (p : Pkt) (s : State) : (State.bodyStoreNow c p s).keeps s.view := by
  unfold State.bodyStoreNow
  try extract_lets
  repeat' (first | (refine Verdict.keeps_if _ _ _ _ ?_ ?_) | split)
  all_goals (first | exact trivial | rfl | (simp; done) | (simp +zetaDelta; done))

theorem State.bodyStoreRead_keeps (c : Ctx) (p : Pkt) (s : State) : (State.bodyStoreRead c p s).keeps s.view := by
  unfold State.bodyStoreRead
  try extract_lets
  repeat' (first | (refine Verdict.keeps_if _ _ _ _ ?_ ?_) | split)
  all_goals (first | exact trivial | rfl | (simp; done) | (simp +zetaDelta; done))

theorem State.bodyTimeConfigure_keeps (c : Ctx) (p : Pkt) (s : State) : (State.bodyTimeConfigure c p s).keeps s.view := by
  unfold State.bodyTimeConfigure
  extract_lets +onlyGivenNames set
  repeat' (refine Verdict.keeps_if _ _ _ _ ?_ ?_)
  all_goals try exact trivial
  split
  · exact trivial
  · exact trivial
  · generalize TCnt.ofNs _ = t
    extract_lets u put
    exact State.view_tmb _ _ rfl _ _ _ _ _ _ _ _ _ _ _ _ _ _ _ _ _ _

theorem State.bodyTimeSelect_keeps (c : Ctx) (p : Pkt) (s : State) : (State.bodyTimeSelect c p s).keeps s.view := by
  unfold State.bodyTimeSelect
  try extract_lets
  repeat' (first | (refine Verdict.keeps_if _ _ _ _ ?_ ?_) | split)
  all_goals (first | exact trivial | rfl | (simp; done) | (simp +zetaDelta; done))

theorem State.bodyTwinConfigure_keeps (c : Ctx) (p : Pkt) (s : State) : (State.bodyTwinConfigure c p s).keeps s.view := by
  unfold State.bodyTwinConfigure
  extract_lets +onlyGivenNames role pairing take base peer
  repeat' (refine Verdict.keeps_if _ _ _ _ ?_ ?_)
  all_goals try exact trivial
  extract_lets +onlyGivenNames q s1
  have h1 : s1.view = s.view := rfl
  clear_value s1 role
  split
  · simp [h1]
  · simp [h1]
  · extract_lets +onlyGivenNames q2 s2
    have h2 : s2.view = s.view := h1 ▸ rfl
    clear_value s2
    split <;> simp [h2]

theorem State.bodyTwinYield_keeps (c : Ctx) (p : Pkt) (s : State) : (State.bodyTwinYield c p s).keeps s.view := by
  unfold State.bodyTwinYield
  try extract_lets
  repeat' (first | (refine Verdict.keeps_if _ _ _ _ ?_ ?_) | split)
  all_goals (first | exact trivial | rfl | (simp; done) | (simp +zetaDelta; done))

theorem State.bodyUpdateBegin_keeps (c : Ctx) (p : Pkt) (s : State) : (State.bodyUpdateBegin c p s).keeps s.view := by
  unfold State.bodyUpdateBegin
  try extract_lets
  repeat' (first | (refine Verdict.keeps_if _ _ _ _ ?_ ?_) | split)
  all_goals (first | exact trivial | rfl | (simp; done) | (simp +zetaDelta; done))

theorem State.bodyUpdateCommit_keeps (c : Ctx) (p : Pkt) (s : State) : (State.bodyUpdateCommit c p s).keeps s.view := by
  unfold State.bodyUpdateCommit
  try extract_lets
  repeat' (first | (refine Verdict.keeps_if _ _ _ _ ?_ ?_) | split)
  all_goals (first | exact trivial | rfl | (simp; done) | (simp +zetaDelta; done))

theorem State.bodyUpdateWrite_keeps (c : Ctx) (p : Pkt) (s : State) : (State.bodyUpdateWrite c p s).keeps s.view := by
  unfold State.bodyUpdateWrite
  try extract_lets
  repeat' (first | (refine Verdict.keeps_if _ _ _ _ ?_ ?_) | split)
  all_goals (first | exact trivial | rfl | (simp; done) | (simp +zetaDelta; done))

theorem acqArmBody_keeps (c : Ctx) (p : Pkt) (s : State) : (acqArmBody c p s).keeps s.view := by
  unfold acqArmBody
  try extract_lets
  repeat' (first | (refine Verdict.keeps_if _ _ _ _ ?_ ?_) | split)
  all_goals (first | exact trivial | rfl | (simp; done) | (simp +zetaDelta; done))

theorem acqConfigBody_keeps (c : Ctx) (p : Pkt) (s : State) : (acqConfigBody c p s).keeps s.view := by
  unfold acqConfigBody
  try extract_lets
  repeat' (first | (refine Verdict.keeps_if _ _ _ _ ?_ ?_) | split)
  all_goals (first | exact trivial | rfl | (simp; done) | (simp +zetaDelta; done))

theorem acqReadBody_keeps (c : Ctx) (p : Pkt) (s : State) : (acqReadBody c p s).keeps s.view := by
  unfold acqReadBody
  try extract_lets
  repeat' (first | (refine Verdict.keeps_if _ _ _ _ ?_ ?_) | split)
  all_goals (first | exact trivial | rfl | (simp; done) | (simp +zetaDelta; done))

theorem coreParkBody_keeps (c : Ctx) (p : Pkt) (s : State) : (coreParkBody c p s).keeps s.view := by
  unfold coreParkBody
  try extract_lets
  repeat' (first | (refine Verdict.keeps_if _ _ _ _ ?_ ?_) | split)
  all_goals (first | exact trivial | rfl | (simp; done) | (simp +zetaDelta; done))

theorem eddyLoadBody_keeps (c : Ctx) (p : Pkt) (s : State) : (eddyLoadBody c p s).keeps s.view := by
  unfold eddyLoadBody
  try extract_lets
  repeat' (first | (refine Verdict.keeps_if _ _ _ _ ?_ ?_) | split)
  all_goals (first | exact trivial | rfl | (simp; done) | (simp +zetaDelta; done))

theorem flowCreateBody_keeps (c : Ctx) (p : Pkt) (s : State) : (flowCreateBody c p s).keeps s.view := by
  unfold flowCreateBody
  try extract_lets
  repeat' (first | (refine Verdict.keeps_if _ _ _ _ ?_ ?_) | split)
  all_goals (first | exact trivial | rfl | (simp; done) | (simp +zetaDelta; done))

theorem powerBudgetBody_keeps (c : Ctx) (p : Pkt) (s : State) : (powerBudgetBody c p s).keeps s.view := by
  unfold powerBudgetBody
  try extract_lets
  repeat' (first | (refine Verdict.keeps_if _ _ _ _ ?_ ?_) | split)
  all_goals (first | exact trivial | rfl | (simp; done) | (simp +zetaDelta; done))

theorem taskPostBody_keeps (c : Ctx) (p : Pkt) (s : State) : (taskPostBody c p s).keeps s.view := by
  unfold taskPostBody
  try extract_lets
  repeat' (first | (refine Verdict.keeps_if _ _ _ _ ?_ ?_) | split)
  all_goals (first | exact trivial | rfl | (simp; done) | (simp +zetaDelta; done))

end Sys2Proof.Machine
end

