-- ==== Sys2Proof/Laws/Memory.lean ====
section
/-! SUPPORT. The sparse memories: canonical form, and a read after a write. -/
namespace Sys2Proof.Machine

theorem cellsFrom_mono {w : Nat} : ∀ (c : Cells w) (lo lo' : Nat), lo ≤ lo' → cellsFrom lo' c = true → cellsFrom lo c = true
  | [], _, _, _, _ => rfl
  | (a, v) :: t, lo, lo', h, k => by
    simp only [cellsFrom, Bool.and_eq_true, decide_eq_true_eq] at k ⊢
    exact ⟨⟨by omega, k.1.2⟩, k.2⟩

theorem cellSet_from {w : Nat} (a : Nat) (v : BitVec w) :
    ∀ (c : Cells w) (lo : Nat), lo ≤ a → cellsFrom lo c = true → cellsFrom lo (cellSet c a v) = true
  | [], lo, h, _ => by
    unfold cellSet
    by_cases hv : v = 0
    · rw [if_pos hv]; rfl
    · rw [if_neg hv]
      simp only [cellsFrom, Bool.and_eq_true, decide_eq_true_eq, and_true]
      exact ⟨h, hv⟩
  | (b, x) :: t, lo, h, k => by
    have k' := k
    simp only [cellsFrom, Bool.and_eq_true, decide_eq_true_eq] at k
    unfold cellSet
    by_cases hab : a = b
    · subst hab
      rw [if_pos rfl]
      by_cases hv : v = 0
      · rw [if_pos hv]
        exact cellsFrom_mono t lo (a + 1) (by omega) k.2
      · rw [if_neg hv]
        simp only [cellsFrom, Bool.and_eq_true, decide_eq_true_eq]
        exact ⟨⟨h, hv⟩, k.2⟩
    · rw [if_neg hab]
      by_cases hlt : a < b
      · rw [if_pos hlt]
        by_cases hv : v = 0
        · rw [if_pos hv]; exact k'
        · rw [if_neg hv]
          simp only [cellsFrom, Bool.and_eq_true, decide_eq_true_eq]
          exact ⟨⟨h, hv⟩, ⟨⟨by omega, k.1.2⟩, k.2⟩⟩
      · rw [if_neg hlt]
        simp only [cellsFrom, Bool.and_eq_true, decide_eq_true_eq]
        exact ⟨k.1, cellSet_from a v t (b + 1) (by omega) k.2⟩

/-- A write keeps the canonical form. -/
theorem cellSet_wf {w : Nat} (c : Cells w) (a : Nat) (v : BitVec w) (h : Memory.wf c) : Memory.wf (cellSet c a v) :=
  cellSet_from a v c 0 (Nat.zero_le a) h

/-- Writes one after another keep the canonical form. -/
theorem cellPuts_wf {w : Nat} (step : Nat) : ∀ (vs : List (BitVec w)) (c : Cells w) (a : Nat), Memory.wf c → Memory.wf (cellPuts c a step vs)
  | [], _, _, h => h
  | v :: t, c, a, h => cellPuts_wf step t _ _ (cellSet_wf c a v h)

theorem cellGet_below {w : Nat} : ∀ (c : Cells w) (lo a : Nat), cellsFrom lo c = true → a < lo → cellGet c a = 0
  | [], _, _, _, _ => rfl
  | (b, x) :: t, lo, a, k, h => by
    simp only [cellsFrom, Bool.and_eq_true, decide_eq_true_eq] at k
    unfold cellGet
    rw [if_neg (by omega), if_pos (by omega)]

/-- A read after a write, in a memory in canonical form. -/
theorem cellGet_from {w : Nat} (a : Nat) (v : BitVec w) (i : Nat) :
    ∀ (c : Cells w) (lo : Nat), cellsFrom lo c = true → cellGet (cellSet c a v) i = if i = a then v else cellGet c i
  | [], _, _ => by
    unfold cellSet
    by_cases hv : v = 0
    · rw [if_pos hv, hv]; split <;> rfl
    · rw [if_neg hv]; by_cases hi : i = a <;> simp [cellGet, hi]
  | (b, x) :: t, lo, k => by
    simp only [cellsFrom, Bool.and_eq_true, decide_eq_true_eq] at k
    unfold cellSet
    by_cases hab : a = b
    · subst hab
      rw [if_pos rfl]
      by_cases hi : i = a
      · subst hi
        rw [if_pos rfl]
        by_cases hv : v = 0
        · rw [if_pos hv, hv]; exact cellGet_below t (i + 1) i k.2 (by omega)
        · rw [if_neg hv]; simp [cellGet]
      · rw [if_neg hi]
        by_cases hv : v = 0
        · rw [if_pos hv]
          by_cases hlt : i < a
          · rw [cellGet_below t (a + 1) i k.2 (by omega)]; simp [cellGet, hi, hlt]
          · simp [cellGet, hi, hlt]
        · rw [if_neg hv]; simp [cellGet, hi]
    · rw [if_neg hab]
      by_cases hlt : a < b
      · rw [if_pos hlt]
        by_cases hi : i = a
        · subst hi
          rw [if_pos rfl]
          by_cases hv : v = 0
          · rw [if_pos hv, hv]; simp [cellGet, hab, hlt]
          · rw [if_neg hv]; simp [cellGet]
        · rw [if_neg hi]
          by_cases hv : v = 0
          · rw [if_pos hv]
          · rw [if_neg hv]
            by_cases h1 : i < a
            · have : i ≠ b := by omega
              have : i < b := by omega
              simp [cellGet, *]
            · simp [cellGet, hi, h1]
      · rw [if_neg hlt]
        have ih := cellGet_from a v i t (b + 1) k.2
        by_cases hib : i = b
        · have : i ≠ a := fun e => hab (e ▸ hib)
          rw [if_neg this]; simp [cellGet, hib]
        · by_cases h1 : i < b
          · have : i ≠ a := by omega
            rw [if_neg this]; simp [cellGet, hib, h1]
          · simp [cellGet, hib, h1, ih]

theorem cellGet_cellSet {w : Nat} (c : Cells w) (a i : Nat) (v : BitVec w) (h : Memory.wf c) :
    cellGet (cellSet c a v) i = if i = a then v else cellGet c i := cellGet_from a v i c 0 h

theorem defaultSet_wf : Memory.wf defaultSet := by decide

/-- The memories of the state after reset are in canonical form. -/
theorem reset_memOk : State.reset.MemOk := by
  refine ⟨rfl, rfl, rfl, rfl, rfl, ?_, ?_⟩
  · intro a h
    rw [show State.reset.axes = List.replicate 256 Axis.initial from rfl] at h
    rw [List.eq_of_mem_replicate h]
    exact ⟨defaultSet_wf, defaultSet_wf⟩
  · intro c h
    rw [show State.reset.eddy.cores = List.replicate 32 {} from rfl] at h
    rw [List.eq_of_mem_replicate h]
    exact ⟨rfl, rfl, rfl⟩

end Sys2Proof.Machine
end

