-- ==== Sys2Proof/Laws/Sound.lean ====
section
/-! SUPPORT. The operations that change the view keep the queue, the ordering code and a legal plan. -/
namespace Sys2Proof.Machine

/-- What a view says of the period and the generations. -/
def View.PlanOk (v : View) : Prop :=
  v.tc ∈ legalPeriods ∧ (∀ g, v.active = some g → g.Legal) ∧ (∀ g, v.named = some g → g.Legal)

theorem State.planOk_iff (s : State) : s.PlanOk ↔ s.view.PlanOk := Iff.rfl

/-- From `s` to `t` the queue and the ordering code stay, and a legal plan stays legal. -/
def Sound (s t : State) : Prop := t.pending = s.pending ∧ t.fuse.code = s.fuse.code ∧ (s.PlanOk → t.PlanOk)

namespace Sound

theorem refl (s : State) : Sound s s := ⟨rfl, rfl, id⟩

theorem trans {s t u : State} (h : Sound s t) (k : Sound t u) : Sound s u :=
  ⟨k.1.trans h.1, k.2.1.trans h.2.1, fun x => k.2.2 (h.2.2 x)⟩

theorem of_view {s t : State} (h : t.view = s.view) : Sound s t :=
  ⟨congrArg View.pending h, congrArg View.code h, fun x => by rw [State.planOk_iff] at *; rwa [h]⟩

theorem then_view {s t u : State} (h : Sound s t) (e : u.view = t.view) : Sound s u := h.trans (of_view e)

theorem view_then {s t u : State} (e : t.view = s.view) (h : Sound t u) : Sound s u := (of_view e).trans h

theorem ite {s a b : State} (c : Prop) [Decidable c] (ha : Sound s a) (hb : Sound s b) : Sound s (if c then a else b) := by
  split <;> assumption

theorem foldr {α : Type} (f : α → State → State) (h : ∀ a s, Sound s (f a s)) : ∀ (l : List α) (s : State), Sound s (runAll f l s)
  | [], s => refl s
  | a :: t, s => (h a s).trans (foldr f h t (f a s))
end Sound

theorem legal_of_instantsFit {g : GenImage} (h : instantsFit g = true) : g.Legal := by
  simp only [instantsFit, Bool.and_eq_true, decide_eq_true_eq, List.contains_iff_mem] at h
  unfold GenImage.Legal
  obtain ⟨⟨⟨⟨⟨⟨⟨⟨⟨h1, h2⟩, h3⟩, h4⟩, h5⟩, h6⟩, h7⟩, h8⟩, h9⟩, h10⟩ := h
  exact ⟨h1, h2, h4, h3, h5, h6, h7, h8, h9, h10⟩

theorem State.joinImage_legal {g : GenImage} (h : g.Legal) (port base : Nat) (found : List (Nat × Bool × NodeRec)) :
    (State.joinImage g port base found).Legal := h

namespace State

/-- The pending generation of a legal plan takes effect. -/

theorem takeGeneration_sound (s : State) (g : GenImage) (c : Nat) (h : s.net.pending = some g) : Sound s (s.takeGeneration g c) := by
  unfold takeGeneration
  extract_lets went gone s1
  have h1 : s1.view = s.view := runAll_view _ (fun x s => by simp) _ _
  have hp1 : s1.net.pending = some g := (congrArg View.named h1).trans h
  refine .view_then h1 ⟨rfl, rfl, fun hp => ⟨hp.1, ?_, ?_⟩⟩
  · rintro g' ⟨⟩
    exact hp.2.2 g hp1
  · rintro g' ⟨⟩

theorem generationActivate_sound (s : State) : Sound s s.generationActivate := by
  unfold generationActivate
  split
  · rename_i x g hx hg
    refine .ite _ (.refl _) ?_
    exact (takeGeneration_sound { s with cmds := s.cmds.filter fun y => y.opcode != 0x0202 } g x.cycle hg).then_view (finish_view _ _ _)
  · exact .refl _

theorem newPeriod_sound (s : State) (g : GenImage) (h : s.net.pending = some g) : Sound s (s.newPeriod g) :=
  ⟨rfl, rfl, fun hp => ⟨(hp.2.2 g h).1, hp.2⟩⟩

theorem periodChange_sound (s : State) : Sound s s.periodChange := by
  unfold periodChange
  split
  · rename_i x g hx hg
    split
    · extract_lets +onlyGivenNames s1
      have h0 : ({ s with cmds := s.cmds.filter fun y => y.opcode != 0x0202 } : State).disarm.view = s.view := disarm_view _
      have h1 : Sound s s1 := .view_then h0 (newPeriod_sound _ g ((congrArg View.named h0).trans hg))
      have hp1 : s1.net.pending = some g := (congrArg View.named h0).trans hg
      exact (h1.trans (takeGeneration_sound s1 g _ hp1)).then_view (finish_view _ _ _)
    · exact .refl _
  · exact .refl _

theorem loadPassed_sound (s : State) (g : GenImage) (h : g.Legal) : Sound s (s.loadPassed g) := by
  unfold loadPassed
  refine Sound.trans (t := { s with net := { s.net with
    pending := some g, arriving := none, pendState := 2, joinGen := false, distEnd := s.now + 100000000, actCycle := 0 } }) ?_ (.of_view (by simp))
  exact ⟨rfl, rfl, fun hp => ⟨hp.1, hp.2.1, by rintro g' ⟨⟩; exact h⟩⟩

/-- No generation is pending. -/

theorem dropPending_sound (s t : State) (n : Net) (ht : t.view = s.view) (ha : n.active = t.net.active) (hn : n.pending = none) :
    Sound s { t with net := n } := by
  refine ⟨congrArg View.pending ht, congrArg View.code ht, fun hp => ?_⟩
  rw [planOk_iff, ← ht, ← planOk_iff] at hp
  exact ⟨hp.1, fun g h => hp.2.1 g (ha ▸ h), fun g h => by rw [show ({ t with net := n } : State).net.pending = n.pending from rfl, hn] at h; cases h⟩

theorem endJoin_sound (s : State) (port : Nat) : Sound s (s.endJoin port) := by
  unfold endJoin
  split
  · exact .refl _
  · refine .ite _ ?_ (.of_view (by simp))
    exact dropPending_sound _ _ _ (by simp) rfl rfl

theorem joinAbandon_sound (s : State) (port : Nat) : Sound s (s.joinAbandon port) := by
  unfold joinAbandon
  split
  · exact .refl _
  · exact .ite _ (.refl _) (endJoin_sound s port)

theorem joinActivate_sound (s : State) (port : Nat) : Sound s (s.joinActivate port) := by
  unfold joinActivate
  split
  · exact .refl _
  · refine .ite _ (.refl _) ?_
    extract_lets s1 s2 s3
    have h1 : s1.view = s.view := runAll_view _ (fun x s => by simp) _ _
    have h2 : s2.view = s.view := (runAll_view _ (fun x s => by simp) _ _).trans h1
    have h3 : s3.view = s.view := (modMPort_view _ _ _).trans h2
    clear_value s1 s2 s3
    split
    · rename_i g hg
      exact .view_then h3 (takeGeneration_sound _ _ _ hg)
    · exact .of_view h3

theorem joinBegin_sound (s : State) (port base : Nat) (gen : Option GenImage) (removed : List Nat) (found : List (Nat × Bool × NodeRec))
    (reclose : Option (Nat × Nat)) (h : s.PlanOk → ∀ g, gen = some g → g.Legal) : Sound s (s.joinBegin port base gen removed found reclose) := by
  unfold joinBegin
  extract_lets +onlyGivenNames p used old oldCfg changed cfgs waiting j q s1 s2
  have h1 : Sound s s1 := by
    cases gen with
    | none => exact .refl _
    | some g => exact ⟨rfl, rfl, fun hp => ⟨hp.1, hp.2.1, by rintro g' ⟨⟩; exact h hp g rfl⟩⟩
  have h2 : Sound s s2 := h1.then_view (modMPort_view _ _ _)
  clear_value s1 s2 changed
  split
  · exact h2.then_view (sendCfg_view _ _ _)
  · exact h2

theorem joinFound_sound (s : State) (port base : Nat) (recs : List NodeRec) (reclose : Option (Nat × Nat)) :
    Sound s (s.joinFound port base recs reclose) := by
  have hr : ∀ n, Sound s (s.joinRefused port base n recs) := fun n => .of_view (by simp)
  unfold joinFound
  extract_lets +onlyGivenNames p ids
  refine .ite _ (hr 0) (.ite _ (.refl _) ?_)
  extract_lets +onlyGivenNames removed
  split
  · exact hr 1
  · rename_i found hfound
    extract_lets +onlyGivenNames keep gen fits
    have hg : s.PlanOk → ∀ g, gen = some g → g.Legal := by
      intro hp g hg
      simp only [gen] at hg
      split at hg
      · cases hg
      · split at hg
        · rename_i g' hg'
          split at hg
          · cases hg
            exact joinImage_legal (hp.2.1 g' hg') port base found
          · cases hg
        · cases hg
    clear_value gen fits keep
    refine .ite _ (hr 2) (.ite _ (hr 3) (.ite _ (hr 4) (.ite _ (.refl _) ?_)))
    exact joinBegin_sound _ _ _ _ _ _ _ hg

theorem probeReturn_sound (s : State) (port aH16 dH16 : Nat) (stamps : List Stamps) (recs : List NodeRec) (closedAt : Option Nat) :
    Sound s (s.probeReturn port aH16 dH16 stamps recs closedAt) := by
  unfold probeReturn
  split
  · exact .refl _
  · extract_lets +onlyGivenNames s1 p looped xs s2 s3
    have h1 : s1.view = s.view := modMPort_view _ _ _
    have h2 : s2.view = s.view := by simp only [s2]; split <;> simp [h1]
    have h3 : s3.view = s.view := (refreshRecords_view _ _).trans h2
    clear_value s1 s2 s3
    refine .view_then h3 ?_
    split
    · exact .ite _ (.of_view (by simp)) (.refl _)
    · exact .refl _
    · exact joinFound_sound _ _ _ _ _

/-! ## Resets -/

theorem cleared_planOk (s : State) : s.cleared.PlanOk :=
  ⟨show (31250 : Nat) ∈ legalPeriods by decide, (by rintro c ⟨⟩), (by rintro c ⟨⟩)⟩

theorem coldClear_sound (s : State) : Sound s s.coldClear := by
  unfold coldClear
  extract_lets s'
  have h : s'.PlanOk := cleared_planOk s
  exact .ite _ ⟨rfl, rfl, fun _ => h⟩ ⟨rfl, rfl, fun _ => h⟩

theorem warmClear_sound (s : State) : Sound s s.warmClear := by
  refine ⟨rfl, rfl, fun hp => ⟨hp.1, ?_, ?_⟩⟩ <;> rintro c ⟨⟩

theorem assertSource_sound (s : State) (bit : Nat) (r : Reach) (level : Bool) : Sound s (s.assertSource bit r level) := by
  unfold assertSource
  extract_lets b e rst s1
  have h1 : Sound s s1 := by
    simp only [s1]
    split
    · exact coldClear_sound s
    · exact warmClear_sound s
  exact h1.then_view (by simp)

theorem sourceLevel_sound (s : State) (bit : Nat) (r : Reach) (asserted : Bool) : Sound s (s.sourceLevel bit r asserted) :=
  .ite _ (assertSource_sound s bit r true) (.of_view rfl)

theorem resetAssert_sound (s : State) : Sound s s.resetAssert := by
  unfold resetAssert
  split
  · exact assertSource_sound _ _ _ _
  · exact .refl _

theorem blockClear_sound (s : State) (b : Block) : Sound s (s.blockClear b) := by
  cases b with
  | mport n => exact (endJoin_sound s n).then_view (modMPort_view _ _ _)
  | _ => exact .of_view (by simp [blockClear])

theorem blockReset_sound (s : State) (n : Nat) (b : Block) : Sound s (s.blockReset n b) :=
  .view_then (t := { s with rst := { s.rst with blkNum := BitVec.ofNat 8 n, blkCount := satInc s.rst.blkCount } }) rfl (blockClear_sound _ b)

theorem upstreamReset_sound (s : State) (block : Option Nat) : Sound s (s.upstreamReset block) := by
  unfold upstreamReset
  refine .ite _ (.refl _) ?_
  split
  · exact assertSource_sound _ _ _ _
  · rename_i n
    split
    · rename_i b hb
      exact .ite _ (.refl _) ((blockReset_sound s n b).then_view (by simp))
    · exact .refl _

end State

/-! ## Commands -/

/-- Every state that a verdict carries is sound after `s`. -/
def Verdict.Ok (s : State) : Verdict → Prop
  | .fail _ _ => True
  | .done _ t | .accept t | .later t | .refuse _ _ t => Sound s t

theorem Verdict.ok_of_keeps {s : State} {v : Verdict} (h : v.keeps s.view) : v.Ok s := by
  cases v with
  | fail => exact trivial
  | _ => exact Sound.of_view h

namespace State

theorem bodyReset_ok (c : Ctx) (p : Pkt) (s : State) : (bodyReset c p s).Ok s := by
  unfold bodyReset
  extract_lets up reach n
  split
  · split
    · rename_i b hb
      split
      · exact trivial
      · split
        · exact trivial
        · exact (blockReset_sound s n b).then_view (by simp)
    · split <;> exact trivial
  · split
    · exact trivial
    · split
      · exact trivial
      · exact .of_view rfl

theorem Verdict.ok_if (s : State) (c : Prop) [Decidable c] (a b : Verdict) (ha : a.Ok s) (hb : b.Ok s) : (if c then a else b).Ok s := by
  split <;> assumption

theorem bodyScheduleLoad_ok (c : Ctx) (p : Pkt) (s : State) : (bodyScheduleLoad c p s).Ok s := by
  unfold bodyScheduleLoad
  extract_lets +onlyGivenNames gen first activeGen wrong
  refine Verdict.ok_if _ _ _ _ trivial ?_
  refine Verdict.ok_if _ _ _ _ trivial ?_
  refine Verdict.ok_if _ _ _ _ trivial ?_
  refine Verdict.ok_if _ _ _ _ trivial ?_
  extract_lets +onlyGivenNames chunk chunks q1 q2 s1
  have h1 : Sound s s1 := .ite _ (dropPending_sound _ _ _ (dropRecords_view s) rfl rfl) (.refl _)
  clear_value s1 chunks
  refine Verdict.ok_if _ _ _ _ (h1.trans (.of_view rfl)) ?_
  extract_lets +onlyGivenNames image
  split
  · exact h1.trans (.of_view rfl)
  · extract_lets +onlyGivenNames g
    split
    · rename_i h
      refine h1.trans (loadPassed_sound _ _ ?_)
      simp only [imageFits, Bool.and_eq_true] at h
      exact legal_of_instantsFit h.1.1.1
    · exact h1.trans (.of_view rfl)

theorem settle_sound (s : State) (p : Pkt) (v : Verdict) (h : v.Ok s) : Sound s (s.settle p v) := by
  cases v with
  | fail => exact .of_view (by simp [settle])
  | _ => exact h.then_view (by simp [settle])

theorem dispatch_sound (op : Op) (p : Pkt) (s : State) (h : ∀ x, (op.body x p s).Ok s) : Sound s (dispatch op p s) := by
  have h0 := settle_sound s p _ (h {})
  have h1 := h { due := some ((op.cycle p s).getD (s.k + 2)) }
  unfold dispatch
  extract_lets foreign t
  clear_value foreign
  refine .ite _ h0 ?_
  split
  · exact h0
  · exact h0
  · split
    · exact .of_view (by simp)
    · exact .of_view (by simp)
    all_goals
      rename_i hb
      rw [hb] at h1
      exact Sound.then_view h1 (by simp)
  · exact .of_view (by simp)

theorem carry_sound (op : Op) (p : Pkt) (s : State) (h : ∀ x q, (op.body x q s).Ok s) : Sound s (carry op p s) := by
  have h0 := fun q => dispatch_sound op q s fun x => h x q
  unfold carry
  repeat' split
  all_goals (first | exact h0 _ | exact .refl _ | exact .of_view (by simp))

end State

end Sys2Proof.Machine
end

