-- ==== Sys2Proof/Laws/Opcodes.lean ====
section
/-! SUPPORT. The operation of every opcode, and taking commands, keep the queue, the ordering code and a legal plan. -/
namespace Sys2Proof.Machine

/-! ## The opcodes -/

theorem opNop_ok : ∀ x q s, (opNop.body x q s).Ok s := fun _ _ _ => .of_view rfl

theorem opGetIdentity_ok : ∀ x q s, (opGetIdentity.body x q s).Ok s := fun _ _ _ => .of_view rfl

theorem opGetStatus_ok : ∀ x q s, (opGetStatus.body x q s).Ok s := fun _ _ _ => .of_view rfl

theorem opReset_ok : ∀ x q s, (opReset.body x q s).Ok s := State.bodyReset_ok

theorem opBlockQuiesce_ok : ∀ x q s, (opBlockQuiesce.body x q s).Ok s := fun x q s => Verdict.ok_of_keeps (State.bodyQuiesce_keeps x q s)

theorem opImageUpdateBegin_ok : ∀ x q s, (opImageUpdateBegin.body x q s).Ok s := fun x q s => Verdict.ok_of_keeps (State.bodyUpdateBegin_keeps x q s)

theorem opImageUpdateWrite_ok : ∀ x q s, (opImageUpdateWrite.body x q s).Ok s := fun x q s => Verdict.ok_of_keeps (State.bodyUpdateWrite_keeps x q s)

theorem opImageUpdateCommit_ok : ∀ x q s, (opImageUpdateCommit.body x q s).Ok s := fun x q s => Verdict.ok_of_keeps (State.bodyUpdateCommit_keeps x q s)

theorem opAxisConfigure_ok : ∀ x q s, (opAxisConfigure.body x q s).Ok s := fun x q s => Verdict.ok_of_keeps (State.bodyAxisConfigure_keeps x q s)

theorem opAxisEnable_ok : ∀ x q s, (opAxisEnable.body x q s).Ok s := fun x q s => Verdict.ok_of_keeps (State.bodyAxisEnable_keeps x q s)

theorem opAxisDisable_ok : ∀ x q s, (opAxisDisable.body x q s).Ok s := fun x q s => Verdict.ok_of_keeps (State.bodyAxisDisable_keeps x q s)

theorem opAxisClearFault_ok : ∀ x q s, (opAxisClearFault.body x q s).Ok s := fun x q s => Verdict.ok_of_keeps (State.bodyAxisClearFault_keeps x q s)

theorem opParamsetWrite_ok : ∀ x q s, (opParamsetWrite.body x q s).Ok s := fun x q s => Verdict.ok_of_keeps (State.bodyParamsetWrite_keeps x q s)

theorem opParamsetSwitchAt_ok : ∀ x q s, (opParamsetSwitchAt.body x q s).Ok s := fun x q s => Verdict.ok_of_keeps (State.bodyParamsetSwitchAt_keeps x q s)

theorem opNetDiscover_ok : ∀ x q s, (opNetDiscover.body x q s).Ok s := fun x q s => Verdict.ok_of_keeps (State.bodyDiscover_keeps x q s)

theorem opNetScheduleLoad_ok : ∀ x q s, (opNetScheduleLoad.body x q s).Ok s := State.bodyScheduleLoad_ok

theorem opNetScheduleActivateAt_ok : ∀ x q s, (opNetScheduleActivateAt.body x q s).Ok s := fun x q s => Verdict.ok_of_keeps (State.bodyActivateAt_keeps x q s)

theorem opNetNodeMailbox_ok : ∀ x q s, (opNetNodeMailbox.body x q s).Ok s := fun x q s => Verdict.ok_of_keeps (State.bodyNodeMailbox_keeps x q s)

theorem opNetJoinConfigure_ok : ∀ x q s, (opNetJoinConfigure.body x q s).Ok s := fun x q s => Verdict.ok_of_keeps (State.bodyJoinConfigure_keeps x q s)

theorem opTimeConfigure_ok : ∀ x q s, (opTimeConfigure.body x q s).Ok s := fun x q s => Verdict.ok_of_keeps (State.bodyTimeConfigure_keeps x q s)

theorem opTimeSelectDomain_ok : ∀ x q s, (opTimeSelectDomain.body x q s).Ok s := fun x q s => Verdict.ok_of_keeps (State.bodyTimeSelect_keeps x q s)

theorem opSnapshotAt_ok : ∀ x q s, (opSnapshotAt.body x q s).Ok s := fun x q s => Verdict.ok_of_keeps (State.bodySnapshotAt_keeps x q s)

theorem opSnapshotRead_ok : ∀ x q s, (opSnapshotRead.body x q s).Ok s := fun x q s => Verdict.ok_of_keeps (State.bodySnapshotRead_keeps x q s)

theorem opMove_ok : ∀ x q s, (opMove.body x q s).Ok s := fun x q s => Verdict.ok_of_keeps (State.bodyMove_keeps x q s)

theorem opStop_ok : ∀ x q s, (opStop.body x q s).Ok s := fun x q s => Verdict.ok_of_keeps (State.bodyStop_keeps x q s)

theorem opHome_ok : ∀ x q s, (opHome.body x q s).Ok s := fun x q s => Verdict.ok_of_keeps (State.bodyHome_keeps x q s)

theorem opCompareSet_ok : ∀ x q s, (opCompareSet.body x q s).Ok s := fun x q s => Verdict.ok_of_keeps (State.bodyCompareSet_keeps x q s)

theorem opGearSet_ok : ∀ x q s, (opGearSet.body x q s).Ok s := fun x q s => Verdict.ok_of_keeps (State.bodyGearSet_keeps x q s)

theorem opRegistrationBind_ok : ∀ x q s, (opRegistrationBind.body x q s).Ok s := fun x q s => Verdict.ok_of_keeps (State.bodyRegistrationBind_keeps x q s)

theorem opAcqConfigure_ok : ∀ x q s, (opAcqConfigure.body x q s).Ok s := fun x q s => Verdict.ok_of_keeps (acqConfigBody_keeps x q s)

theorem opAcqArm_ok : ∀ x q s, (opAcqArm.body x q s).Ok s := fun x q s => Verdict.ok_of_keeps (acqArmBody_keeps x q s)

theorem opAcqRead_ok : ∀ x q s, (opAcqRead.body x q s).Ok s := fun x q s => Verdict.ok_of_keeps (acqReadBody_keeps x q s)

theorem opEddyLoad_ok : ∀ x q s, (opEddyLoad.body x q s).Ok s := fun x q s => Verdict.ok_of_keeps (eddyLoadBody_keeps x q s)

theorem opFlowCreate_ok : ∀ x q s, (opFlowCreate.body x q s).Ok s := fun x q s => Verdict.ok_of_keeps (flowCreateBody_keeps x q s)

theorem opTaskPost_ok : ∀ x q s, (opTaskPost.body x q s).Ok s := fun x q s => Verdict.ok_of_keeps (taskPostBody_keeps x q s)

theorem opCorePark_ok : ∀ x q s, (opCorePark.body x q s).Ok s := fun x q s => Verdict.ok_of_keeps (coreParkBody_keeps x q s)

theorem opTwinConfigure_ok : ∀ x q s, (opTwinConfigure.body x q s).Ok s := fun x q s => Verdict.ok_of_keeps (State.bodyTwinConfigure_keeps x q s)

theorem opTwinHealth_ok : ∀ x q s, (opTwinHealth.body x q s).Ok s := fun _ _ _ => .of_view rfl

theorem opTwinYield_ok : ∀ x q s, (opTwinYield.body x q s).Ok s := fun x q s => Verdict.ok_of_keeps (State.bodyTwinYield_keeps x q s)

theorem opPowerBudgetSet_ok : ∀ x q s, (opPowerBudgetSet.body x q s).Ok s := fun x q s => Verdict.ok_of_keeps (powerBudgetBody_keeps x q s)

theorem opPowerStatus_ok : ∀ x q s, (opPowerStatus.body x q s).Ok s := fun _ _ _ => .of_view rfl

theorem opStoreConfigure_ok : ∀ x q s, (opStoreConfigure.body x q s).Ok s := fun x q s => Verdict.ok_of_keeps (State.bodyStoreConfigure_keeps x q s)

theorem opStoreNow_ok : ∀ x q s, (opStoreNow.body x q s).Ok s := fun x q s => Verdict.ok_of_keeps (State.bodyStoreNow_keeps x q s)

theorem opStoreRead_ok : ∀ x q s, (opStoreRead.body x q s).Ok s := fun x q s => Verdict.ok_of_keeps (State.bodyStoreRead_keeps x q s)

theorem opPortConfigure_ok : ∀ x q s, (opPortConfigure.body x q s).Ok s := fun x q s => Verdict.ok_of_keeps (State.bodyPortConfigure_keeps x q s)

theorem opPwmFaultClear_ok : ∀ x q s, (opPwmFaultClear.body x q s).Ok s := fun x q s => Verdict.ok_of_keeps (State.bodyFaultClear_keeps x q s)

theorem opTable_ok : ∀ op ∈ opTable, ∀ x q s, (op.body x q s).Ok s := by
  simp only [opTable, List.forall_mem_append, List.forall_mem_cons, List.not_mem_nil, false_implies, implies_true, and_true]
  exact ⟨⟨⟨opNop_ok, opGetIdentity_ok, opGetStatus_ok, opReset_ok, opBlockQuiesce_ok, opImageUpdateBegin_ok, opImageUpdateWrite_ok, opImageUpdateCommit_ok, opAxisConfigure_ok, opAxisEnable_ok, opAxisDisable_ok, opAxisClearFault_ok, opParamsetWrite_ok, opParamsetSwitchAt_ok, opNetDiscover_ok, opNetScheduleLoad_ok, opNetScheduleActivateAt_ok, opNetNodeMailbox_ok, opNetJoinConfigure_ok⟩, ⟨opTimeConfigure_ok, opTimeSelectDomain_ok, opSnapshotAt_ok, opSnapshotRead_ok, opMove_ok, opStop_ok, opHome_ok, opCompareSet_ok, opGearSet_ok, opRegistrationBind_ok, opAcqConfigure_ok, opAcqArm_ok, opAcqRead_ok, opEddyLoad_ok, opFlowCreate_ok, opTaskPost_ok, opCorePark_ok⟩⟩, ⟨opTwinConfigure_ok, opTwinHealth_ok, opTwinYield_ok, opPowerBudgetSet_ok, opPowerStatus_ok, opStoreConfigure_ok, opStoreNow_ok, opStoreRead_ok, opPortConfigure_ok, opPwmFaultClear_ok⟩⟩

theorem opOf_ok {code : Half} {op : Op} (h : opOf code = some op) : ∀ x q s, (op.body x q s).Ok s :=
  opTable_ok op (List.mem_of_find?_eq_some h)

namespace State

theorem runCmd_sound (c : Cmd) (s : State) : Sound s (runCmd c s) := by
  unfold runCmd
  split
  · rename_i op h
    exact carry_sound op c.pkt s fun x q => opOf_ok h x q s
  · exact .ite _ (.of_view (by simp)) (.refl _)

theorem takeFrom_sound (s : State) (n : Nat) (c : Cmd) : Sound s (s.takeFrom n c) := by
  unfold takeFrom
  extract_lets +onlyGivenNames p prio q1 q2 s1 waiting s2
  have h2 : Sound s s2 := .view_then (t := s1) rfl (runCmd_sound _ _)
  clear_value s2
  split
  · exact .ite _ (h2.then_view (by simp)) (h2.then_view (by simp))
  · exact h2.then_view (by simp)

theorem commandTake_sound (s : State) (heads : List (Nat × Cmd)) : Sound s (s.commandTake heads) := by
  unfold commandTake
  split
  · exact takeFrom_sound _ _ _
  · exact .refl _

theorem dmaFailure_sound (s : State) (n : Nat) (result : Option Cmd) : Sound s (s.dmaFailure n result) := by
  unfold dmaFailure
  refine .ite _ (.refl _) ?_
  split
  · exact .of_view (by simp)
  · rename_i c
    exact .ite _ ((takeFrom_sound s n { c with pkt := { c.pkt with flags := c.pkt.flags ||| 0x10 } }).then_view (by simp)) (.of_view (by simp))

theorem scriptPacket_sound (s : State) : Sound s s.scriptPacket := by
  unfold scriptPacket
  refine .ite _ (.refl _) ?_
  split
  · exact .view_then (t := { s with boot := { s.boot with scriptWait := true } }) rfl (runCmd_sound _ _)
  · exact .refl _

theorem forwardReceived_sound (s : State) (seq : Nat) (c : Cmd) (target : Nat) : Sound s (s.forwardReceived seq c target) := by
  have ha : ∀ t ok, Sound s t → Sound s (t.ackForward seq ok) := fun t ok h => h.then_view (by simp)
  unfold forwardReceived
  refine .ite _ (.refl _) ?_
  split
  · exact ha s false (.refl _)
  · rename_i op h
    extract_lets p
    refine .ite _ (ha s false (.refl _)) ?_
    have hb := opOf_ok h { late := false, due := some target } p s
    split
    · exact ha s false (.refl _)
    all_goals
      rename_i hx
      rw [hx] at hb
    · exact ha _ false hb
    · exact ha _ true (.of_view rfl)
    · exact ha _ true hb
    · exact ha _ true hb

theorem forwardCommit_sound (s : State) (seq : Nat) : Sound s (s.forwardCommit seq) := by
  unfold forwardCommit
  split
  · exact .refl _
  · rename_i e he
    refine .ite _ (.refl _) ?_
    extract_lets +onlyGivenNames q s1 s2
    have h2 : Sound s s2 := .view_then (t := s1) rfl (.of_view (by simp [s2]))
    clear_value s2
    refine .ite _ ?_ h2
    split
    · rename_i op h
      exact h2.trans (settle_sound _ _ _ (opOf_ok h _ _ _))
    · exact h2

end State

end Sys2Proof.Machine
end

