-- ==== Sys2Proof/Laws/State.lean ====
section
/-! SUPPORT. What each field of the state is after each update of a unit: one lemma per field. -/
namespace Sys2Proof.Machine

theorem updAt_length {α : Type} (f : α → α) : ∀ (l : List α) (i : Nat), (updAt l i f).length = l.length
  | [], _ => rfl
  | _ :: _, 0 => rfl
  | _ :: t, i + 1 => congrArg (· + 1) (updAt_length f t i)

/-- The element changed. -/
theorem updAt_getD_self {α : Type} (f : α → α) (d : α) : ∀ (l : List α) (i : Nat), i < l.length → (updAt l i f).getD i d = f (l.getD i d)
  | a :: t, 0, _ => rfl
  | a :: t, i + 1, h => by simpa [updAt] using updAt_getD_self f d t i (by simpa using h)

/-- Every other element. -/
theorem updAt_getD_ne {α : Type} (f : α → α) (d : α) : ∀ (l : List α) (i j : Nat), i ≠ j → (updAt l i f).getD j d = l.getD j d
  | [], _, _, _ => rfl
  | a :: t, 0, 0, h => absurd rfl h
  | a :: t, 0, j + 1, _ => rfl
  | a :: t, i + 1, 0, _ => rfl
  | a :: t, i + 1, j + 1, h => by simpa [updAt] using updAt_getD_ne f d t i j (by omega)

/-- Two changes of one element are one change. -/
theorem updAt_updAt {α : Type} (f g : α → α) : ∀ (l : List α) (i : Nat), updAt (updAt l i f) i g = updAt l i fun a => g (f a)
  | [], _ => rfl
  | _ :: _, 0 => rfl
  | a :: t, i + 1 => congrArg (a :: ·) (updAt_updAt f g t i)

/-- Two changes of one axis are one change. -/
theorem modAxis_modAxis (s : State) (i : Nat) (f g : Axis → Axis) :
    (s.modAxis i f).modAxis i g = s.modAxis i fun a => g (f a) := by
  simp [State.modAxis, updAt_updAt]

/-- Two changes of one port are one change. -/
theorem modMPort_modMPort (s : State) (i : Nat) (f g : MPort → MPort) :
    (s.modMPort i f).modMPort i g = s.modMPort i fun p => g (f p) := by
  simp [State.modMPort, updAt_updAt]

namespace State

@[simp] theorem modAxis_pending (s : State) (i : Nat) (f : Axis → Axis) : (s.modAxis i f).pending = s.pending := rfl
@[simp] theorem modAxis_out (s : State) (i : Nat) (f : Axis → Axis) : (s.modAxis i f).out = s.out := rfl
@[simp] theorem modAxis_freeCtr (s : State) (i : Nat) (f : Axis → Axis) : (s.modAxis i f).freeCtr = s.freeCtr := rfl
@[simp] theorem modAxis_lastRead (s : State) (i : Nat) (f : Axis → Axis) : (s.modAxis i f).lastRead = s.lastRead := rfl
@[simp] theorem modAxis_fuse (s : State) (i : Nat) (f : Axis → Axis) : (s.modAxis i f).fuse = s.fuse := rfl
@[simp] theorem modAxis_rst (s : State) (i : Nat) (f : Axis → Axis) : (s.modAxis i f).rst = s.rst := rfl
@[simp] theorem modAxis_boot (s : State) (i : Nat) (f : Axis → Axis) : (s.modAxis i f).boot = s.boot := rfl
@[simp] theorem modAxis_host (s : State) (i : Nat) (f : Axis → Axis) : (s.modAxis i f).host = s.host := rfl
@[simp] theorem modAxis_cmds (s : State) (i : Nat) (f : Axis → Axis) : (s.modAxis i f).cmds = s.cmds := rfl
@[simp] theorem modAxis_dxq (s : State) (i : Nat) (f : Axis → Axis) : (s.modAxis i f).dxq = s.dxq := rfl
@[simp] theorem modAxis_tmb (s : State) (i : Nat) (f : Axis → Axis) : (s.modAxis i f).tmb = s.tmb := rfl
@[simp] theorem modAxis_net (s : State) (i : Nat) (f : Axis → Axis) : (s.modAxis i f).net = s.net := rfl
@[simp] theorem modAxis_lpe (s : State) (i : Nat) (f : Axis → Axis) : (s.modAxis i f).lpe = s.lpe := rfl
@[simp] theorem modAxis_axes (s : State) (i : Nat) (f : Axis → Axis) : (s.modAxis i f).axes = updAt s.axes i f := rfl
@[simp] theorem modAxis_eddy (s : State) (i : Nat) (f : Axis → Axis) : (s.modAxis i f).eddy = s.eddy := rfl
@[simp] theorem modAxis_sch (s : State) (i : Nat) (f : Axis → Axis) : (s.modAxis i f).sch = s.sch := rfl
@[simp] theorem modAxis_pwr (s : State) (i : Nat) (f : Axis → Axis) : (s.modAxis i f).pwr = s.pwr := rfl
@[simp] theorem modAxis_ports (s : State) (i : Nat) (f : Axis → Axis) : (s.modAxis i f).ports = s.ports := rfl
@[simp] theorem modAxis_acq (s : State) (i : Nat) (f : Axis → Axis) : (s.modAxis i f).acq = s.acq := rfl
@[simp] theorem modAxis_twn (s : State) (i : Nat) (f : Axis → Axis) : (s.modAxis i f).twn = s.twn := rfl
@[simp] theorem modAxis_spw (s : State) (i : Nat) (f : Axis → Axis) : (s.modAxis i f).spw = s.spw := rfl
@[simp] theorem modAxis_tap (s : State) (i : Nat) (f : Axis → Axis) : (s.modAxis i f).tap = s.tap := rfl

@[simp] theorem modRing_pending (s : State) (i : Nat) (f : Ring → Ring) : (s.modRing i f).pending = s.pending := rfl
@[simp] theorem modRing_out (s : State) (i : Nat) (f : Ring → Ring) : (s.modRing i f).out = s.out := rfl
@[simp] theorem modRing_freeCtr (s : State) (i : Nat) (f : Ring → Ring) : (s.modRing i f).freeCtr = s.freeCtr := rfl
@[simp] theorem modRing_lastRead (s : State) (i : Nat) (f : Ring → Ring) : (s.modRing i f).lastRead = s.lastRead := rfl
@[simp] theorem modRing_fuse (s : State) (i : Nat) (f : Ring → Ring) : (s.modRing i f).fuse = s.fuse := rfl
@[simp] theorem modRing_rst (s : State) (i : Nat) (f : Ring → Ring) : (s.modRing i f).rst = s.rst := rfl
@[simp] theorem modRing_boot (s : State) (i : Nat) (f : Ring → Ring) : (s.modRing i f).boot = s.boot := rfl
@[simp] theorem modRing_host (s : State) (i : Nat) (f : Ring → Ring) : (s.modRing i f).host = { s.host with rings := updAt s.host.rings i f } := rfl
@[simp] theorem modRing_cmds (s : State) (i : Nat) (f : Ring → Ring) : (s.modRing i f).cmds = s.cmds := rfl
@[simp] theorem modRing_dxq (s : State) (i : Nat) (f : Ring → Ring) : (s.modRing i f).dxq = s.dxq := rfl
@[simp] theorem modRing_tmb (s : State) (i : Nat) (f : Ring → Ring) : (s.modRing i f).tmb = s.tmb := rfl
@[simp] theorem modRing_net (s : State) (i : Nat) (f : Ring → Ring) : (s.modRing i f).net = s.net := rfl
@[simp] theorem modRing_lpe (s : State) (i : Nat) (f : Ring → Ring) : (s.modRing i f).lpe = s.lpe := rfl
@[simp] theorem modRing_axes (s : State) (i : Nat) (f : Ring → Ring) : (s.modRing i f).axes = s.axes := rfl
@[simp] theorem modRing_eddy (s : State) (i : Nat) (f : Ring → Ring) : (s.modRing i f).eddy = s.eddy := rfl
@[simp] theorem modRing_sch (s : State) (i : Nat) (f : Ring → Ring) : (s.modRing i f).sch = s.sch := rfl
@[simp] theorem modRing_pwr (s : State) (i : Nat) (f : Ring → Ring) : (s.modRing i f).pwr = s.pwr := rfl
@[simp] theorem modRing_ports (s : State) (i : Nat) (f : Ring → Ring) : (s.modRing i f).ports = s.ports := rfl
@[simp] theorem modRing_acq (s : State) (i : Nat) (f : Ring → Ring) : (s.modRing i f).acq = s.acq := rfl
@[simp] theorem modRing_twn (s : State) (i : Nat) (f : Ring → Ring) : (s.modRing i f).twn = s.twn := rfl
@[simp] theorem modRing_spw (s : State) (i : Nat) (f : Ring → Ring) : (s.modRing i f).spw = s.spw := rfl
@[simp] theorem modRing_tap (s : State) (i : Nat) (f : Ring → Ring) : (s.modRing i f).tap = s.tap := rfl

@[simp] theorem modMPort_pending (s : State) (i : Nat) (f : MPort → MPort) : (s.modMPort i f).pending = s.pending := rfl
@[simp] theorem modMPort_out (s : State) (i : Nat) (f : MPort → MPort) : (s.modMPort i f).out = s.out := rfl
@[simp] theorem modMPort_freeCtr (s : State) (i : Nat) (f : MPort → MPort) : (s.modMPort i f).freeCtr = s.freeCtr := rfl
@[simp] theorem modMPort_lastRead (s : State) (i : Nat) (f : MPort → MPort) : (s.modMPort i f).lastRead = s.lastRead := rfl
@[simp] theorem modMPort_fuse (s : State) (i : Nat) (f : MPort → MPort) : (s.modMPort i f).fuse = s.fuse := rfl
@[simp] theorem modMPort_rst (s : State) (i : Nat) (f : MPort → MPort) : (s.modMPort i f).rst = s.rst := rfl
@[simp] theorem modMPort_boot (s : State) (i : Nat) (f : MPort → MPort) : (s.modMPort i f).boot = s.boot := rfl
@[simp] theorem modMPort_host (s : State) (i : Nat) (f : MPort → MPort) : (s.modMPort i f).host = s.host := rfl
@[simp] theorem modMPort_cmds (s : State) (i : Nat) (f : MPort → MPort) : (s.modMPort i f).cmds = s.cmds := rfl
@[simp] theorem modMPort_dxq (s : State) (i : Nat) (f : MPort → MPort) : (s.modMPort i f).dxq = s.dxq := rfl
@[simp] theorem modMPort_tmb (s : State) (i : Nat) (f : MPort → MPort) : (s.modMPort i f).tmb = s.tmb := rfl
@[simp] theorem modMPort_net (s : State) (i : Nat) (f : MPort → MPort) : (s.modMPort i f).net = { s.net with ports := updAt s.net.ports i f } := rfl
@[simp] theorem modMPort_lpe (s : State) (i : Nat) (f : MPort → MPort) : (s.modMPort i f).lpe = s.lpe := rfl
@[simp] theorem modMPort_axes (s : State) (i : Nat) (f : MPort → MPort) : (s.modMPort i f).axes = s.axes := rfl
@[simp] theorem modMPort_eddy (s : State) (i : Nat) (f : MPort → MPort) : (s.modMPort i f).eddy = s.eddy := rfl
@[simp] theorem modMPort_sch (s : State) (i : Nat) (f : MPort → MPort) : (s.modMPort i f).sch = s.sch := rfl
@[simp] theorem modMPort_pwr (s : State) (i : Nat) (f : MPort → MPort) : (s.modMPort i f).pwr = s.pwr := rfl
@[simp] theorem modMPort_ports (s : State) (i : Nat) (f : MPort → MPort) : (s.modMPort i f).ports = s.ports := rfl
@[simp] theorem modMPort_acq (s : State) (i : Nat) (f : MPort → MPort) : (s.modMPort i f).acq = s.acq := rfl
@[simp] theorem modMPort_twn (s : State) (i : Nat) (f : MPort → MPort) : (s.modMPort i f).twn = s.twn := rfl
@[simp] theorem modMPort_spw (s : State) (i : Nat) (f : MPort → MPort) : (s.modMPort i f).spw = s.spw := rfl
@[simp] theorem modMPort_tap (s : State) (i : Nat) (f : MPort → MPort) : (s.modMPort i f).tap = s.tap := rfl

@[simp] theorem modNode_pending (s : State) (i : Nat) (f : Node → Node) : (s.modNode i f).pending = s.pending := rfl
@[simp] theorem modNode_out (s : State) (i : Nat) (f : Node → Node) : (s.modNode i f).out = s.out := rfl
@[simp] theorem modNode_freeCtr (s : State) (i : Nat) (f : Node → Node) : (s.modNode i f).freeCtr = s.freeCtr := rfl
@[simp] theorem modNode_lastRead (s : State) (i : Nat) (f : Node → Node) : (s.modNode i f).lastRead = s.lastRead := rfl
@[simp] theorem modNode_fuse (s : State) (i : Nat) (f : Node → Node) : (s.modNode i f).fuse = s.fuse := rfl
@[simp] theorem modNode_rst (s : State) (i : Nat) (f : Node → Node) : (s.modNode i f).rst = s.rst := rfl
@[simp] theorem modNode_boot (s : State) (i : Nat) (f : Node → Node) : (s.modNode i f).boot = s.boot := rfl
@[simp] theorem modNode_host (s : State) (i : Nat) (f : Node → Node) : (s.modNode i f).host = s.host := rfl
@[simp] theorem modNode_cmds (s : State) (i : Nat) (f : Node → Node) : (s.modNode i f).cmds = s.cmds := rfl
@[simp] theorem modNode_dxq (s : State) (i : Nat) (f : Node → Node) : (s.modNode i f).dxq = s.dxq := rfl
@[simp] theorem modNode_tmb (s : State) (i : Nat) (f : Node → Node) : (s.modNode i f).tmb = s.tmb := rfl
@[simp] theorem modNode_net (s : State) (i : Nat) (f : Node → Node) : (s.modNode i f).net = { s.net with nodes := updAt s.net.nodes i f } := rfl
@[simp] theorem modNode_lpe (s : State) (i : Nat) (f : Node → Node) : (s.modNode i f).lpe = s.lpe := rfl
@[simp] theorem modNode_axes (s : State) (i : Nat) (f : Node → Node) : (s.modNode i f).axes = s.axes := rfl
@[simp] theorem modNode_eddy (s : State) (i : Nat) (f : Node → Node) : (s.modNode i f).eddy = s.eddy := rfl
@[simp] theorem modNode_sch (s : State) (i : Nat) (f : Node → Node) : (s.modNode i f).sch = s.sch := rfl
@[simp] theorem modNode_pwr (s : State) (i : Nat) (f : Node → Node) : (s.modNode i f).pwr = s.pwr := rfl
@[simp] theorem modNode_ports (s : State) (i : Nat) (f : Node → Node) : (s.modNode i f).ports = s.ports := rfl
@[simp] theorem modNode_acq (s : State) (i : Nat) (f : Node → Node) : (s.modNode i f).acq = s.acq := rfl
@[simp] theorem modNode_twn (s : State) (i : Nat) (f : Node → Node) : (s.modNode i f).twn = s.twn := rfl
@[simp] theorem modNode_spw (s : State) (i : Nat) (f : Node → Node) : (s.modNode i f).spw = s.spw := rfl
@[simp] theorem modNode_tap (s : State) (i : Nat) (f : Node → Node) : (s.modNode i f).tap = s.tap := rfl

@[simp] theorem modCore_pending (s : State) (i : Nat) (f : Core → Core) : (s.modCore i f).pending = s.pending := rfl
@[simp] theorem modCore_out (s : State) (i : Nat) (f : Core → Core) : (s.modCore i f).out = s.out := rfl
@[simp] theorem modCore_freeCtr (s : State) (i : Nat) (f : Core → Core) : (s.modCore i f).freeCtr = s.freeCtr := rfl
@[simp] theorem modCore_lastRead (s : State) (i : Nat) (f : Core → Core) : (s.modCore i f).lastRead = s.lastRead := rfl
@[simp] theorem modCore_fuse (s : State) (i : Nat) (f : Core → Core) : (s.modCore i f).fuse = s.fuse := rfl
@[simp] theorem modCore_rst (s : State) (i : Nat) (f : Core → Core) : (s.modCore i f).rst = s.rst := rfl
@[simp] theorem modCore_boot (s : State) (i : Nat) (f : Core → Core) : (s.modCore i f).boot = s.boot := rfl
@[simp] theorem modCore_host (s : State) (i : Nat) (f : Core → Core) : (s.modCore i f).host = s.host := rfl
@[simp] theorem modCore_cmds (s : State) (i : Nat) (f : Core → Core) : (s.modCore i f).cmds = s.cmds := rfl
@[simp] theorem modCore_dxq (s : State) (i : Nat) (f : Core → Core) : (s.modCore i f).dxq = s.dxq := rfl
@[simp] theorem modCore_tmb (s : State) (i : Nat) (f : Core → Core) : (s.modCore i f).tmb = s.tmb := rfl
@[simp] theorem modCore_net (s : State) (i : Nat) (f : Core → Core) : (s.modCore i f).net = s.net := rfl
@[simp] theorem modCore_lpe (s : State) (i : Nat) (f : Core → Core) : (s.modCore i f).lpe = s.lpe := rfl
@[simp] theorem modCore_axes (s : State) (i : Nat) (f : Core → Core) : (s.modCore i f).axes = s.axes := rfl
@[simp] theorem modCore_eddy (s : State) (i : Nat) (f : Core → Core) : (s.modCore i f).eddy = { s.eddy with cores := updAt s.eddy.cores i f } := rfl
@[simp] theorem modCore_sch (s : State) (i : Nat) (f : Core → Core) : (s.modCore i f).sch = s.sch := rfl
@[simp] theorem modCore_pwr (s : State) (i : Nat) (f : Core → Core) : (s.modCore i f).pwr = s.pwr := rfl
@[simp] theorem modCore_ports (s : State) (i : Nat) (f : Core → Core) : (s.modCore i f).ports = s.ports := rfl
@[simp] theorem modCore_acq (s : State) (i : Nat) (f : Core → Core) : (s.modCore i f).acq = s.acq := rfl
@[simp] theorem modCore_twn (s : State) (i : Nat) (f : Core → Core) : (s.modCore i f).twn = s.twn := rfl
@[simp] theorem modCore_spw (s : State) (i : Nat) (f : Core → Core) : (s.modCore i f).spw = s.spw := rfl
@[simp] theorem modCore_tap (s : State) (i : Nat) (f : Core → Core) : (s.modCore i f).tap = s.tap := rfl

@[simp] theorem modFlow_pending (s : State) (i : Nat) (f : Flow → Flow) : (s.modFlow i f).pending = s.pending := rfl
@[simp] theorem modFlow_out (s : State) (i : Nat) (f : Flow → Flow) : (s.modFlow i f).out = s.out := rfl
@[simp] theorem modFlow_freeCtr (s : State) (i : Nat) (f : Flow → Flow) : (s.modFlow i f).freeCtr = s.freeCtr := rfl
@[simp] theorem modFlow_lastRead (s : State) (i : Nat) (f : Flow → Flow) : (s.modFlow i f).lastRead = s.lastRead := rfl
@[simp] theorem modFlow_fuse (s : State) (i : Nat) (f : Flow → Flow) : (s.modFlow i f).fuse = s.fuse := rfl
@[simp] theorem modFlow_rst (s : State) (i : Nat) (f : Flow → Flow) : (s.modFlow i f).rst = s.rst := rfl
@[simp] theorem modFlow_boot (s : State) (i : Nat) (f : Flow → Flow) : (s.modFlow i f).boot = s.boot := rfl
@[simp] theorem modFlow_host (s : State) (i : Nat) (f : Flow → Flow) : (s.modFlow i f).host = s.host := rfl
@[simp] theorem modFlow_cmds (s : State) (i : Nat) (f : Flow → Flow) : (s.modFlow i f).cmds = s.cmds := rfl
@[simp] theorem modFlow_dxq (s : State) (i : Nat) (f : Flow → Flow) : (s.modFlow i f).dxq = s.dxq := rfl
@[simp] theorem modFlow_tmb (s : State) (i : Nat) (f : Flow → Flow) : (s.modFlow i f).tmb = s.tmb := rfl
@[simp] theorem modFlow_net (s : State) (i : Nat) (f : Flow → Flow) : (s.modFlow i f).net = s.net := rfl
@[simp] theorem modFlow_lpe (s : State) (i : Nat) (f : Flow → Flow) : (s.modFlow i f).lpe = s.lpe := rfl
@[simp] theorem modFlow_axes (s : State) (i : Nat) (f : Flow → Flow) : (s.modFlow i f).axes = s.axes := rfl
@[simp] theorem modFlow_eddy (s : State) (i : Nat) (f : Flow → Flow) : (s.modFlow i f).eddy = s.eddy := rfl
@[simp] theorem modFlow_sch (s : State) (i : Nat) (f : Flow → Flow) : (s.modFlow i f).sch = { s.sch with flows := updAt s.sch.flows i f } := rfl
@[simp] theorem modFlow_pwr (s : State) (i : Nat) (f : Flow → Flow) : (s.modFlow i f).pwr = s.pwr := rfl
@[simp] theorem modFlow_ports (s : State) (i : Nat) (f : Flow → Flow) : (s.modFlow i f).ports = s.ports := rfl
@[simp] theorem modFlow_acq (s : State) (i : Nat) (f : Flow → Flow) : (s.modFlow i f).acq = s.acq := rfl
@[simp] theorem modFlow_twn (s : State) (i : Nat) (f : Flow → Flow) : (s.modFlow i f).twn = s.twn := rfl
@[simp] theorem modFlow_spw (s : State) (i : Nat) (f : Flow → Flow) : (s.modFlow i f).spw = s.spw := rfl
@[simp] theorem modFlow_tap (s : State) (i : Nat) (f : Flow → Flow) : (s.modFlow i f).tap = s.tap := rfl

@[simp] theorem modLPort_pending (s : State) (i : Nat) (f : LPort → LPort) : (s.modLPort i f).pending = s.pending := rfl
@[simp] theorem modLPort_out (s : State) (i : Nat) (f : LPort → LPort) : (s.modLPort i f).out = s.out := rfl
@[simp] theorem modLPort_freeCtr (s : State) (i : Nat) (f : LPort → LPort) : (s.modLPort i f).freeCtr = s.freeCtr := rfl
@[simp] theorem modLPort_lastRead (s : State) (i : Nat) (f : LPort → LPort) : (s.modLPort i f).lastRead = s.lastRead := rfl
@[simp] theorem modLPort_fuse (s : State) (i : Nat) (f : LPort → LPort) : (s.modLPort i f).fuse = s.fuse := rfl
@[simp] theorem modLPort_rst (s : State) (i : Nat) (f : LPort → LPort) : (s.modLPort i f).rst = s.rst := rfl
@[simp] theorem modLPort_boot (s : State) (i : Nat) (f : LPort → LPort) : (s.modLPort i f).boot = s.boot := rfl
@[simp] theorem modLPort_host (s : State) (i : Nat) (f : LPort → LPort) : (s.modLPort i f).host = s.host := rfl
@[simp] theorem modLPort_cmds (s : State) (i : Nat) (f : LPort → LPort) : (s.modLPort i f).cmds = s.cmds := rfl
@[simp] theorem modLPort_dxq (s : State) (i : Nat) (f : LPort → LPort) : (s.modLPort i f).dxq = s.dxq := rfl
@[simp] theorem modLPort_tmb (s : State) (i : Nat) (f : LPort → LPort) : (s.modLPort i f).tmb = s.tmb := rfl
@[simp] theorem modLPort_net (s : State) (i : Nat) (f : LPort → LPort) : (s.modLPort i f).net = s.net := rfl
@[simp] theorem modLPort_lpe (s : State) (i : Nat) (f : LPort → LPort) : (s.modLPort i f).lpe = s.lpe := rfl
@[simp] theorem modLPort_axes (s : State) (i : Nat) (f : LPort → LPort) : (s.modLPort i f).axes = s.axes := rfl
@[simp] theorem modLPort_eddy (s : State) (i : Nat) (f : LPort → LPort) : (s.modLPort i f).eddy = s.eddy := rfl
@[simp] theorem modLPort_sch (s : State) (i : Nat) (f : LPort → LPort) : (s.modLPort i f).sch = s.sch := rfl
@[simp] theorem modLPort_pwr (s : State) (i : Nat) (f : LPort → LPort) : (s.modLPort i f).pwr = s.pwr := rfl
@[simp] theorem modLPort_ports (s : State) (i : Nat) (f : LPort → LPort) : (s.modLPort i f).ports = updAt s.ports i f := rfl
@[simp] theorem modLPort_acq (s : State) (i : Nat) (f : LPort → LPort) : (s.modLPort i f).acq = s.acq := rfl
@[simp] theorem modLPort_twn (s : State) (i : Nat) (f : LPort → LPort) : (s.modLPort i f).twn = s.twn := rfl
@[simp] theorem modLPort_spw (s : State) (i : Nat) (f : LPort → LPort) : (s.modLPort i f).spw = s.spw := rfl
@[simp] theorem modLPort_tap (s : State) (i : Nat) (f : LPort → LPort) : (s.modLPort i f).tap = s.tap := rfl

@[simp] theorem emit_pending (s : State) (o : Out) : (s.emit o).pending = s.pending := rfl
@[simp] theorem emit_out (s : State) (o : Out) : (s.emit o).out = o :: s.out := rfl
@[simp] theorem emit_freeCtr (s : State) (o : Out) : (s.emit o).freeCtr = s.freeCtr := rfl
@[simp] theorem emit_lastRead (s : State) (o : Out) : (s.emit o).lastRead = s.lastRead := rfl
@[simp] theorem emit_fuse (s : State) (o : Out) : (s.emit o).fuse = s.fuse := rfl
@[simp] theorem emit_rst (s : State) (o : Out) : (s.emit o).rst = s.rst := rfl
@[simp] theorem emit_boot (s : State) (o : Out) : (s.emit o).boot = s.boot := rfl
@[simp] theorem emit_host (s : State) (o : Out) : (s.emit o).host = s.host := rfl
@[simp] theorem emit_cmds (s : State) (o : Out) : (s.emit o).cmds = s.cmds := rfl
@[simp] theorem emit_dxq (s : State) (o : Out) : (s.emit o).dxq = s.dxq := rfl
@[simp] theorem emit_tmb (s : State) (o : Out) : (s.emit o).tmb = s.tmb := rfl
@[simp] theorem emit_net (s : State) (o : Out) : (s.emit o).net = s.net := rfl
@[simp] theorem emit_lpe (s : State) (o : Out) : (s.emit o).lpe = s.lpe := rfl
@[simp] theorem emit_axes (s : State) (o : Out) : (s.emit o).axes = s.axes := rfl
@[simp] theorem emit_eddy (s : State) (o : Out) : (s.emit o).eddy = s.eddy := rfl
@[simp] theorem emit_sch (s : State) (o : Out) : (s.emit o).sch = s.sch := rfl
@[simp] theorem emit_pwr (s : State) (o : Out) : (s.emit o).pwr = s.pwr := rfl
@[simp] theorem emit_ports (s : State) (o : Out) : (s.emit o).ports = s.ports := rfl
@[simp] theorem emit_acq (s : State) (o : Out) : (s.emit o).acq = s.acq := rfl
@[simp] theorem emit_twn (s : State) (o : Out) : (s.emit o).twn = s.twn := rfl
@[simp] theorem emit_spw (s : State) (o : Out) : (s.emit o).spw = s.spw := rfl
@[simp] theorem emit_tap (s : State) (o : Out) : (s.emit o).tap = s.tap := rfl

@[simp] theorem free_pending (s : State) (w : Nat) : (s.free w).2.pending = s.pending := rfl
@[simp] theorem free_out (s : State) (w : Nat) : (s.free w).2.out = s.out := rfl
@[simp] theorem free_freeCtr (s : State) (w : Nat) : (s.free w).2.freeCtr = s.freeCtr + 1 := rfl
@[simp] theorem free_lastRead (s : State) (w : Nat) : (s.free w).2.lastRead = s.lastRead := rfl
@[simp] theorem free_fuse (s : State) (w : Nat) : (s.free w).2.fuse = s.fuse := rfl
@[simp] theorem free_rst (s : State) (w : Nat) : (s.free w).2.rst = s.rst := rfl
@[simp] theorem free_boot (s : State) (w : Nat) : (s.free w).2.boot = s.boot := rfl
@[simp] theorem free_host (s : State) (w : Nat) : (s.free w).2.host = s.host := rfl
@[simp] theorem free_cmds (s : State) (w : Nat) : (s.free w).2.cmds = s.cmds := rfl
@[simp] theorem free_dxq (s : State) (w : Nat) : (s.free w).2.dxq = s.dxq := rfl
@[simp] theorem free_tmb (s : State) (w : Nat) : (s.free w).2.tmb = s.tmb := rfl
@[simp] theorem free_net (s : State) (w : Nat) : (s.free w).2.net = s.net := rfl
@[simp] theorem free_lpe (s : State) (w : Nat) : (s.free w).2.lpe = s.lpe := rfl
@[simp] theorem free_axes (s : State) (w : Nat) : (s.free w).2.axes = s.axes := rfl
@[simp] theorem free_eddy (s : State) (w : Nat) : (s.free w).2.eddy = s.eddy := rfl
@[simp] theorem free_sch (s : State) (w : Nat) : (s.free w).2.sch = s.sch := rfl
@[simp] theorem free_pwr (s : State) (w : Nat) : (s.free w).2.pwr = s.pwr := rfl
@[simp] theorem free_ports (s : State) (w : Nat) : (s.free w).2.ports = s.ports := rfl
@[simp] theorem free_acq (s : State) (w : Nat) : (s.free w).2.acq = s.acq := rfl
@[simp] theorem free_twn (s : State) (w : Nat) : (s.free w).2.twn = s.twn := rfl
@[simp] theorem free_spw (s : State) (w : Nat) : (s.free w).2.spw = s.spw := rfl
@[simp] theorem free_tap (s : State) (w : Nat) : (s.free w).2.tap = s.tap := rfl

theorem axis_modAxis (s : State) (i : Nat) (f : Axis → Axis) (h : i < s.axes.length) : (s.modAxis i f).axis i = f (s.axis i) :=
  updAt_getD_self f {} s.axes i h
theorem axis_modAxis_ne (s : State) (i j : Nat) (f : Axis → Axis) (h : i ≠ j) : (s.modAxis i f).axis j = s.axis j :=
  updAt_getD_ne f {} s.axes i j h
theorem ring_modRing (s : State) (i : Nat) (f : Ring → Ring) (h : i < s.host.rings.length) : (s.modRing i f).ring i = f (s.ring i) :=
  updAt_getD_self f {} s.host.rings i h
theorem ring_modRing_ne (s : State) (i j : Nat) (f : Ring → Ring) (h : i ≠ j) : (s.modRing i f).ring j = s.ring j :=
  updAt_getD_ne f {} s.host.rings i j h
theorem core_modCore (s : State) (i : Nat) (f : Core → Core) (h : i < s.eddy.cores.length) : (s.modCore i f).core i = f (s.core i) :=
  updAt_getD_self f {} s.eddy.cores i h
theorem core_modCore_ne (s : State) (i j : Nat) (f : Core → Core) (h : i ≠ j) : (s.modCore i f).core j = s.core j :=
  updAt_getD_ne f {} s.eddy.cores i j h
theorem lport_modLPort (s : State) (i : Nat) (f : LPort → LPort) (h : i < s.ports.length) : (s.modLPort i f).lport i = f (s.lport i) :=
  updAt_getD_self f {} s.ports i h
theorem mport_modMPort (s : State) (i : Nat) (f : MPort → MPort) (h : i < s.net.ports.length) : (s.modMPort i f).mport i = f (s.mport i) :=
  updAt_getD_self f {} s.net.ports i h
theorem node_modNode (s : State) (i : Nat) (f : Node → Node) (h : i < s.net.nodes.length) : (s.modNode i f).node i = f (s.node i) :=
  updAt_getD_self f {} s.net.nodes i h
theorem flow_modFlow (s : State) (i : Nat) (f : Flow → Flow) (h : i < s.sch.flows.length) : (s.modFlow i f).flow i = f (s.flow i) :=
  updAt_getD_self f {} s.sch.flows i h

end State

end Sys2Proof.Machine
end

