-- ==== Sys2Proof/Tests/Slice0.lean ====
section
/-! SUPPORT. Tests of the model: ill-formed commands refused, Eddy words written out from their encodings, worked examples of the spec,
single steps, and for each statement with hypotheses a state and operands that meet them (`wit_` and the statement's name). Hypotheses
on an opaque constant of Config (an image's decoding, its authenticity, the size of a DRAM channel, the store's own test) cannot be
evaluated, so the witnesses show the rest of those clauses. -/
namespace Sys2Proof.Tests
open Sys2Proof Sys2Proof.Machine

/-- A part that is up: its islands run, its host is ready, and rings 0 to 2 are a CMD, a CPL and an EVT ring of 16 entries. -/
def up : State := { State.reset with
  rst := { State.reset.rst with islands := List.replicate 9 .running, phase := .running, episode := none }
  host := { State.reset.host with
    ready := true
    linkUp := true
    rings := [{ enable := true, cplRing := 1, sizeLog2 := 4, prio := true }, { enable := true, type := 1, sizeLog2 := 4 },
      { enable := true, type := 2, sizeLog2 := 4 }] ++ List.replicate 61 {} } }

/-- A packet of the boot script for a target, with its parameter words. -/
def pk (target : Half) (words : List Word) : Pkt := { src := .script, target := target, plen := 4 * words.length, words := words }

/-- `n` words, all 0 but those named. -/
def ws (n : Nat) (l : List (Nat × Word)) : List Word := (List.range n).map fun i => ((l.find? fun x => x.1 == i).map Prod.snd).getD 0

/-- The state after a command. -/
def after (c : Instr) (s : State) : State :=
  match exec c s with
  | .next t => t
  | _ => s

/-- `up` with one axis, node, port, core or flow changed. -/
def upAxis (f : Axis → Axis) : State := up.modAxis 0 f
def upNode (f : Node → Node) : State := up.modNode 0 f
def upPort (f : MPort → MPort) : State := up.modMPort 0 f
def upCore (f : Core → Core) : State := up.modCore 0 f
def upFlow (f : Flow → Flow) : State := up.modFlow 0 f
def upRing (n : Nat) (f : Ring → Ring) : State := up.modRing n f

/-- A generation with one line on port 0. -/
def gen1 : GenImage := { gen := 1, lines := [{ port := 0 }] }

/-- The same on the smaller part. -/
def fewUp : State := { up with fuse := { up.fuse with code := 0x1281 } }

/-! ## Witnesses: states and operands that meet the hypotheses of the statements -/

theorem wit_EmptyQueueTicks : State.reset.pending = [] := rfl

theorem wit_StepKeepsThePlanLegal : State.PlanOk { up with net := { up.net with active := some gen1 } } ∧ step up = .next up.tick := by
  refine ⟨?_, rfl⟩
  unfold State.PlanOk
  refine ⟨by decide, fun g h => ?_, fun g h => (by cases h)⟩
  cases h
  unfold GenImage.Legal
  decide

/-- A node 0 below port 0: a head (class 3), or one of class `c`. -/
def below (c : BitVec 4) (lost : Bool) : State := upNode fun x => { x with used := true, cls := c, lost := lost }
def pathPk (target : Half) : Pkt := { pk target [] with flags := 1, plen := 4, path := 0x000FFFFFFFFF#48 }

theorem wit_CommonChecksComeFirst :
    up.Takes opNop (pk 0 [])
    ∧ State.reset.host.ready = false
    ∧ (State.serves { up with boot := { up.boot with romOnly := true } } opMove.opcode = false)
    ∧ State.headerCheck { pk 0 [] with version := 2 } = some (stBadOpcode, 0)
    ∧ (below 3 false).route (pathPk 0) = .nested 0 0xFFFFFFFFFFFF#48
    ∧ State.lengthCheck opMove (pk 0x1000 []) up = some (stBadLength, noWord)
    ∧ up.route (pathPk 0) = .bad
    ∧ (up.route (pk 0x1100 []) = .here ∧ (pk 0x1100 []).kind = opAxisEnable.kind ∧ up.unitCount 1 = (pk 0x1100 []).unit)
    ∧ (below 3 true).route (pathPk 0) = .lost
    ∧ (below 1 false).route (pathPk 0) = .atNode 0
    ∧ twinForwarded opMove.opcode = true ∧ twinForwarded opNop.opcode = false := by
  unfold State.Takes; (repeat' apply And.intro) <;> decide

theorem wit_CompletionsAreWritten : ∃ p : Pkt, p.src = .ring 0 ∧ p.silent = false ∧ (up.ring (up.ring 0).cplRing.toNat).room 1 = true
    ∧ up.host.cplWait = [] ∧ Pkt.silent { p with flags := 0x10 } = true :=
  ⟨{ src := .ring 0 }, by decide⟩

theorem wit_DoorbellsMoveIndices :
    ((up.ring 0).enable = true ∧ (up.ring 0).type = 0 ∧ (16 + 32 - (up.ring 0).head.toNat) % 32 = 16)
    ∧ (17 + 32 - (up.ring 0).head.toNat) % 32 = (up.ring 0).size + 1 ∧ 2 * (up.ring 0).size = 32
    ∧ ((up.ring 1).enable = true ∧ (up.ring 1).type ≠ 0 ∧ (0 + 32 - (up.ring 1).head.toNat) % 32 = (up.ring 1).fill)
    ∧ (1 + 32 - (up.ring 1).head.toNat) % 32 = (up.ring 1).fill + 1
    ∧ (up.ring 63).enable = false := by
  (repeat' apply And.intro) <;> decide

theorem wit_RingControlWrites :
    ((up.ring 3).enable = false ∧ (0x80043041#32).getLsbD 31 = true ∧ (up.ring (field (0x80043041#32).toNat 18 6)).type = 1)
    ∧ field (0x80000031#32).toNat 4 4 = 3 ∧ field (0x8003C041#32).toNat 12 6 = 60
    ∧ ((up.ring 0).enable = true ∧ (0#32).getLsbD 31 = false) := by
  (repeat' apply And.intro) <;> decide

theorem wit_InterruptRegisters :
    (let s := upRing 2 fun r => { r with unsig := 1, imodTime := 1 };
      (s.ring 2).enable = true ∧ (s.ring 2).unsig ≠ 0 ∧ (s.ring 2).imodTime ≠ 0)
    ∧ (up.ring 2).unsig = 0 := by
  (repeat' apply And.intro) <;> decide

theorem wit_HostLinkResets : up.host.heldBootDone = none := rfl

theorem wit_ForwardedCommands :
    (let s : State := { up with host := { up.host with fwd := [{ id := 7, node := 0, pkt := { src := .ring 0 } }] } };
      (s.host.fwd.find? (fun g => g.id == 7)).isSome = true ∧ s.host.fwd.find? (fun g => g.id == 8) = none)
    ∧ (stAccepted ≠ stDenied ∧ stDenied ≠ stOk) ∧ 4 * (ws 12 []).length ≤ 48 ∧ ¬ 4 * (ws 13 []).length ≤ 48
    ∧ ((opOf 0x0001).isSome = true ∧ opOf 0xFFFF = none ∧ up.net.conf.role = false)
    ∧ Conf.role { up.net.conf with role := true } = true := by
  (repeat' apply And.intro) <;> decide

/-- Ring 0 with one command in it. -/
def waiting : State := { upRing 0 (fun r => { r with tail := 1 }) with boot := { up.boot with scriptDone := true } }
def nopCmd : Cmd := { opcode := 1, pkt := { src := .ring 0 } }
def held : State := waiting.modFlow 0 fun f => { f with exist := true, depth := 1, queue := [{ arg := 0 }] }
def postCmd : Cmd := { opcode := opTaskPost.opcode, pkt := { src := .ring 0, target := 0x5000, plen := 16, words := ws 4 [] } }

theorem wit_CommandsAreTaken :
    waiting.canTake 0 nopCmd = true ∧ up.canTake 0 nopCmd = false
    ∧ (State.runCmd nopCmd waiting).sch.held = []
    ∧ (State.runCmd postCmd held).sch.held = [.other postCmd.pkt] ∧ State.fromRing 0 postCmd.pkt = true
    ∧ (up.ring 0).running = true ∧ (up.ring 3).running = false
    ∧ (nopCmd.pkt.rbuf = false ∧ Pkt.rbuf { nopCmd.pkt with flags := 4 } = true
      ∧ waiting.canTake 0 { nopCmd with pkt := { nopCmd.pkt with flags := 4 } } = true) := by
  (repeat' apply And.intro) <;> decide

theorem wit_BootScript :
    (let s : State := { up with boot := { up.boot with script := { valid := true, packets := [nopCmd] } } };
      let t : State := { s with boot := { s.boot with scriptIdx := some 0 } };
      s.host.ready = true ∧ s.boot.romOnly = false ∧ s.boot.scriptDone = false ∧ s.boot.scriptIdx = none
      ∧ t.boot.script.packets[0]? = some nopCmd ∧ t.boot.scriptWait = false)
    ∧ Script.valid {} = false ∧ Script.hostSkip { hostSkip := true } = true ∧ up.host.linkUp = true
    ∧ up.host.heldBootDone = none
    ∧ (let v : Word := 0x102;
      State.evtTarget { up with host := { up.host with evtEn := v.getLsbD 8, evtRing := v.extractLsb' 0 6 } } = some 2)
    ∧ ((up.ring 2).running = true ∧ (up.ring 2).room 2 = true ∧ ((upRing 2 fun r => { r with tail := 16 }).ring 2).room 2 = false
      ∧ ((upRing 2 fun r => { r with stopped := true }).ring 2).running = false) := by
  (repeat' apply And.intro) <;> decide

theorem wit_QueriesAnswer :
    up.Takes opNop (pk 0 []) ∧ up.Takes opGetIdentity (pk 0 []) ∧ up.Takes opGetStatus (pk 0 []) ∧ up.Takes opTwinHealth (pk 0 [])
    ∧ up.Takes opPowerStatus (pk 0 []) := by
  unfold State.Takes; (repeat' apply And.intro) <;> decide

/-- A packet from the upstream head. -/
def above (p : Pkt) : Pkt := { p with src := .upstream }
def noUp : State := { up with rst := { up.rst with upstreamEn := false } }

theorem wit_ResetCommands :
    (noUp.Takes opReset (above (pk 0 [1])) ∧ noUp.rst.upstreamEn = false)
    ∧ (up.Takes opReset (pk 0 [3]) ∧ (pk 0 [3]).fld 0 0 2 = 3) ∧ (up.Takes opReset (above (pk 0 [0])) ∧ (above (pk 0 [0])).fld 0 0 2 = 0)
    ∧ (up.Takes opReset (pk 0 [0]) ∧ up.rst.pendingReset = none)
    ∧ (State.Takes { up with rst := { up.rst with pendingReset := some (.cold, 7) } } opReset (pk 0 [1]))
    ∧ (up.Takes opReset (pk 0 [2]) ∧ (pk 0 [2]).fld 0 0 2 = 2 ∧ State.blockOf 0 = none ∧ State.blockOf 0x0F = none)
    ∧ (noUp.Takes opReset (above (pk 0 [2])))
    ∧ (fewUp.Takes opReset (pk 0 [0x2002]) ∧ State.blockOf ((pk 0 [0x2002]).fld 0 8 8) = some (.core 16) ∧ fewUp.fusedOff (.core 16) = true)
    ∧ (State.blockOf 0x40 = some (.mport 0) ∧ up.fusedOff (.mport 0) = false ∧ up.blockFree (.mport 0) = true
      ∧ up.Takes opReset (pk 0 [0x4002]) ∧ (upPort fun x => { x with state := .walking }).blockFree (.mport 0) = false)
    ∧ ((upPort fun x => { x with state := .walking }).Takes opReset (pk 0 [0x4002]))
    ∧ (up.Takes opBlockQuiesce (pk 0 [0x40]) ∧ fewUp.Takes opBlockQuiesce (pk 0 [0x20]) ∧ State.blockOf 0x20 = some (.core 16)
      ∧ (upPort fun x => { x with state := .walking }).Takes opBlockQuiesce (pk 0 [0x40]) ∧ up.Takes opBlockQuiesce (pk 0 [0]))
    ∧ (up.blockQuiet (.mport 0) = true ∧ State.blockOf 0x10 = some (.core 0) ∧ up.blockQuiet (.core 0) = false) := by
  unfold State.Takes; (repeat' apply And.intro) <;> decide

def updating (u : Update) : State := { up with boot := { up.boot with update := some u } }

theorem wit_ImageUpdates :
    (up.Takes opImageUpdateBegin (pk 0 [0x7FF000, 1, 0, 0]) ∧ (pk 0 [0x7FF000, 1, 0, 0]).w 0 = 0x7FF000 ∧ up.boot.update = none)
    ∧ (let s := updating { length := 4, version := 0, commit := some (pk 0 []) }
      s.Takes opImageUpdateBegin (pk 0 [4, 0, 0, 0]))
    ∧ up.Takes opImageUpdateBegin (pk 0 [0x7FF004, 1, 0, 0])
    ∧ (updating { length := 4, version := 0 }).boot.update.isSome = true
    ∧ (let s := updating { length := 4, version := 0, erasing := false }
      s.Takes opImageUpdateWrite (pk 0 [0, 4, 9]) ∧ s.Takes opImageUpdateWrite (pk 0 [4, 4, 9]) ∧ s.Takes opImageUpdateWrite (pk 0 [0, 8, 9, 9])
      ∧ s.Takes opImageUpdateCommit (pk 0 (ws 16 [])))
    ∧ (let s := updating { length := 4, version := 0, erasing := false, written := 4 }
      s.Takes opImageUpdateCommit (pk 0 (ws 16 [])))
    ∧ (let s := updating { length := 4, version := 0 }
      s.Takes opImageUpdateCommit (pk 0 (ws 16 [])) ∧ s.Takes opImageUpdateWrite (pk 0 [0, 4, 9]))
    ∧ up.Takes opImageUpdateWrite (pk 0 [0, 4, 9]) ∧ up.Takes opImageUpdateCommit (pk 0 (ws 16 []))
    ∧ (updating { length := 4, version := 0, erasing := false, written := 4, commit := some (pk 0 []) }).Takes opImageUpdateCommit
        (pk 0 (ws 16 [])) := by
  unfold State.Takes; (repeat' apply And.intro) <;> decide

/-- Local port 0 reads an encoder and drives a power stage; the plan gives axis 0 a current recipe on it. -/
def recipe0 : Recipe := { id := 1, mode := .c, stages := [.inn, .ct, .cu3, .out] }
def planned : State := { up with
  net := { up.net with active := some { gen1 with recipes := [recipe0], slots := [{ lattice := 0, slot := 0, axis := 0, recipe := 1 }] } }
  ports := updAt up.ports 0 fun x => { x with cfg := updAt x.cfg 0 fun _ => 1 } }
def cfgPk (l : List (Nat × Word)) : Pkt := pk 0x1000
  (ws 10 (l ++ [(0, 0x100), (1, 0x80000000), (2, 0x80000000), (3, 1), (4, 1), (5, 1), (6, 1), (8, 0x04000001), (9, 0x7FFF0000)]))

set_option maxRecDepth 4000 in
theorem wit_AxisStates :
    up.Takes opAxisConfigure (cfgPk [(1, 0x80000010)]) ∧ fewUp.Takes opAxisConfigure (cfgPk [(1, 0x80000008)])
    ∧ (planned.Takes opAxisConfigure (cfgPk []) ∧ field ((cfgPk []).w 1) 31 1 = 1 ∧ field ((cfgPk []).w 1) 0 4 < planned.nLocal
      ∧ (planned.axis 0).state = .disabled ∧ field ((planned.lport 0).cfg.getD 0 0).toNat 0 2 ≠ 0 ∧ planned.configFault (cfgPk []) = none)
    ∧ planned.configFault (cfgPk [(9, 0x80000000)]) = some 9
    ∧ (up.Takes opAxisConfigure (cfgPk []) ∧ field ((up.lport 0).cfg.getD 0 0).toNat 0 2 = 0)
    ∧ ((upAxis fun a => { a with state := .ready }).Takes opAxisConfigure (cfgPk []) ∧ ((upAxis fun a => { a with state := .ready }).axis 0).state = .ready)
    ∧ (upAxis fun a => { a with state := .ready }).Takes opAxisEnable (pk 0x1000 [])
    ∧ (up.Takes opAxisEnable (pk 0x10FF []) ∧ up.Takes opAxisDisable (pk 0x10FF [1]))
    ∧ ((upAxis fun a => { a with state := .enabled }).Takes opAxisDisable (pk 0x1000 [0])
      ∧ (upAxis fun a => { a with state := .enabled }).Takes opAxisDisable (pk 0x1000 [1])
      ∧ (upAxis fun a => { a with state := .fault }).Takes opAxisDisable (pk 0x1000 [1]))
    ∧ (let s := upAxis fun a => { a with state := .fault, action := some 3 }
      s.Takes opAxisClearFault (pk 0x1000 [0]) ∧ s.Takes opAxisClearFault (pk 0x1000 [1]) ∧ (s.axis 0).state = .fault
      ∧ s.conditionPresent 0 = false)
    ∧ ((upAxis fun a => { a with state := .fault }).Takes opAxisClearFault (pk 0x1000 [1])
      ∧ ((upAxis fun a => { a with state := .fault }).axis 0).action ≠ some 3) := by
  unfold State.Takes; (repeat' apply And.intro) <;> decide

theorem wit_ParameterSets :
    (let s := upAxis fun a => { a with hdr := { a.hdr with switchPending := true } };
      s.Takes opParamsetWrite (pk 0x1000 [1, 0, 4, 0]) ∧ s.Takes opParamsetSwitchAt (pk 0 (ws 12 [(4, 1)])) ∧ State.maskAxes (pk 0 (ws 12 [(4, 1)])) = [0])
    ∧ ((upAxis fun a => { a with state := .enabled }).Takes opParamsetWrite (pk 0x1000 [0, 0, 4, 0]))
    ∧ (up.Takes opParamsetWrite (pk 0x1000 [1, 0x7F8, 4, 0]) ∧ (up.axis 0).hdr.activeSet = false ∧ badData 0x7F8 3 [0] = none)
    ∧ (up.Takes opParamsetWrite (pk 0x1000 [1, 0x7FC, 4, 0]) ∧ up.Takes opParamsetWrite (pk 0x1000 [1, 0, 0]))
    ∧ (up.Takes opParamsetWrite (pk 0x1000 [0, 0x7F8, 4, 0]))
    ∧ badData 0xF8 3 [0x20000] = some 3
    ∧ (fewUp.Takes opParamsetSwitchAt (pk 0 (ws 12 [(8, 1)])) ∧ State.maskAxes (pk 0 (ws 12 [(8, 1)])) = [128] ∧ fewUp.nAxes = 128)
    ∧ (up.Takes opParamsetSwitchAt (pk 0 (ws 12 [])) ∧ State.maskAxes (pk 0 (ws 12 [])) = [])
    ∧ (up.Takes opParamsetSwitchAt (pk 0 (ws 12 [(0, 1), (4, 1)])) ∧ (pk 0 (ws 12 [(0, 1), (4, 1)])).w64 0 < up.k + 2)
    ∧ (up.Takes opParamsetSwitchAt (pk 0 (ws 12 [(0, 2), (4, 1)])) ∧ (pk 0 (ws 12 [(0, 2), (4, 1)])).w64 0 = up.k + 2 ∧ up.cmds.length < 256) := by
  unfold State.Takes; (repeat' apply And.intro) <;> decide

def enabled0 : State := upAxis fun a => { a with state := .enabled, hdr := { a.hdr with spdFs := 10, accFs := 10 } }
def movePk (l : List (Nat × Word)) : Pkt := pk 0x1000 (ws 10 (l ++ [(5, 10), (6, 10), (7, 10), (8, 1)]))

theorem wit_MotionCommands :
    (up.Takes opMove (movePk []) ∧ (up.axis 0).state ≠ .enabled)
    ∧ (enabled0.Takes opMove (movePk []) ∧ (enabled0.axis 0).state = .enabled ∧ (enabled0.axis 0).prof.state = .idle
      ∧ State.moveFault (enabled0.axis 0) (State.movePar (movePk [])) = none ∧ (movePk []).fld 0 16 1 = 0)
    ∧ State.moveFault (enabled0.axis 0) (State.movePar (movePk [(5, 11)])) = some 5
    ∧ (enabled0.Takes opMove (movePk [(0, 0x10000), (1, 1)]) ∧ enabled0.extend 1 = enabled0.k + 1)
    ∧ (enabled0.Takes opMove (movePk [(0, 0x10000), (1, 2)]) ∧ enabled0.extend 2 = enabled0.k + 2)
    ∧ up.Takes opStop (pk 0x1000 [0, 0]) ∧ enabled0.Takes opStop (pk 0x1000 [3, 0]) ∧ enabled0.Takes opStop (pk 0x1000 [1, 0])
    ∧ enabled0.Takes opStop (pk 0x1000 [1, 1]) := by
  unfold State.Takes; (repeat' apply And.intro) <;> decide

def homePk (l : List (Nat × Word)) : Pkt := pk 0x1000 (ws 12 (l ++ [(4, 10), (5, 10), (6, 10)]))
def cmpPk (l : List (Nat × Word)) : Pkt := pk 0x1000 (ws 8 l)
def gearPk (l : List (Nat × Word)) : Pkt := pk 0x1000 (ws 10 (l ++ [(2, 1), (4, 1)]))
def geared : State := { enabled0 with
  net := { up.net with active := some { gen1 with slots := [{ lattice := 0, slot := 1, axis := 1, recipe := 1 }] } } }

theorem wit_MotionSettings :
    (up.Takes opHome (homePk []) ∧ State.takesMove (up.axis 0) = false)
    ∧ (up.Takes opHome (homePk [(0, 0x100), (7, 2000)]) ∧ (homePk [(0, 0x100)]).fld 0 8 1 = 1 ∧ up.homeFault (homePk [(0, 0x100), (7, 2000)]) = none)
    ∧ up.homeFault (homePk [(0, 0x100), (7, 2001)]) = some 7
    ∧ (enabled0.Takes opHome (homePk []) ∧ State.takesMove (enabled0.axis 0) = true ∧ enabled0.homeFault (homePk []) = none)
    ∧ (fewUp.Takes opCompareSet (cmpPk [(0, 0x200), (1, 8)]) ∧ (cmpPk [(0, 0x200), (1, 8)]).fld 1 0 4 = fewUp.nLocal)
    ∧ (fewUp.Takes opCompareSet (cmpPk [(0, 0x400), (1, 0x2000000)]) ∧ (cmpPk [(0, 0x400), (1, 0x2000000)]).fld 1 16 10 = fewUp.nNodes)
    ∧ (up.Takes opCompareSet (cmpPk [(0, 0x200), (1, 15)]) ∧ (cmpPk [(0, 0x200), (1, 15)]).fld 6 16 16 = 0)
    ∧ (up.Takes opCompareSet (cmpPk [(0, 0x400), (6, 4)]) ∧ (cmpPk [(0, 0x400), (6, 4)]).fld 6 0 12 % 8 ≠ 0)
    ∧ (up.Takes opCompareSet (cmpPk [(0, 0x600), (1, 0x03FF000F), (6, 0x00010FF8)])
      ∧ (cmpPk [(0, 0x600), (1, 0x03FF000F), (6, 0x00010FF8)]).fld 6 0 12 % 8 = 0)
    ∧ (fewUp.Takes opGearSet (gearPk [(0, 1), (2, 128)]) ∧ (gearPk [(0, 1), (2, 128)]).fld 2 0 8 = fewUp.nAxes)
    ∧ up.Takes opGearSet (gearPk [])
    ∧ (geared.Takes opGearSet (gearPk [(0, 3)]) ∧ (geared.axis 0).state = .enabled ∧ (geared.axis 0).prof.state = .idle)
    ∧ (geared.Takes opGearSet (gearPk [(0, 1), (2, 0)]) ∧ (gearPk [(0, 1), (2, 0)]).fld 2 0 8 = 0 ∧ geared.slotOf 2 = none)
    ∧ (geared.Takes opGearSet (gearPk [(0, 1)]) ∧ geared.slotOf 1 ≠ none ∧ geared.chainReaches 0 256 1 = false)
    ∧ (geared.Takes opGearSet (gearPk [(0, 2), (4, 0)]))
    ∧ (geared.Takes opGearSet (gearPk [(0, 0x10001), (1, 1)]) ∧ geared.Takes opGearSet (gearPk [(0, 0x10001), (1, 2)]))
    ∧ up.Takes opRegistrationBind (pk 0x1000 (ws 6 [])) := by
  unfold State.Takes; (repeat' apply And.intro) <;> decide

def dist (n : Nat) : State := { up with net := { up.net with pending := some gen1, pendState := n } }
def late1 : State := { dist 3 with net := { (dist 3).net with pending := some { gen1 with epoch := 1 } } }
def node0 : State := upNode fun x => { x with used := true }
def chunk (l : List (Nat × Word)) : Pkt := pk 0 (ws 4 (l ++ [(0, 0x10002), (2, 4)]))

set_option maxRecDepth 4000 in
theorem wit_NetworkCommands :
    (up.Takes opNetDiscover (pk 0x2000 [1, 0, 0, 0]) ∧ (up.mport 0).state ≠ .walking ∧ up.carriesSlots 0 = false)
    ∧ ((upPort fun x => { x with state := .walking }).Takes opNetDiscover (pk 0x2000 [1, 0, 0, 0]))
    ∧ (up.Takes opNetDiscover (pk 0x2000 [0x21, 0, 0, 0]) ∧ (pk 0x2000 [0x21, 0, 0, 0]).fld 0 4 2 = 2 ∧ up.twn.peer = none)
    ∧ (up.Takes opNetDiscover (pk 0x2000 [0, 0, 0, 0]) ∧ up.Takes opNetDiscover (pk 0x2000 [0x31, 0, 0, 0])
      ∧ (fewUp.Takes opNetDiscover (pk 0x2000 [0x180011, 0, 0, 0]) ∧ (pk 0x2000 [0x180011, 0, 0, 0]).fld 0 16 6 = fewUp.nPorts))
    ∧ (up.Takes opNetScheduleLoad (chunk [(0, 2)]) ∧ up.net.arriving = none)
    ∧ (up.Takes opNetScheduleLoad (chunk [(0, 0x10000)]) ∧ (chunk [(0, 0x10000)]).fld 0 0 16 = 0)
    ∧ (up.Takes opNetScheduleLoad (chunk [(1, 1048573)]) ∧ (chunk [(1, 1048573)]).w 1 + (chunk []).w 2 = 1048577)
    ∧ (State.Takes { up with cmds := [{ opcode := 0x0202, pkt := pk 0 [], cycle := 9 }] } opNetScheduleLoad (chunk []) ∧ State.activationNamed { up with cmds := [{ opcode := 0x0202, pkt := pk 0 [], cycle := 9 }] } = true)
    ∧ (up.Takes opNetScheduleLoad (chunk [(1, 1048572)]) ∧ up.net.joinGen = false ∧ up.activationNamed = false ∧ (chunk []).fld 0 17 1 = 0)
    ∧ (up.Takes opNetScheduleLoad (chunk [(0, 0x30002)]) ∧ (chunk [(0, 0x30002)]).fld 0 17 1 = 1)
    ∧ (up.Takes opNetScheduleActivateAt (pk 0 [2, 0, 1, 0]) ∧ up.namedPending 1 = none)
    ∧ ((dist 3).Takes opNetScheduleActivateAt (pk 0 [2, 0, 1, 0]) ∧ (dist 3).namedPending 1 = some gen1 ∧ (dist 3).changesTime gen1 = false
      ∧ (pk 0 [2, 0, 1, 0]).w64 0 = (dist 3).k + 2)
    ∧ (dist 2).Takes opNetScheduleActivateAt (pk 0 [2, 0, 1, 0]) ∧ (dist 3).Takes opNetScheduleActivateAt (pk 0 [1, 0, 1, 0])
    ∧ (late1.Takes opNetScheduleActivateAt (pk 0 [0, 0, 1, 0]) ∧ late1.changesTime { gen1 with epoch := 1 } = true ∧ late1.allDark = true
      ∧ late1.othersPending = false ∧ late1.changeInstant 0 < 1 * 1000000000)
    ∧ (late1.net.pendState = 3 ∧ State.allDark (late1.modMPort 0 fun x => { x with state := .run }) = false)
    ∧ up.Takes opNetNodeMailbox (pk 0x3000 [0x100, 1, 0])
    ∧ (node0.Takes opNetNodeMailbox (pk 0x3000 [0xFF, 1, 0]) ∧ node0.Takes opNetNodeMailbox (pk 0x3000 [0x100, 0, 0])
      ∧ node0.Takes opNetNodeMailbox (pk 0x3000 [0x100, 10001, 0]) ∧ node0.Takes opNetNodeMailbox (pk 0x3000 [0x100, 10000, 4, 7]))
    ∧ (node0.Takes opNetNodeMailbox { pk 0x3000 [0x100, 1, 4064] with plen := 4076 })
    ∧ ((node0.modNode 0 fun x => { x with mailx := some { pkt := pk 0 [], expectReply := true, endNs := 1 } }).Takes opNetNodeMailbox
        (pk 0x3000 [0x100, 1, 0]))
    ∧ (up.Takes opNetJoinConfigure (pk 0x2000 [0x00640000, 16]) ∧ up.Takes opNetJoinConfigure (pk 0x2000 [0x00630100, 16])
      ∧ up.Takes opNetJoinConfigure (pk 0x2000 [0x00640100, 15]) ∧ up.Takes opNetJoinConfigure (pk 0x2000 [0x00640100, 1025])
      ∧ up.Takes opNetJoinConfigure (pk 0x2000 [0x00640101, 1024])) := by
  unfold State.Takes; (repeat' apply And.intro) <;> decide

/-- TIME_CONFIGURE with two domains that follow nothing. -/
def timePk (l : List (Nat × Word)) : Pkt := pk 0 (ws 38 (l ++ [(0, 200000), (7, 0x02000000), (13, 0x02000000)]))
def domState (p q : DState) : State := { up with tmb := { up.tmb with domP := { up.tmb.domP with state := p }, domS := { up.tmb.domS with state := q } } }
def snapping : State := { up with tmb := { up.tmb with snaps := updAt up.tmb.snaps 0 fun x => { x with state := 1 } } }

set_option maxRecDepth 4000 in
theorem wit_TimeCommands :
    ((upPort fun x => { x with state := .run }).Takes opTimeConfigure (timePk [(1, 1)]) ∧ (upPort fun x => { x with state := .run }).maySteps = false)
    ∧ (up.Takes opTimeConfigure (timePk [(0, 999)]) ∧ up.Takes opTimeConfigure (timePk [(0, 200001)]))
    ∧ (up.Takes opTimeConfigure (timePk [(1, 1), (4, 1000000000)]) ∧ up.maySteps = true)
    ∧ (up.Takes opTimeConfigure (timePk [(1, 1), (4, 999999999), (0, 1000)]) ∧ State.domFault up.net.conf.role .p (timePk []) 6 = none
      ∧ State.domFault up.net.conf.role .s (timePk []) 12 = none)
    ∧ (up.Takes opTimeConfigure (timePk []) ∧ State.domFault false .p (timePk [(7, 0x01000000)]) 6 = some 7
      ∧ State.domFault false .s (timePk [(12, 3)]) 12 = some 12 ∧ State.domFault false .p (timePk [(6, 4)]) 6 = some 6)
    ∧ ((upPort fun x => { x with state := .run }).Takes opTimeSelectDomain (pk 0 [1]) ∧ (upPort fun x => { x with state := .run }).allDark = false
      ∧ up.tmb.domS.state ≠ .locked)
    ∧ up.Takes opTimeSelectDomain (pk 0 [3]) ∧ (up.Takes opTimeSelectDomain (pk 0 [1]) ∧ up.allDark = true ∧ up.tmb.holdover = false)
    ∧ (let s : State := { domState .locked .lost with tmb := { (domState .locked .lost).tmb with holdover := true } };
      s.Takes opTimeSelectDomain (pk 0 [0]) ∧ (s.domain .p).state = .locked ∧ s.Takes opTimeSelectDomain (pk 0 [1]) ∧ (s.domain .s).state ≠ .locked)
    ∧ up.Takes opSnapshotAt (pk 0 [0, 0, 0, 0])
    ∧ (up.Takes opSnapshotAt (pk 0 [0, 0, 0x100, 0]) ∧ (pk 0 [0, 0, 0x100, 0]).w64 0 < up.cycleNs (up.k + 2))
    ∧ (up.Takes opSnapshotAt (pk 0 [62500, 0, 0x100, 0]) ∧ (pk 0 [62500, 0, 0x100, 0]).w64 0 = up.cycleNs (up.k + 2) ∧ (up.snap 0).state ≠ 1)
    ∧ snapping.Takes opSnapshotAt (pk 0 [62500, 0, 0x100, 0]) ∧ (snapping.snap 0).state = 1
    ∧ up.Takes opSnapshotRead (pk 0 [0, 0]) ∧ up.Takes opSnapshotRead (pk 0 [0, 0x330000]) ∧ up.Takes opSnapshotRead (pk 0 [0, 0x320000]) := by
  unfold State.Takes; (repeat' apply And.intro) <;> decide

def settings (l : List (Nat × Word)) : List Word := ws 16 (l ++ [(1, 2), (6, 1)])
def signal0 (l : List (Nat × Word)) : Pkt := pk 0 (ws 5 (l ++ [(0, 1), (2, 1)]))
def trigger (l : List (Nat × Word)) : Pkt := pk 0 (ws 26 (l ++ [(0, 2)]))
def acqIn (q : QState) : State := { up with acq := { up.acq with state := q } }
def rec0 : QRec := { num := 5, slot := 0, tNs := 0, tFrac := 0, cond := 0 }
def recorded : State := { up with acq := { up.acq with state := .done, slots := [rec0] } }
def inRing : State := { recorded with acq := { recorded.acq with settings := some (settings [(7, 0x83)]) } }

set_option maxRecDepth 4000 in
theorem wit_AcquisitionCommands :
    (acqIn .filling).Takes opAcqConfigure (pk 0 (settings []))
    ∧ (up.Takes opAcqConfigure (pk 0 (settings [])) ∧ up.acq.state = .idle ∧ settingsFault up.full (pk 0 (settings [])) = none)
    ∧ (up.Takes opAcqConfigure (signal0 []) ∧ signalsFault (signal0 []) = none ∧ (acqIn .done).Takes opAcqConfigure (signal0 []))
    ∧ (up.Takes opAcqConfigure (trigger []) ∧ ∀ c < 4, condFault (trigger []) c = none)
    ∧ settingsFault up.full (pk 0 (settings [(1, 1)])) = some 1 ∧ settingsFault up.full (pk 0 (settings [(1, 16777217)])) = some 1
    ∧ signalsFault (signal0 [(1, 4095), (2, 2)]) = some 1
    ∧ ([0, 1, 2, 3].findSome? (condFault (trigger [(2, 6)])) = some 2)
    ∧ ((pk 0 [3]).fld 0 0 2 = 3 ∧ State.headerCheck (pk 0 [3]) = none)
    ∧ (up.Takes opAcqArm (pk 0 [0, 0]) ∧ up.armFault = some (stNotReady, 0) ∧ up.Takes opAcqArm (pk 0 [1, 0]) ∧ up.Takes opAcqArm (pk 0 [2, 0])
      ∧ up.Takes opAcqArm (pk 0 [3, 0]))
    ∧ (State.Takes { up with acq := { up.acq with cur := some rec0 } } opAcqRead (pk 0 [5, 0, 0, 0]) ∧ up.Takes opAcqRead (pk 0 [5, 0, 0, 0]))
    ∧ (recorded.Takes opAcqRead (pk 0 [5, 0, 8, 0]) ∧ (recorded.acq.slots.find? fun r => r.num == 5) = some rec0 ∧ 8 ≤ rec0.bytes
      ∧ rec0.bytes % 8 = 0 ∧ (recorded.acq.ringOf = none))
    ∧ recorded.Takes opAcqRead (pk 0 [5, 4, 8, 0]) ∧ recorded.Takes opAcqRead (pk 0 [5, 0, 4, 0]) ∧ recorded.Takes opAcqRead (pk 0 [5, 0, 8, 1])
    ∧ (inRing.Takes opAcqRead (pk 0 [5, 0, 8, 1]) ∧ inRing.acq.ringOf ≠ none) := by
  unfold State.Takes; (repeat' apply And.intro) <;> decide

def parked : State := upCore fun x => { x with state := .parked, hostPark := true }
def loadPk (l : List (Nat × Word)) : Pkt := pk 0x4000 (ws 4 (l ++ [(0, 0x100), (2, 4)]))
def flowPk (l : List (Nat × Word)) : Pkt := pk 0x5000 (ws 8 (l ++ [(0, 0x100), (2, 1), (3, 200), (4, 1)]))
def flow0 (f : Flow → Flow) : State := upFlow fun x => f { x with exist := true, depth := 1 }

set_option maxRecDepth 8000 in
theorem wit_EddyCommands :
    (parked.Takes opEddyLoad (loadPk [(1, 16383)]) ∧ (parked.core 0).state = .parked ∧ (parked.core 0).hostPark = true ∧ (parked.core 0).flow = none
      ∧ loadIsFirst (loadPk []) = true ∧ loadMem (loadPk []) ≠ 3 ∧ loadAt (loadPk [(1, 16383)]) + (loadPk []).w 2 / 4 = 16384
      ∧ loadIsLast (loadPk []) = false)
    ∧ up.Takes opEddyLoad (loadPk []) ∧ parked.Takes opEddyLoad (loadPk [(0, 0)]) ∧ parked.Takes opEddyLoad (loadPk [(0, 0x103)])
    ∧ (upCore fun x => { x with state := .faulted, flow := some 1 }).Takes opEddyLoad (loadPk [])
    ∧ (upCore fun x => { x with state := .parked }).Takes opEddyLoad (loadPk [])
    ∧ (parked.Takes opEddyLoad (pk 0x4000 [0x100, 16383, 8, 0, 0]) ∧ parked.Takes opEddyLoad (pk 0x4000 [0x100, 0, 0]))
    ∧ (parked.Takes opEddyLoad (pk 0x4000 [0x300, 0, 4, 0, 1]) ∧ loadIsLast (pk 0x4000 [0x300, 0, 4, 0, 1]) = true
      ∧ crc32 (loadAll (pk 0x4000 [0x300, 0, 4, 0, 1]) (parked.core 0)) ≠ 1)
    ∧ (up.Takes opFlowCreate (flowPk [(0, 0)]) ∧ (up.flow 0).exist = false ∧ (flow0 id).Takes opFlowCreate (flowPk [(0, 0)])
      ∧ ((flow0 id).flow 0).active = false)
    ∧ ((flow0 fun f => { f with queue := [{ arg := 0 }] }).Takes opFlowCreate (flowPk [(0, 0)])
      ∧ ((flow0 fun f => { f with queue := [{ arg := 0 }] }).flow 0).active = true)
    ∧ (up.Takes opFlowCreate (flowPk [(0, 0x4000), (2, 0xFFFFFFFF), (3, 100000000)]) ∧ (flowPk [(0, 0x4000)]).fld 0 8 7 = 64
      ∧ fewUp.Takes opFlowCreate (flowPk [(2, 0x10000)]) ∧ fewUp.nCores = 16)
    ∧ up.Takes opFlowCreate (flowPk [(0, 0x4100)]) ∧ up.Takes opFlowCreate (flowPk [(0, 0x06000100)]) ∧ up.Takes opFlowCreate (flowPk [(2, 0)])
    ∧ up.Takes opFlowCreate (flowPk [(3, 199)]) ∧ up.Takes opFlowCreate (flowPk [(4, 0x10001)])
    ∧ (up.Takes opTaskPost (pk 0x5000 [0, 0, 0, 0]) ∧ (flow0 id).Takes opTaskPost (pk 0x5000 [0, 0, 0, 0]))
    ∧ (parked.Takes opCorePark (pk 0x4000 [1]) ∧ (parked.core 0).imageValid = false ∧ parked.Takes opCorePark (pk 0x4000 [0])
      ∧ (upCore fun x => { x with imageValid := true }).Takes opCorePark (pk 0x4000 [0])) := by
  unfold State.Takes; (repeat' apply And.intro) <;> decide

set_option maxRecDepth 8000 in
theorem wit_EddyCommands_room :
    (let s : State := { up with sch := { up.sch with flows := List.replicate 65 { exist := true, depth := 64 } } };
      4096 < s.reserved - (s.flow 0).reserve + (flowOf (flowPk [(0, 0x100)]) (s.flow 0)).reserve)
    ∧ up.reserved - (up.flow 0).reserve + (flowOf (flowPk [(0, 0x4000)]) (up.flow 0)).reserve ≤ 4096
    ∧ (flow0 id).flowRoom 0 = true ∧ (flow0 fun f => { f with queue := [{ arg := 0 }] }).flowRoom 0 = false := by
  (repeat' apply And.intro) <;> decide

def paired (r : TState) : State := { up with twn := { up.twn with
  state := r, lane0 := true, peer := some {}, peerState := 3, peerHealth := 0x04000000 } }
def twinPk (l : List (Nat × Word)) : Pkt := pk 0 (ws 4 (l ++ [(0, 0x100), (1, 0x100), (2, 100)]))
def stored : State := { up with spw := { up.spw with kept := some (List.replicate 256 {}, 0, 0) } }
def storePk (l : List (Nat × Word)) : Pkt := pk 0 (ws 6 (l ++ [(5, 25)]))

set_option maxRecDepth 8000 in
theorem wit_PlantCommands :
    (State.Takes (paired .single) opTwinConfigure (twinPk [(0, 0x103)]) ∧ (paired .single).peerKnown = true)
    ∧ (up.Takes opTwinConfigure (twinPk [(0, 0x101)]) ∧ up.peerKnown = false ∧ up.Takes opTwinConfigure (twinPk [(0, 0)])
      ∧ up.Takes opTwinConfigure (twinPk [(1, 0)]) ∧ up.Takes opTwinConfigure (twinPk [(2, 99)]) ∧ up.Takes opTwinConfigure (twinPk [(2, 10001)])
      ∧ up.Takes opTwinConfigure (twinPk []) ∧ up.Takes opTwinConfigure (twinPk [(0, 0x103), (2, 10000)]))
    ∧ (State.Takes { paired .single with fuse := { up.fuse with code := 0x1281 } } opTwinConfigure (twinPk [(0, 0x101)]))
    ∧ ((paired .single).Takes opTwinConfigure (twinPk [(0, 0x102)]) ∧ (paired .alone).Takes opTwinConfigure (twinPk [(0, 0x102)])
      ∧ (paired .single).twn.peer = some {} ∧ PeerInfo.side {} = none)
    ∧ (up.Takes opTwinYield (pk 0 [2, 0]) ∧ up.twn.state ≠ .active)
    ∧ ((paired .active).Takes opTwinYield (pk 0 [1, 0]) ∧ (paired .active).standbyHealthy = true ∧ (paired .active).Takes opTwinYield (pk 0 [2, 0])
      ∧ (pk 0 [2, 0]).w64 0 = (paired .active).k + 2)
    ∧ (State.Takes { paired .active with twn := { (paired .active).twn with yieldAt := some 9 } } opTwinYield (pk 0 [2, 0]))
    ∧ (up.Takes opPowerBudgetSet (pk 0 [0x02580032]) ∧ (pk 0 [0x02580032]).fld 0 0 16 = 50 ∧ (pk 0 [0x02580032]).fld 0 16 16 = 600)
    ∧ (up.Takes opPowerBudgetSet (pk 0 [0x02580031]) ∧ up.Takes opPowerBudgetSet (pk 0 [0x044C0191]) ∧ up.Takes opPowerBudgetSet (pk 0 [0x04420190])
      ∧ up.Takes opPowerBudgetSet (pk 0 [0x044D0190]))
    ∧ (up.Takes opStoreConfigure (storePk [(4, 0x10000)]) ∧ up.Takes opStoreConfigure (storePk [(5, 24)]) ∧ up.Takes opStoreConfigure (storePk [(5, 201)])
      ∧ up.Takes opStoreConfigure (storePk []) ∧ up.Takes opStoreConfigure (storePk [(0, 1), (5, 200), (4, 0x20000)]) ∧ up.spw.run = none)
    ∧ (State.Takes { up with spw := { up.spw with run := some { tier := 1, reason := 1 } } } opStoreConfigure (storePk []))
    ∧ (up.Takes opStoreNow (pk 0 [1]) ∧ up.spw.en = false)
    ∧ (let s : State := { up with spw := { up.spw with en := true } };
      s.Takes opStoreNow (pk 0 [0]) ∧ s.Takes opStoreNow (pk 0 [3]) ∧ s.Takes opStoreNow (pk 0 [1]) ∧ s.Takes opStoreNow (pk 0 [2]))
    ∧ (up.Takes opStoreRead (pk 0 [0, 0, 0, 0]) ∧ up.readRecord (pk 0 [0, 0, 0, 0]) = none) := by
  unfold State.Takes; (repeat' apply And.intro) <;> decide

set_option maxRecDepth 8000 in
theorem wit_PlantCommands_record :
    (stored.readRecord (pk 0 [2, 0, 4, 0])).map (fun r => (r.axes, recordBytes r.axes r.tier)) = some (256, 8384)
    ∧ stored.Takes opStoreRead (pk 0 [2, 0, 4, 0]) ∧ stored.Takes opStoreRead (pk 0 [2, 8384, 0, 0]) ∧ stored.Takes opStoreRead (pk 0 [2, 2, 4, 0])
    ∧ stored.Takes opStoreRead (pk 0 [2, 8384, 4, 0]) ∧ stored.Takes opStoreRead (pk 0 [0x102, 0, 4, 0]) ∧ stored.nAxes = 256 ∧ fewUp.nAxes = 128 := by
  unfold State.Takes; (repeat' apply And.intro) <;> decide

def portPk (l : List (Nat × Word)) : Pkt := pk 0x6000 (ws 28 l)
def bound0 : State := upAxis fun a => { a with state := .ready, hdr := { a.hdr with bound := true, binding := 0x80000000 } }
def pwm0 (f : Pwm → Pwm) : State := up.modLPort 0 fun x => { x with pwm := f x.pwm }

set_option maxRecDepth 8000 in
theorem wit_LocalPortCommands :
    (bound0.Takes opPortConfigure (portPk [(0, 1)]) ∧ bound0.axisOf 0 = some 0 ∧ (bound0.axis 0).state ≠ .disabled)
    ∧ (up.Takes opPortConfigure (portPk [(0, 1)]) ∧ up.axisOf 0 = none ∧ up.acq.armed = false
      ∧ axisGroupFault up.tmb.tc (portPk [(0, 1), (1, 3)]) = some 1 ∧ axisGroupFault up.tmb.tc (portPk [(0, 1)]) = none)
    ∧ (emuGroupFault up.nAxes (portPk [(0, 2)]) = some 25 ∧ emuGroupFault up.nAxes (portPk [(0, 3), (25, 1)]) = none)
    ∧ (up.Takes opPortConfigure (portPk [(0, 3), (25, 1)]) ∧ up.Takes opPortConfigure (portPk [(0, 2), (25, 1)]) ∧ up.Takes opPortConfigure (portPk []))
    ∧ (up.Takes opPwmFaultClear (pk 0x6000 []) ∧ up.faultPresent 0 = false)
    ∧ (pwm0 fun x => { x with present := 1 }).Takes opPwmFaultClear (pk 0x6000 [])
    ∧ (pwm0 fun x => { x with present := 1 }).faultPresent 0 = true := by
  unfold State.Takes; (repeat' apply And.intro) <;> decide

def generated : State := { up with net := { up.net with active := some { gen1 with slots := [{ lattice := 0, slot := 1, axis := 0, recipe := 1 }], recipes := [{ id := 1, mode := .p, stages := [.inn, .out] }] } } }
def computing : State := generated.modAxis 0 fun a => { a with state := .ready, mbxSnap := some [], hdr := { a.hdr with bound := true, binding := 0x80000000 } }
def started (s : State) : State := { s with lpe := { s.lpe with lats := updAt s.lpe.lats 0 fun x => { x with started := true } } }

set_option maxRecDepth 8000 in
theorem wit_CycleInstants :
    up.rst.phase = .running ∧ State.reset.rst.phase ≠ .running
    ∧ (15 < up.nLats ∧ (up.lpe.lats.getD 15 {}).started = false ∧ up.latAxes 15 = [])
    ∧ up.nLats = 16 ∧ fewUp.nLats = 8
    ∧ ((started up).lpe.lats.getD 0 {}).started = true
    ∧ up.nextSlot 0 0 5 0 = none ∧ (computing.nextSlot 0 0 5 0).isSome = true ∧ 19000 ≤ computing.dX ∧ computing.dX < 19001 := by
  (repeat' apply And.intro) <;> decide

def axisIn (f : Axis → Axis) : State := upAxis f
set_option maxRecDepth 8000 in
theorem wit_AxisSupervision :
    (let a := (upAxis fun a => { a with state := .enabled, hdr := { a.hdr with feLimit := 1, feTime := 5 }, cnt := { a.cnt with feTimer := 5 } }).axis 0;
      a.state = .enabled ∧ a.hdr.feLimit ≠ 0 ∧ a.cnt.feTimer ≠ 0 ∧ a.hdr.feTime ≤ a.cnt.feTimer.toNat)
    ∧ (up.axis 0).state = .disabled ∧ (up.axis 0).hdr.missLimit = 0 ∧ Hdr.missLimit { missLimit := 1 } ≠ 0
    ∧ (let a := (upAxis fun a => { a with state := .stopping, still := 16, stopCycles := 3, hdr := { a.hdr with stopTimeout := 3 } }).axis 0;
      a.state = .stopping ∧ 16 ≤ a.still ∧ a.hdr.stopTimeout ≠ 0 ∧ a.hdr.stopTimeout ≤ a.stopCycles)
    ∧ (let s := upNode fun x => { x with used := true, invalidRun := 3 };
      (s.node 0).used = true ∧ (s.node 0).lost = false ∧ (s.node 0).graceEnd = none ∧ (s.mport (s.node 0).port.toNat).linkLoss.toNat ≤ (s.node 0).invalidRun
      ∧ s.lineComputes (s.node 0).port.toNat = true)
    ∧ (up.node 0).used = false
    ∧ (let s := upAxis fun a => { a with cnt := { a.cnt with freezeLeft := some (4, some 7), histLast := 7 } };
      (s.axis 0).cnt.freezeLeft = some (4, some 7) ∧ 7 ≤ (s.axis 0).cnt.histLast.toNat ∧ 0 < s.axes.length)
    ∧ (up.axis 0).cnt.freezeLeft = none := by
  (repeat' apply And.intro) <;> decide

theorem wit_AxisRecordWrites : 255 < up.nAxes ∧ 128 = fewUp.nAxes ∧ (8 ≤ 24 ∧ 24 < 28) ∧ (4 ≤ 4 ∧ 4 < 8) ∧ (2 ≤ 5 ∧ 5 ≤ 5) ∧ (6 ≤ 7 ∧ 7 ≤ 7) ∧ ¬ (6 ≤ 5) := by
  (repeat' apply And.intro) <;> decide

def activating (g : GenImage) (c : Nat) : State := { up with
  cmds := [{ opcode := 0x0202, pkt := pk 0 [], cycle := c }], net := { up.net with pending := some g } }
theorem wit_PlanChanges :
    ((activating gen1 0).cmds.find? (fun y => y.opcode == 0x0202)).isSome = true ∧ (activating gen1 0).net.pending = some gen1
    ∧ (activating gen1 0).changesTime gen1 = false ∧ 0 ≤ (activating gen1 0).k ∧ (activating gen1 1).k < 1
    ∧ (activating gen1 0).changesTime { gen1 with tc := 62500 } = true
    ∧ (activating gen1 0).changeInstant 0 ≤ (activating gen1 0).now ∧ (activating gen1 1).now < (activating gen1 1).changeInstant 1
    ∧ up.net.pending = none
    ∧ (up.timeGap).1.natAbs ≤ 2 ^ 32
    ∧ 2 ^ 32 < (State.timeGap (let s := domState .locked .free; { s with tmb := { s.tmb with served := { s.tmb.served with sec := 1 } } })).1.natAbs := by
  (repeat' apply And.intro) <;> decide

def frame0 : FFrame := { port := 0, atNs := 0 }
def onLine : State := { up with net := { up.net with active := some gen1 } }

theorem wit_LineTraffic :
    up.net.active = none ∧ onLine.net.active = some gen1
    ∧ (0 < up.nPorts ∧ frame0.fcsOk = true ∧ frame0.cycle = BitVec.ofNat 32 (onLine.lineCycle 0) ∧ 9500 ≤ onLine.dU ∧ onLine.dU < 9501)
    ∧ (1#32 ≠ BitVec.ofNat 32 (onLine.lineCycle 0)) ∧ fewUp.nPorts = 24 ∧ (onLine.lineOf 0).isSome = true ∧ onLine.lineOf 1 = none
    ∧ 16 ≤ ((upPort fun x => { x with driftRun := 16 }).mport 0).driftRun ∧ (up.mport 0).driftRun < 16
    ∧ (State.mport { up with twn := { up.twn with state := .isolated } } 0).topo ≠ 2 ∧ up.rst.islands.getD 1 .inReset = .running
    ∧ State.reset.rst.islands.getD 1 .inReset ≠ .running := by
  (repeat' apply And.intro) <;> decide

def walk0 : Walk := { pkt := pk 0 [], gen := 1, topo := 0, ringPort := 0, expect := 0, sent := true }
def walking (w : Walk) : State := upPort fun x => { x with state := .walking, walk := some w }
def nodeRec0 : NodeRec := { identity := 5, gens := 7, fLen := 8, cLen := 8 }
def walkFault0 (expect : Nat) : Option (Half × Half) :=
  ((walking walk0).modNode 0 fun x => { x with used := true, identity := 5 }).walkFault { walk0 with expect := expect } true [5] [] [nodeRec0]

set_option maxRecDepth 8000 in
theorem wit_LineWalks :
    (up.mport 0).walk = none
    ∧ (((walking walk0).mport 0).walk = some walk0 ∧ walk0.assigning = false ∧ walk0.sent = true ∧ [nodeRec0] ≠ [])
    ∧ (walkFault0 2).isSome = true
    ∧ (walk0.attempts < 3 ∧ Walk.attempts { walk0 with attempts := 3 } = 3 ∧ Walk.sent { walk0 with sent := false } = false)
    ∧ (walk0.forPartner = false ∧ Walk.forPartner { walk0 with forPartner := true } = true)
    ∧ (up.twn.state = .single ∧ (paired .alone).twn.state ≠ .single)
    ∧ Walk.assigning { walk0 with assigning := true, awaiting := [5] } = true ∧ [5#64].filter (fun id => !([5#64].contains id)) = []
    ∧ (up.mport 0).probeP = none ∧ ((upPort fun x => { x with probeP := some 1 }).mport 0).probeP = some 1
    ∧ ((upPort fun x => { x with topo := 1 }).mport 0).turned = false
    ∧ (up.net.pendState ≠ 2 ∧ (dist 2).net.pendState = 2 ∧ (dist 2).net.joinGen = false ∧ (dist 2).net.distEnd ≤ (dist 2).now)
    ∧ (up.node 0).mailx = none
    ∧ (let s := upNode fun x => { x with mailx := some { pkt := pk 0 [], expectReply := true, endNs := 0 } };
      (s.node 0).mailx.isSome = true ∧ 0 ≤ s.now ∧ s.now < 1) := by
  (repeat' apply And.intro) <;> decide

theorem wit_LineWalks_free : walkFault0 0 = none := by decide +kernel

def joining (j : Join) : State := upPort fun x => { x with join := some j }
def join0 : Join := { cycle := 0, gen := none, found := [], base := 0, waiting := [], oldLast := none }

theorem wit_LineJoins :
    (up.mport 0).join = none ∧ ((joining join0).mport 0).join = some join0 ∧ (join0.waiting = [] ∧ join0.cycle ≤ (joining join0).k)
    ∧ ((joining join0).k < 1 ∧ Join.waiting { join0 with waiting := [5] } ≠ [] ∧ 2 ≤ (joining join0).k + 2)
    ∧ (join0.gen = none ∧ Join.gen { join0 with gen := some gen1 } ≠ none)
    ∧ ((up.node 0).graceEnd = none ∧ ((upNode fun x => { x with graceEnd := some 0 }).node 0).graceEnd = some 0 ∧ 0 ≤ up.k ∧ up.k < 1)
    ∧ ((up.mport 0).reclose = none ∧ ((upPort fun x => { x with reclose := some (0, 1, 2) }).mport 0).reclose = some (0, 1, 2)) := by
  (repeat' apply And.intro) <;> decide

theorem wit_EtypeWrites : (∀ p ∈ up.net.ports, p.state = .dark) ∧ (∃ p ∈ (walking walk0).net.ports, p.state ≠ .dark) :=
  ⟨by decide, (walking walk0).mport 0, List.mem_of_getElem? (i := 0) rfl, by decide⟩

def nested (f : Conf → Conf) : State := { up with net := { up.net with conf := f { up.net.conf with role := true, index := 3 } } }
def cframe0 : CFrame := { uplink := 0, stamp16 := 0, claim := 7, slots := [{ node := 3 }] }
def cfg0 : NodeCfg := { index := 3, genFirst := 0, divider := 1 }

theorem wit_UpstreamSide :
    (1 ≤ field (0xFFFD#32).toNat 0 16 ∧ field (0xFFFD#32).toNat 0 16 ≤ 0xFFFD) ∧ (field (0#32).toNat 0 16 = 0 ∧ 0xFFFD < field (0xFFFE#32).toNat 0 16)
    ∧ up.net.conf.role = false ∧ (nested id).net.conf.role = true ∧ (nested id).upCfg = none
    ∧ ((nested fun x => { x with cfgs := [cfg0] }).cfgFor 0 = some cfg0)
    ∧ ([cframe0].filter (fun g => g.claim.toNat == [cframe0].foldl (fun m g => max m g.claim.toNat) 0)) = [cframe0]
    ∧ ([cframe0, cframe0].filter (fun g => g.claim.toNat == [cframe0, cframe0].foldl (fun m g => max m g.claim.toNat) 0)).length = 2
    ∧ (nested fun x => { x with safeRun := 3 }).net.conf.safeRun = 3 ∧ (nested fun x => { x with safeRun := 2 }).net.conf.safeRun < 3
    ∧ (∃ y ∈ [FSlot.mk 3 false false false false false false 0 []], y.node = (nested id).net.conf.index.toNat)
    ∧ 31 < 32 ∧ (3 = (nested fun x => { x with pos := 3 }).net.conf.pos) := by
  (repeat' apply And.intro) <;> decide

theorem wit_CycleNumbersExtendToTheNearest :
    4294967295 % 2 ^ 32 = (0xFFFFFFFF#32).toNat ∧ (movePk [(0, 0x10000)]).fld 0 16 1 = 1 := by
  (repeat' apply And.intro) <;> decide

def onUplink (quiet : Bool) : State := { domState .locked .free with tmb := { (domState .locked .free).tmb with
  select := 2, revert := true, selected := .s
  domP := { (domState .locked .free).tmb.domP with cfg := { source := 1 }, lockedAt := some 0 }
  uplinks := [{ quiet := quiet }, {}] } }

theorem wit_TimeDomains :
    up.tmb.domP.state = .free ∧ (domState .locked .free).tmb.domP.state ≠ .free
    ∧ ((domState .locked .acquiring).domain .s).state = .acquiring ∧ ((domState .locked .lost).domain .s).state = .lost
    ∧ (Dom.p ≠ (onUplink false).tmb.selected ∧ up.tmb.selected = .p ∧ up.tmb.holdover = false)
    ∧ ((onUplink false).tmb.domP.state = .locked ∧ (onUplink false).tmb.domP.lockedAt = some 0 ∧ (onUplink false).tmb.select = 2
      ∧ (onUplink false).tmb.revert = true ∧ (onUplink false).tmb.selected = .s ∧ (onUplink false).now < 10000000000)
    ∧ (State.now { onUplink false with tmb := { (onUplink false).tmb with served := { sec := 10 } } } = 10000000000)
    ∧ up.domUplink .p = none ∧ ((onUplink false).domUplink .p = some 0 ∧ ((onUplink false).tmb.uplinks.getD 0 {}).quiet = false)
    ∧ ((onUplink true).tmb.uplinks.getD 0 {}).quiet = true ∧ PtpKind.sync ≠ .delayReq := by
  (repeat' apply And.intro) <;> decide

def snap0 (f : Snap → Snap) : State := { up with tmb := { up.tmb with snaps := updAt up.tmb.snaps 0 fun x => f { x with state := 1 } } }

theorem wit_Snapshots :
    (((snap0 id).snap 0).state = 1 ∧ ((snap0 id).snap 0).latched = false ∧ ((snap0 id).snap 0).time ≤ (snap0 id).now
      ∧ ((snap0 id).snap 0).upLate = none ∧ ((snap0 fun x => { x with upLate := some true }).snap 0).upLate = some true)
    ∧ ((up.snap 0).state ≠ 1 ∧ (snap0 id).now < ((snap0 fun x => { x with time := 1 }).snap 0).time)
    ∧ (1 ∈ ((snap0 fun x => { x with waiting := [1] }).snap 0).waiting ∧ 1 ∉ ((snap0 id).snap 0).waiting)
    ∧ (let s : State := { snap0 id with tmb := { (snap0 id).tmb with served := { ns := 100000000 } } };
      (s.snap 0).time + 100000000 ≤ s.now ∧ (s.snap 0).pkt = none)
    ∧ ((snap0 fun x => { x with pkt := some (pk 0 []) }).snap 0).pkt = some (pk 0 [])
    ∧ ((nested id).net.conf.role = true ∧ ((nested id).snap 3).state ≠ 1 ∧ (nested id).now ≤ 0 ∧ up.net.conf.role = false)
    ∧ State.now { nested id with tmb := { (nested id).tmb with served := { ns := 1 } } } = 1 := by
  (repeat' apply And.intro) <;> decide

theorem wit_TaskTraffic :
    (up.twn.noDispatch = false ∧ up.sch.stopped = false) ∧ Sch.stopped { up.sch with stopped := true } = true
    ∧ (let s := upCore fun x => { x with waking := true };
      (s.core 0).waking = true ∧ 0 < s.eddy.cores.length ∧ (s.core 0).haltReq = false)
    ∧ ((upCore fun x => { x with waking := true, haltReq := true }).core 0).haltReq = true
    ∧ (up.core 0).waking = false := by
  (repeat' apply And.intro) <;> decide

theorem wit_GovernorPeriods :
    ((List.replicate 15 (-32768) ++ [(32767 : Int)]).length = 16 ∧ (∀ x ∈ List.replicate 15 (-32768) ++ [(32767 : Int)], -32768 ≤ x ∧ x ≤ 32767)
      ∧ up.pwr.temps.length = 16)
    ∧ (up.pwr.pmbCfg.getLsbD 31 = true ∧ up.pwr.fixed = false ∧ up.pwr.failRun < 3) ∧ Pwr.pmbCfg { up.pwr with pmbCfg := 0 } = 0
    ∧ (3 ≤ Pwr.failRun { up.pwr with failRun := 3 } ∧ Pwr.fixed { up.pwr with fixed := true } = true)
    ∧ (let v : Word := 0x0044780A;
      10 ≤ field v.toNat 0 9 ∧ field v.toNat 0 9 + 50 ≤ field v.toNat 9 9 ∧ field v.toNat 18 4 = 1 ∧ field v.toNat 22 4 = 1 ∧ field v.toNat 0 9 = 10
        ∧ field v.toNat 9 9 = 60)
    ∧ field (0x00447809#32).toNat 0 9 = 9 := by
  (repeat' apply And.intro) <;> decide

/-- Core 0 executes a task of flow 0. -/
def running0 (f : Core → Core) : State := upCore fun x => f { x with state := .run, flow := some 0 }
def runs0 (f : ERegs → ERegs) : State := running0 fun x => { x with regs := f x.regs }
def mvx (w : Bool) : PMove := { write := w, ptr := 0, mode := 0, reg := 0 }

theorem wit_EddyInstructionsNeedARunningTask :
    ((EIns.nop {}).command 0 = some (.eNop 0 {})) ∧ (EIns.legal (.waitcy 6) = false ∧ (EIns.waitcy 6).command 0 = some (.eWaitcy 0 6))
    ∧ (¬ up.Runs 0) ∧ (¬ (running0 id).Runs 32) ∧ (running0 id).Runs 0 := by
  unfold State.Runs; (repeat' apply And.intro) <;> decide

theorem wit_EddyArithmetic :
    (running0 id).Runs 0 ∧ (EIns.mpy 0 3 3 { x := some (mvx false) }).legal = true ∧ (EIns.cpy 3 12 {}).legal = false
    ∧ (EIns.dmac true 7 true true {}).legal = true ∧ (EIns.maxi 3 7 true true { xptr := 3 }).legal = true ∧ (EIns.shl 0 15 {}).legal = true
    ∧ (3 < (up.core 0).regs.a.length ∧ (up.core 0).regs.mr.getLsbD 2 = false ∧ ERegs.mr { (up.core 0).regs with mr := 4 } = 4)
    ∧ ((2 : Int) ^ 47 ≤ 2 ^ 47 ∧ -(2 : Int) ^ 47 - 1 < -(2 ^ 47)) := by
  unfold State.Runs; (repeat' apply And.intro) <;> decide

def fourDescs : List Desc := List.replicate 4 { localAddr := 0, memY := false, shared := 0, count := 1, toShared := false, fmt := 0, upper := false }
def through (a : Half) : State := running0 fun x => { x with regs := { x.regs with p := List.replicate 8 a }, wins := List.replicate 4 { base := 0x10000 } }
def badPtr : State := runs0 fun r => { r with l := List.replicate 8 1, m := List.replicate 8 0, mr := 0x00FF00 }
def accs (s : State) (w : Bool) : List State.Acc1 := [State.pmoveAcc (s.core 0).regs false (mvx w)]
def accY (s : State) (w : Bool) : List State.Acc1 := [State.pmoveAcc (s.core 0).regs true (mvx w)]

theorem wit_EddyParallelMoves :
    (through 0x8000).accFault 0 (accs (through 0x8000) false) = some 4
    ∧ ((through 0x3FFF).accFault 0 (accs (through 0x3FFF) false) = none ∧ (through 0x3FFF).readWaits 0 false 0x3FFF = false
      ∧ ((through 0x3FFF).core 0).regs.ptrBad 0 = false ∧ (((through 0x3FFF).core 0).regs.p.getD 0 0).toNat < 0x4000)
    ∧ ((through 0x4000).accFault 0 (accs (through 0x4000) false) = none ∧ (through 0x4000).readWaits 0 false 0x4000 = true
      ∧ (through 0x4000).winFault 0 0x4000 = none ∧ (through 0x4000).winLatched 0 0x4000 = none)
    ∧ (let s := (through 0x7F23).modCore 0 fun x => { x with descs := fourDescs };
      s.accFault 0 (accY s true) = none ∧ s.goWaits 0 (accY s true) = true)
    ∧ ((through 0x7F23).goWaits 0 (accY (through 0x7F23) true) = false
      ∧ (through 0x7F23).goDenied 0 (State.pmoveAcc ((through 0x7F23).core 0).regs true (mvx true)) 0 = some 6)
    ∧ (badPtr.core 0).regs.ptrBad 0 = true := by
  (repeat' apply And.intro) <;> decide

theorem wit_EddySingleMoves :
    (running0 id).Runs 0 ∧ (60#6).toNat ≤ 60 ∧ PtrRef.mode { spaceY := false, ptr := 7, mode := 0, idx := true } = 0
    ∧ (badPtr.Runs 0 ∧ (badPtr.core 0).regs.ptrBad 7 = true)
    ∧ ((through 0x4000).Runs 0 ∧ (through 0x4000).winFault 0 0x7FFF = none ∧ (through 0x4000).winLatched 0 0x7FFF = none)
    ∧ ((0x3FFF#16).toNat < 0x4000 ∧ 0x4000 ≤ (0x4000#16).toNat ∧ (0x7EFF#16).toNat < 0x7F00 ∧ 0x7F00 ≤ (0x7F00#16).toNat ∧ 0x8000 ≤ (0x8000#16).toNat)
    ∧ (fourDescs.length = 4 ∧ State.descFault (State.descOf ((running0 id).core 0) 0) = some 6)
    ∧ State.descFault (State.descOf ((running0 fun x => { x with dmaShared := 0x400000, dmaCount := 1 }).core 0) 0) = none
    ∧ (57 ≤ (57#6).toNat ∧ (56#6).toNat < 57) := by
  unfold State.Runs; (repeat' apply And.intro) <;> decide

theorem wit_EddyImmediates :
    (running0 id).Runs 0 ∧ ((7#6).toNat < 8 ∧ 57 ≤ (57#6).toNat ∧ (60#6).toNat ≤ 60)
    ∧ ((badPtr.core 0).regs.ptrBad 0 = true ∧ ((running0 id).core 0).regs.ptrBad 0 = false)
    ∧ (let r := ((runs0 fun r => { r with a := List.replicate 4 (0x20000000 : Acc) }).core 0).regs;
      accInt (r.acc 3) ≠ 0 ∧ accInt (r.acc 3) * 2 ^ 17 < 2 ^ 47 ∧ 2 ^ 47 ≤ accInt (r.acc 3) * 2 ^ 18 ∧ 3 < r.a.length ∧ 7 < r.d.length) := by
  unfold State.Runs; (repeat' apply And.intro) <;> decide

def inLoop : State := runs0 fun r => { r with pc := 9, stack := List.replicate 4 (1, 9, 5) }
def sem0 (o : Option Nat) : State := { running0 id with eddy := { (running0 id).eddy with sems := updAt up.eddy.sems 63 fun _ => o } }

theorem wit_EddyControlAndWaits :
    ((running0 id).Runs 0 ∧ ((running0 id).core 0).regs.stack = [] ∧ ((running0 id).core 0).regs.pc.toNat < (1#14).toNat)
    ∧ (inLoop.Runs 0 ∧ (1, 9, 5) ∈ (inLoop.core 0).regs.stack ∧ (inLoop.core 0).regs.stack.length = 4)
    ∧ (0#14).toNat ≤ ((running0 id).core 0).regs.pc.toNat ∧ (0#10).toNat = 0 ∧ (1#10).toNat ≠ 0
    ∧ ((14#4) ≠ 15 ∧ (5#3).toNat < 6)
    ∧ (((running0 id).flow 0).exist = false
      ∧ (let s := (running0 id).modFlow 0 fun f => { f with exist := true, depth := 1 }; s.Runs 0 ∧ (s.flow 0).exist = true ∧ s.flowRoom 0 = true)
      ∧ (let s := (running0 id).modFlow 0 fun f => { f with exist := true }; s.Runs 0 ∧ (s.flow 0).exist = true ∧ s.flowRoom 0 = false))
    ∧ ((sem0 none).Runs 0 ∧ (sem0 none).eddy.sems.getD 63 none = none ∧ (sem0 (some 0)).eddy.sems.getD 63 none = some 0
      ∧ (sem0 (some 31)).eddy.sems.getD 63 none = some 31) := by
  unfold State.Runs; (repeat' apply And.intro) <;> decide

theorem wit_EddyBlockSearch :
    ((through 0x4000).Runs 0 ∧ (through 0x4000).readWaits 0 false 0x4000 = true ∧ (through 0x4000).accessFault 0 false 0x4000 = none)
    ∧ ((running0 id).Runs 0 ∧ (running0 id).readWaits 0 false 0 = false ∧ (State.scan 0 false 3 false 7 false 2 0 (running0 id)).2 = none)
    ∧ (State.scan 0 false 3 true 7 false 1 0 (through 0x4000)).2 = some 4
    ∧ (let r := ((through 0x3FFF).core 0).regs;
      0 < (through 0x3FFF).eddy.cores.length ∧ r.mr.getLsbD (8 + 7) = false ∧ r.l.getD 7 0 = 0 ∧ 3 < r.a.length ∧ 7 < r.p.length
        ∧ (r.p.getD 7 0).toNat + (1#14).toNat ≤ 0x4000) := by
  unfold State.Runs; (repeat' apply And.intro) <;> decide

def waitFor (n : Nat) (f : Core → Core) : State := upCore fun x => f { x with state := .wait, waitKind := n, flow := some 0 }
def freed : State := { up with eddy := { up.eddy with semWait := [(5, 0, 0)], sems := updAt up.eddy.sems 5 fun _ => some 0 } }

set_option maxRecDepth 4000 in
theorem wit_EddyCoreEvents :
    (((waitFor 1 id).core 0).state = .wait ∧ ((waitFor 1 id).core 0).waitKind = 1 ∧ (up.core 0).state ≠ .wait)
    ∧ (let s := waitFor 2 fun x => { x with posted := some true };
      (s.retryHeld.core 0).posted = some true ∧ (s.retryHeld.core 0).state = .wait ∧ (s.retryHeld.core 0).waitKind = 2)
    ∧ ((up.retryHeld.core 0).posted = none ∧ (up.retryHeld.core 0).state ≠ .wait)
    ∧ (freed.eddy.sems.getD 5 none = some 0 ∧ freed.eddy.semWait.find? (fun q => q.1 == 5) = some (5, 0, 0)
      ∧ State.eddy { freed with eddy := { freed.eddy with sems := updAt up.eddy.sems 5 fun _ => some 1 } } ≠ freed.eddy)
    ∧ up.eddy.semWait.find? (fun q => q.1 == 5) = none
    ∧ (((waitFor 4 fun x => { x with stall := some (.lda false 0 0x4000) }).core 0).stall = some (.lda false 0 0x4000) ∧ (up.core 0).stall = none)
    ∧ ((up.core 0).descs = [] ∧ ((waitFor 5 fun x => { x with stall := some (.sta true 0 0x7F23) }).core 0).waitKind = 5)
    ∧ ((up.core 0).ending = false ∧ ((running0 fun x => { x with ending := true }).core 0).ending = true
      ∧ ((running0 fun x => { x with ending := true, uncorr := true }).core 0).uncorr = true)
    ∧ ((waitFor 1 id).rtLimit 0 ≤ (waitFor 1 id).taskTime 0 ∧ (running0 id).rtLimit 0 ≤ (running0 id).taskTime 0
      ∧ ((running0 id).core 0).flow ≠ none ∧ (up.core 0).flow = none)
    ∧ decodeIns 0 ≠ .vext false 0 false 0 false 0 ∧ (fewUp.nCores = 16 ∧ 31 < up.nCores)
    ∧ ((1#32).getLsbD 0 = true ∧ (0#32).getLsbD 0 = false ∧ (3#32).getLsbD 1 = true)
    ∧ ((upCore fun x => { x with state := .halted, haltedFrom := .run }).core 0).haltedFrom = .run
    ∧ ((upCore fun x => { x with state := .halted, parkPending := true }).core 0).haltedFrom ≠ .run := by
  (repeat' apply And.intro) <;> decide

/-- Local port 0 with settings words and other fields changed. -/
def port0 (l : List (Nat × Word)) (f : LPort → LPort) : State := up.modLPort 0 fun x => f { x with cfg := ws 27 l }

set_option maxRecDepth 4000 in
theorem wit_LocalFeedback :
    fewUp.nLocal = 8 ∧ 15 < up.nLocal
    ∧ ((State.quadPhase false false + 4 - State.quadPhase false false) % 4 = 0 ∧ (State.quadPhase true true + 4 - State.quadPhase false false) % 4 = 2
      ∧ (State.quadPhase true false + 4 - State.quadPhase false false) % 4 = 1 ∧ (State.quadPhase false true + 4 - State.quadPhase false false) % 4 = 3)
    ∧ up.axisOf 0 = none ∧ bound0.axisOf 0 = some 0
    ∧ ((up.lport 0).fbk.referenced = false ∧ ((port0 [] fun x => { x with fbk := { x.fbk with referenced := true } }).lport 0).fbk.referenced = true)
    ∧ State.indexDelta 0 0 4 = 0 ∧ State.indexDelta 1 0 4 ≠ 0
    ∧ (((port0 [(1, 0x1000)] id).lport 0).fld 1 12 2 = 1 ∧ ((port0 [(1, 0x2000)] id).lport 0).fld 1 12 2 = 2 ∧ ((port0 [(1, 0x3000)] id).lport 0).fld 1 12 2 = 3)
    ∧ (((port0 [(0, 5)] id).lport 0).serial = true ∧ ((port0 [(0, 5)] id).lport 0).func ≠ 0 ∧ (up.lport 0).serial = false)
    ∧ ((up.lport 0).fbk.serBusy = false ∧ ((port0 [(4, 1)] fun x => { x with fbk := { x.fbk with serBusy := true } }).lport 0).fbk.serBusy = true
      ∧ ((port0 [(4, 1)] id).lport 0).fld 4 0 1 = 1)
    ∧ ((port0 [(4, 4)] fun x => { x with fbk := { x.fbk with serQ := some 1, serLast := some 1 } }).lport 0).fbk.serQ = some 1
    ∧ (((port0 [(4, 4)] id).lport 0).fld 4 2 1 = 1 ∧ (up.lport 0).fbk.serQ = none)
    ∧ (((port0 [(0, 2)] id).lport 0).func = 2 ∧ ((port0 [(0, 2)] id).lport 0).step.stopped = false ∧ (up.lport 0).func ≠ 2) := by
  (repeat' apply And.intro) <;> decide

theorem wit_LocalFaultsAndPwm :
    (((port0 [(0, 1), (10, 0x10000)] id).lport 0).func ≠ 0 ∧ ((port0 [(0, 1), (10, 0x10000)] id).lport 0).fld 10 16 16 ≠ 0)
    ∧ ((up.lport 0).func = 0 ∧ (up.lport 0).fld 10 16 16 = 0)
    ∧ (let p := (port0 [(4, 0x0300)] fun x => { x with fbLossRun := 3 }).lport 0; p.fld 4 8 8 ≠ 0 ∧ p.fld 4 8 8 ≤ p.fbLossRun)
    ∧ ((up.lport 0).pwm.latched = false ∧ ((pwm0 fun x => { x with latched := true }).lport 0).pwm.latched = true)
    ∧ ((1#32).getLsbD 0 = true ∧ (2#32).getLsbD 0 = false ∧ up.faultPresent 0 = false ∧ (pwm0 fun x => { x with present := 1 }).faultPresent 0 = true)
    ∧ (let q := (port0 [(11, 0x0F00)] fun x => { x with pwm := { x.pwm with pairPending := true, written := 7 } }).lport 0;
      q.pwm.pairPending = true ∧ q.pwm.commit = false ∧ q.pwm.written &&& BitVec.ofNat 4 (q.fld 11 8 4) ≠ BitVec.ofNat 4 (q.fld 11 8 4))
    ∧ ((up.lport 0).sync = false ∧ ((port0 [(11, 4)] id).lport 0).sync = true)
    ∧ ((up.lport 0).loopPairs.contains 3 = false ∧ ((port0 [(0, 1), (11, 4)] id).lport 0).loopPairs.contains 0 = true)
    ∧ (((port0 [(11, 8)] id).lport 0).fld 11 3 1 = 1 ∧ (up.lport 0).fld 11 3 1 = 0 ∧ (up.lport 0).pwm.pairPending = false) := by
  (repeat' apply And.intro) <;> decide

def marked (f : MarkIn → MarkIn) : State := { up with acq := { up.acq with marks := updAt up.acq.marks 15 f } }
def homing0 (f : Prof → Prof) : State := upAxis fun a => { a with state := .enabled, prof := f { a.prof with state := .homing } }
def recording (l : List (Nat × Word)) : State := { up with acq := { up.acq with state := .recording, tA := some 0, signals := l, settings := some (settings []) } }

set_option maxRecDepth 4000 in
theorem wit_QualifiedInputs :
    ((marked fun x => { x with prev := some 0 }).acq.marks.getD 15 {}).prev = some 0 ∧ 49 * 65536 + 65535 < 0 + 50 * 65536
    ∧ (up.acq.marks.getD 15 {}).prev = none
    ∧ (up.acq.wantsEdge 0 true = false ∧ (recording [(0, 0x40000110)]).acq.wantsEdge 0 true = true ∧ (recording [(0, 0x40000110)]).captures 0 = true)
    ∧ (255 < up.nAxes ∧ fewUp.nAxes = 128)
    ∧ ((up.axis 0).prof.limP.level = false ∧ (up.axis 0).prof.state ≠ .homing ∧ (up.axis 0).prof.limP.ignore = false)
    ∧ (((homing0 id).axis 0).prof.state = .homing ∧ ((homing0 id).axis 0).prof.homing.method ≠ 1)
    ∧ (let h := ((homing0 fun p => { p with homing := { p.homing with method := 1, phase := 2, useIndex := true } }).axis 0).prof.homing;
      h.method = 1 ∧ h.found = false ∧ h.phase = 2 ∧ h.useIndex = true)
    ∧ (let h := ((homing0 fun p => { p with homing := { p.homing with method := 3, tqTime := 4, tqRun := 4 } }).axis 0).prof.homing;
      h.method = 3 ∧ h.found = false ∧ h.tqTime ≠ 0 ∧ h.tqTime ≤ h.tqRun)
    ∧ (15 < up.nLocal ∧ fewUp.nLocal = 8)
    ∧ ((up.acq.sigs (· == 3)).find? (fun x => field x.2.toNat 16 4 == 0 && field x.2.toNat 0 2 == 2) = none ∧ up.acq.armed = false)
    ∧ (((recording [(0, 0x30000002)]).acq.sigs (· == 3)).find? (fun x => field x.2.toNat 16 4 == 0 && field x.2.toNat 0 2 == 2) = some (0, 0x30000002)
      ∧ (recording [(0, 0x30000002)]).acq.armed = true)
    ∧ up.captures 0 = false := by
  (repeat' apply And.intro) <;> decide


/-- The recorder in a state, with settings (two samples to a record, a slot, more) and signals. -/
def recIn (q : QState) (l : List (Nat × Word)) (f : Acq → Acq) : State := { up with
  tmb := { up.tmb with served := { ns := 1000 } }
  acq := f { up.acq with state := q, tA := some 0, settings := some (settings l) } }
def recNow : QRec := { num := 5, slot := 0, tNs := 0, tFrac := 0, cond := 0, p := 16 }
def frameAt (t : Nat) : QFrame := { cycle := 0, inst := t, vals := [] }
def ended (l : List (Nat × Word)) (f : Acq → Acq) : State :=
  recIn .recording l fun a => f { a with cur := some recNow, frames := [frameAt 0, frameAt 16] }
def copying (l : List (Nat × Word)) : State := recIn .done ([(7, 0x82)] ++ l) fun a => { a with slots := [recNow] }

set_option maxRecDepth 8000 in
theorem wit_RecorderEvents :
    ((recIn .filling [] id).acq.state = .filling ∧ (recIn .filling [] id).acq.tA ≠ none ∧ (recIn .filling [] id).acq.readyAt ≤ (recIn .filling [] id).now)
    ∧ (up.acq.state ≠ .filling ∧ (recIn .filling [] fun a => { a with readyAt := 1001 }).now < 1001)
    ∧ (let s := recIn .ready [] fun a => { a with conds := updAt a.conds 3 fun x => { x with trueTill := some 1000 } };
      (s.acq.conds.getD 3 {}).trueTill = some 1000 ∧ 1000 ≤ s.now)
    ∧ (up.acq.conds.getD 3 {}).trueTill = none ∧ up.acq.cur = none
    ∧ (let s := ended [] id; s.acq.cur = some recNow ∧ s.acq.state = .recording ∧ recNow.endFine ≤ s.nowFine
      ∧ (s.acq.frames.filter fun f => recNow.holds (f.inst * 65536)).length = recNow.len ∧ (s.closeRecord recNow).acq.loop = false)
    ∧ (let u := (ended [] fun a => { a with loop := true, nRec := 1 }).closeRecord recNow;
      u.acq.loop = true ∧ u.acq.nRec ≠ 0 ∧ u.acq.nRec ≤ u.acq.taken)
    ∧ (let u := (ended [] fun a => { a with loop := true, nRec := 2 }).closeRecord recNow;
      u.acq.loop = true ∧ u.acq.taken < u.acq.nRec ∧ u.slotFree = false)
    ∧ (let u := (ended [(6, 2)] fun a => { a with loop := true }).closeRecord recNow; u.acq.loop = true ∧ u.acq.nRec = 0 ∧ u.slotFree = true)
    ∧ ((recIn .recording [] fun a => { a with cur := some recNow }).acq.frames.length ≠ recNow.len)
    ∧ (up.acq.ringOf = none ∧ (copying []).acq.ringOf = some 2 ∧ State.nextCopy (copying []).acq = some recNow ∧ State.nextCopy up.acq = none) := by
  (repeat' apply And.intro) <;> decide

/-- The same with ring 2 an acquisition ring. -/
def ringCopy (l : List (Nat × Word)) (f : Acq → Acq) : State :=
  let s := (copying l).modRing 2 fun r => { r with type := 3 }
  { s with acq := f s.acq }

theorem wit_RecorderEvents_ring :
    ((copying []).ring 2).room 3 = false ∧ ((ringCopy [] id).ring 2).room 3 = true
    ∧ ((ringCopy [] id).acq.set 10 < min 65536 (recNow.bytes - (ringCopy [] id).acq.copyOff))
    ∧ (min 65536 (recNow.bytes - (ringCopy [(10, 65536)] id).acq.copyOff) ≤ (ringCopy [(10, 65536)] id).acq.set 10
      ∧ (ringCopy [(10, 65536)] id).acq.blocks = [])
    ∧ (let s := (ringCopy [(10, 65536)] fun a => { a with blocks := [(0, 64)] }).modRing 2 fun r => { r with tail := 1 };
      s.acq.blocks.drop (s.acq.blocks.length - (s.ring 2).fill) = [(0, 64)] ∧ State.rangesMeet (0, 64) (0, 64) = true) := by
  (repeat' apply And.intro) <;> decide

/-- What a command's effect answers. -/
def verdict : Verdict → Nat
  | .fail _ _ => 0
  | .refuse _ _ _ => 1
  | .accept _ => 2
  | .later _ => 3
  | .done _ _ => 4

def twinIn (t : TState) (f : Twin → Twin) : State := { paired t with twn := f (paired t).twn }
def rec13 (state claim : Nat) : CycleRec := { cycle := 5, health := BitVec.ofNat 32 (state * 2 ^ 27), claim := BitVec.ofNat 16 claim }
def fwdd (f : TFwd → TFwd) : TFwd := f { seq := 4, cmd := nopCmd, target := 0, mine := false, acked := some true }

set_option maxRecDepth 8000 in
theorem wit_TwinRecords :
    (up.twn.state.paired = false ∧ up.oxbowUp = false ∧ (twinIn .active id).twn.state.paired = true ∧ (twinIn .active id).oxbowUp = true
      ∧ (twinIn .active fun t => { t with lane0 := false }).oxbowUp = false)
    ∧ ((twinIn .standby id).twn.state = .standby ∧ (rec13 2 0x101).claim = (twinIn .standby fun t => { t with ownClaim := 0x101 }).twn.ownClaim)
    ∧ (((twinIn .active id).compareCrc (rec13 5 0)).twn.state = .active ∧ field (rec13 5 0).health.toNat 27 3 = 5 ∧ field (rec13 3 0).health.toNat 27 3 = 3)
    ∧ (((twinIn .alone id).compareCrc (rec13 1 0)).twn.state = .alone ∧ (twinIn .alone id).twn.phase = 0 ∧ field (rec13 1 0).health.toNat 27 3 = 1
      ∧ (twinIn .alone fun t => { t with phase := 3 }).twn.phase ≠ 0)
    ∧ (let s := twinIn .standby fun t => { t with takeover := 2, missing := 1, claims := [] };
      s.twn.takeover ≤ s.twn.missing + 1 ∧ (twinIn .standby fun t => { t with appliedOwn := true }).twn.appliedOwn = true ∧ (twinIn .standby id).twn.missing + 1 < s.twn.takeover ∧ up.twn.appliedOwn = false)
    ∧ ((twinIn .active id).twn.missing < 64 ∧ 64 ≤ (twinIn .active fun t => { t with missing := 64 }).twn.missing
      ∧ (twinIn .outOfStep id).twn.state.paired = true ∧ (twinIn .joining id).twn.state ≠ .standby)
    ∧ (twinForwarded 0x0103 = true ∧ twinForwarded 0x0001 = false ∧ (opOf 0x0103).isSome = true ∧ opOf 0x01FF = none
      ∧ (pk 0x1000 []).kind = 1 ∧ (pk 0x1000 []).unit < (twinIn .standby id).unitCount 1)
    ∧ ((twinIn .standby id).twn.fwds.find? fun e => e.seq == 4) = none
    ∧ (((twinIn .standby fun t => { t with fwds := [fwdd id] }).twn.fwds.find? fun e => e.seq == 4) = some (fwdd id) ∧ (fwdd id).target ≤ (twinIn .standby id).k
      ∧ (twinIn .standby id).k < (fwdd fun x => { x with target := 1 }).target ∧ (fwdd id).held = false ∧ (fwdd fun x => { x with held := true }).held = true
      ∧ (opOf (fwdd id).cmd.opcode).isSome = true ∧ opOf 0 = none)
    ∧ (up.rst.islands.getD 2 .inReset = .running ∧ State.reset.rst.islands.getD 2 .inReset ≠ .running) := by
  (repeat' apply And.intro) <;> decide

set_option maxRecDepth 8000 in
/-- What the standby's copy of a forwarded command answers, in each of the ways a command can. -/
theorem wit_TwinRecords_forwarded :
    let ctx : Ctx := { late := false, due := some 9 };
    let s := twinIn .standby id;
    verdict (opAxisEnable.body ctx (pk 0x1000 []) s) = 0
    ∧ verdict (opAxisDisable.body ctx (pk 0x1000 []) s) = 4 ∧ verdict (opMove.body ctx (movePk []) enabled0) = 3 := by
  (repeat' apply And.intro) <;> decide

set_option maxRecDepth 8000 in
theorem wit_TwinJoinsAndHealth :
    ((twinIn .joining fun t => { t with phase := 1 }).twn.phase = 1 ∧ (twinIn .joining fun t => { t with phase := 2 }).twn.phase = 2 ∧ up.twn.phase ≠ 1)
    ∧ (63 < 64 ∧ (twinIn .alone fun t => { t with phase := 3 }).twn.phase = 3)
    ∧ (up.twn.entry = none ∧ (let s := twinIn .joining fun t => { t with phase := 4, entry := some 0 };
      s.twn.entry = some 0 ∧ s.twn.phase = 4 ∧ 0 ≤ s.k ∧ s.k < 1 ∧ s.twn.state = .joining))
    ∧ (let s := twinIn .alone fun t => { t with phase := 4, entry := some 0 };
      s.twn.state = .alone ∧ (∀ x ∈ s.eddy.cores, x.flow = none))
    ∧ (let s := (twinIn .alone fun t => { t with phase := 4, entry := some 0 }).modCore 0 fun x => { x with flow := some 1 };
      ∃ x ∈ s.eddy.cores, x.flow ≠ none)
    ∧ (let s := twinIn .joining id; let t := s.eventDiverged 2 s.k s.twn.ownCrc 0;
      t.twn.autoResync = true ∧ ((twinIn .joining fun t => { t with autoResync := false }).eventDiverged 2 s.k s.twn.ownCrc 0).twn.autoResync = false)
    ∧ ((twinIn .alone fun t => { t with phase := 3 }).twn.phase ≠ 0 ∧ (twinIn .outOfStep id).twn.state ≠ .joining)
    ∧ ((twinIn .active fun t => { t with yieldAt := some 0 }).twn.yieldAt = some 0 ∧ (twinIn .active id).k < 1 ∧ (twinIn .active id).twn.yieldAt = none)
    ∧ (31 < up.nCores ∧ (up.core 31).state = .idle ∧ (fewUp.nCores ≤ 31)) := by
  (repeat' apply And.intro) <;> decide

def rstIn (f : Rst → Rst) : State := { up with rst := f up.rst }

set_option maxRecDepth 8000 in
theorem wit_ResetSources :
    (up.rst.twinEn = false ∧ (rstIn fun r => { r with twinEn := true }).rst.twinEn = true ∧ up.rst.upstreamEn = true ∧ noUp.rst.upstreamEn = false)
    ∧ (State.blockOf 0 = none ∧ State.blockOf 0x30 = none ∧ State.blockOf 0x2F = some (.core 31) ∧ State.blockOf 0x8F = some (.lport 15) ∧ State.blockOf 1 = some .acq)
    ∧ (up.rst.episode = none ∧ State.reset.rst.episode ≠ none)
    ∧ (up.fusedOff (.core 31) = false ∧ fewUp.fusedOff (.core 31) = true ∧ up.blockFree (.lport 15) = true ∧ bound0.blockFree .oxbow = true
      ∧ ((paired .active).blockFree .oxbow = false))
    ∧ ((rstIn fun r => { r with pendingReset := some (.cold, 7) }).rst.pendingReset = some (.cold, 7) ∧ up.rst.pendingReset = none)
    ∧ (State.reset.rst.phase ≠ .running ∧ up.rst.phase = .running)
    ∧ (let s : State := { up with host := { up.host with cause := 8 } }; s.host.cause.getLsbD 3 = true ∧ up.host.cause.getLsbD 3 = false)
    ∧ (up.host.mask.getLsbD 3 = true ∧ ({ up with host := { up.host with mask := 0 } } : State).host.mask.getLsbD 3 = false) := by
  (repeat' apply And.intro) <;> decide

/-- Islands 1 and 5, which come first, are out of reset. -/
def releasing (l : List Nat) : State := rstIn fun r => { r with phase := .islands, islands := mapI (fun i x => if l.contains (i + 1) then x else .inReset) r.islands }
def imaging (a b : ImgSlot) : State := { rstIn fun r => { r with phase := .image } with boot := { up.boot with slots := [a, b] } }

set_option maxRecDepth 8000 in
theorem wit_ReleaseSequence :
    (up.rst.phase ≠ .asserted ∧ State.reset.rst.phase = .asserted ∧ State.reset.rst.asserted = 0 ∧ State.reset.rst.episode = some (.cold, 0)
      ∧ (rstIn fun r => { r with phase := .asserted, episode := some (.warm, 8) }).rst.episode = some (.warm, 8)
      ∧ (rstIn fun r => { r with asserted := 1 }).rst.asserted ≠ 0)
    ∧ (let first (s : State) := State.islandOrder.find? fun j => !State.Island.past (s.rst.islands.getD (j - 1) .inReset);
      first (releasing []) = State.islandOrder.head? ∧ first (releasing State.islandOrder.dropLast) = State.islandOrder.getLast? ∧ first up = none)
    ∧ (State.Island.past ((rstIn fun r => { r with islands := updAt r.islands 8 fun _ => .clockWait }).rst.islands.getD 8 .inReset) = false)
    ∧ ((rstIn fun r => { r with islands := updAt r.islands 8 fun _ => .absent }).rst.islands.getD (9 - 1) .inReset = .absent
      ∧ up.rst.islands.getD (9 - 1) .inReset = .running ∧ up.rst.islands.getD (10 - 1) .inReset ≠ .running)
    ∧ ((rstIn fun r => { r with phase := .dram }).rst.phase = .dram ∧ (rstIn fun r => { r with phase := .sram }).rst.phase = .sram)
    ∧ ((imaging {} {}).rst.phase = .image ∧ State.ImgSlot.loads {} = false ∧ State.ImgSlot.loads { headerValid := true, authentic := true } = true)
    ∧ (let a : ImgSlot := { headerValid := true, authentic := true, seq := 0 };
      let b : ImgSlot := { headerValid := true, authentic := true, seq := 1 };
      2 ^ 31 ≤ (a.seq - b.seq).toNat ∧ ¬ 2 ^ 31 ≤ (b.seq - a.seq).toNat
      ∧ (([1, 0] : List Nat).find? fun j => State.ImgSlot.loads ((imaging a b).boot.slots.getD j {})) = some 1
      ∧ (([0, 1] : List Nat).find? fun j => State.ImgSlot.loads ((imaging {} b).boot.slots.getD j {})) = some 1) := by
  (repeat' apply And.intro) <;> decide

def storeIn (f : Spw → Spw) : State := { up with spw := f up.spw }
def storeRec0 : StoreRec := {
  seq := 1
  tier := 1
  reason := 0
  axes := 256
  ks := 0
  time := 0
  eAvail := 0
  tags := []
  positions := []
  setIds := []
  faultLog := []
  acqContext := [] }

set_option maxRecDepth 8000 in
theorem wit_StoreEvents :
    ((storeIn fun x => { x with pfail := true }).spw.pfail = true ∧ up.spw.pfail = false)
    ∧ ((up.tierEvaluate 0xFFF).spw.en = false ∧ ((storeIn fun x => { x with en := true }).tierEvaluate 0).spw.tier = 0)
    ∧ (let s := (storeIn fun x => { x with en := true, rate := 1000000, cHold := 10000000, kDiv := 16000 }).tierEvaluate 0xFFF; s.spw.tier ≠ 0)
    ∧ (up.spw.run = none
      ∧ (storeIn fun x => { x with run := some { tier := 1, reason := 0 } }).spw.run = some { tier := 1, reason := 0 }
      ∧ ({ tier := 1, reason := 0 } : StoreRun).captured = none ∧ ({ tier := 2, reason := 0 } : StoreRun).tier = 2
      ∧ ({ tier := 2, reason := 1, captured := some storeRec0 } : StoreRun).captured = some storeRec0)
    ∧ ((storeIn fun x => { x with coldAfter := true }).spw.coldAfter = true ∧ up.spw.coldAfter = false)
    ∧ ([((0 : Nat), storeRec0), (0x20000, storeRec0)].Pairwise fun p q => p.1 < q.1) := by
  (repeat' apply And.intro) <;> decide

theorem wit_RegistersAndTap :
    ((0x600000 : Nat) ≤ 0x60FFFF / 4 * 4 ∧ 0x6FFFFC / 4 * 4 < 0x700000)
    ∧ (¬ ((2 : Nat) = 4 ∧ 0 % 4 = 0) ∧ ¬ ((8 : Nat) = 8 ∧ 4 % 8 = 0) ∧ (4 : Nat) % 4 = 0 ∧ (8 : Nat) % 8 = 0)
    ∧ ((0xFFFC : Nat) < 0x10000 ∧ (0x500000 : Nat) ≤ 0x5FFFFC)
    ∧ (63 < 64 ∧ (up.ring 2).enable = true ∧ ((upRing 63 fun r => { r with enable := true }).ring 63).enable = true)
    ∧ (31 < up.nCores ∧ 0x3FFF < 0x4000)
    ∧ (State.reset.rst.islands.getD 8 .inReset ≠ .running ∧ up.rst.islands.getD 8 .inReset = .running)
    ∧ ((0 : Byte) = 0 ∧ (3 : Byte) ≠ 0 ∧ (3 : Byte) ≠ 1 ∧ (3 : Byte) ≠ 2 ∧ (3 : Byte) ≠ 0x40)
    ∧ (up.tap.ir ≠ 0x40 ∧ ({ up with tap := { up.tap with ir := 0x40 } } : State).tap.ir = 0x40)
    ∧ (∃ i, State.islandOf 0x100000 = some i ∧ ((releasing []).island i = .inReset ∨ (releasing []).island i = .absent))
    ∧ (State.islandOf 0x100000 = some 1 ∧ up.island 1 = .running)
    ∧ ((0x8000000000000000#64).getLsbD 63 = true ∧ (0x7FFFFFFFFFFFFFFF#64).getLsbD 63 = false) := by
  refine ⟨?_, ?_, ?_, ?_, ?_, ?_, ?_, ?_, ⟨1, ?_, ?_⟩, ?_, ?_⟩ <;> decide

theorem wit_EddyExtremesKeepTheFirst :
    (running0 id).Runs 31 = (running0 id).Runs 31 ∧ (running0 id).Runs 0 ∧ movesOk [0] {} = true ∧ movesOk [3] { x := some (mvx false), xptr := 3 } = true
    ∧ (EIns.mini 0 0 false false {}).command 0 = some (.eMiniL 0 0 0 false {})
    ∧ (3 < ((running0 id).core 0).regs.a.length)
    ∧ (let r := ((runs0 fun r => { r with d := List.replicate 8 1 }).core 0).regs;
      accInt (r.acc 3) < (r.data 7).toInt * 2 ^ 24 ∧ ¬ ((r.data 7).toInt * 2 ^ 24 < accInt (r.acc 3)))
    ∧ (let r := ((runs0 fun r => { r with d := List.replicate 8 0xFFFFFF }).core 0).regs; (r.data 0).toInt * 2 ^ 24 < accInt (r.acc 0)) := by
  unfold State.Runs; (repeat' apply And.intro) <;> first | rfl | decide

/-! ## Ill-formed commands are refused -/

def pkt0 : Pkt := { src := .ring 0 }

theorem test_wf_packets :
    (Instr.nop pkt0).wf = true ∧ (Instr.move { pkt0 with plen := 4 }).wf = false ∧ (Instr.move { pkt0 with words := [0] }).wf = false
    ∧ (Instr.move { pkt0 with plen := 4, words := [0] }).wf = true ∧ (Instr.move { pkt0 with plen := 4, flags := 1 }).wf = true
    ∧ (Instr.move { pkt0 with plen := 8, words := [0, 0], flags := 1 }).wf = false
    ∧ (Instr.nop { pkt0 with plen := 4294967296, words := [] }).wf = false ∧ (Instr.nop { pkt0 with rbufLen := 4294967296 }).wf = false
    ∧ (Instr.nop { pkt0 with src := .ring 64 }).wf = false ∧ (Instr.nop { pkt0 with src := .twin (some 64) }).wf = false
    ∧ (Instr.commandTake [(64, nopCmd)]).wf = false ∧ (Instr.commandTake [(0, { opcode := 1, pkt := { pkt0 with plen := 4 } })]).wf = false
    ∧ (Instr.hostDmaFailure 0 (some { opcode := 1, pkt := { pkt0 with plen := 4 } })).wf = false := by
  (repeat' apply And.intro) <;> decide

theorem test_wf_frames :
    (Instr.fFrameArrival { port := 0, atNs := 0, slots := [{ node := 1024 }] }).wf = false
    ∧ (Instr.fFrameArrival { port := 48, atNs := 0 }).wf = false ∧ (Instr.fFrameArrival { port := 47, atNs := 0, slots := [{ node := 1023 }] }).wf = true
    ∧ (Instr.serviceSegmentReturn 0 true [{ node := 1024 }]).wf = false ∧ (Instr.serviceSegmentReturn 0 true [{ node := 0, cap := 1017 }]).wf = false
    ∧ (Instr.serviceSegmentReturn 0 true [{ node := 0, cap := 4, words := [0, 0] }]).wf = false
    ∧ (Instr.walkReturn 0 false true 0 0 [{ axes := 5 }]).wf = false ∧ (Instr.walkReturn 0 false true 0 0 [{ fLen := 65536 }]).wf = false
    ∧ (Instr.upstreamCFrame { uplink := 2, stamp16 := 0 }).wf = false := by
  (repeat' apply And.intro) <;> decide

theorem test_wf_numbers :
    (Instr.ringEnable 64 0).wf = false ∧ (Instr.portLinkDown 48).wf = false ∧ (Instr.followingError 256).wf = false ∧ (Instr.nodeLost 1024).wf = false
    ∧ (Instr.latticeStart 16).wf = false ∧ (Instr.axisCompute 0 4 0).wf = false ∧ (Instr.axisCompute 0 0 262144).wf = false
    ∧ (Instr.mailboxSlotWrite false 0 8 0 0).wf = false ∧ (Instr.mailboxSlotWrite false 0 0 28 0).wf = false ∧ (Instr.mailboxSlotWrite false 0 0 2 0).wf = false
    ∧ (Instr.eDone 32).wf = false ∧ (Instr.semGrant 64).wf = false ∧ (Instr.snapshotLatch 4).wf = false ∧ (Instr.periodicTrigger 8).wf = false
    ∧ (Instr.quadratureEdge 16 true true).wf = false ∧ (Instr.pwmCmpWrite 0 4 0).wf = false ∧ (Instr.sdStuck 0 3).wf = false
    ∧ (Instr.serialFrameEnd 0 true true 0 512).wf = false ∧ (Instr.acqHoldExpiry 4).wf = false ∧ (Instr.oxbowLaneDown 2).wf = false
    ∧ (Instr.islandRelease 0).wf = false ∧ (Instr.islandRelease 10).wf = false ∧ (Instr.quiesceDone 256).wf = false
    ∧ (Instr.rcRegisterRead 2).wf = false ∧ (Instr.rcRegisterRead 0x4000000).wf = false
    ∧ (Instr.registerWrite 4 8 0).wf = false ∧ (Instr.registerWrite 4 2 0).wf = false ∧ (Instr.registerWrite 4 4 0).wf = true := by
  (repeat' apply And.intro) <;> decide

/-! ## Eddy words, written out from 08 R233-R251 -/

/-- mac A1,D2,D7; nop with st x[P2+],A0; mov D1,SR; ldi P0,#0x123456; LC's whole code 61 is reserved. -/
theorem test_decode_words :
    decodeIns 0x09B00000 = .mac 1 2 3 {} ∧ decodeIns 0x000E6000 = .nop { x := some { write := true, ptr := 2, mode := 1, reg := 8 }, xptr := 2 }
    ∧ decodeIns 0x82000EE0 = .mov 1 55 ∧ decodeIns 0xD4123456 = .ldi 20 0x123456 ∧ decodeIns 0xFD000000 = .illegal := by
  (repeat' apply And.intro) <;> decide

/-- addi A3,#0x8000; norm A2,D5; loop #1023,0x3FFF; goto.gs 0x0010; post D4,D6:D7 without delay; sem release,#63; a reserved sub-operation. -/
theorem test_decode_words_control :
    decodeIns 0x90C08000 = .addi 3 0x8000 ∧ decodeIns 0x98850000 = .norm 2 5 ∧ decodeIns 0xA0FFFFFF = .loop 1023 0x3FFF
    ∧ decodeIns 0xA40D0010 = .gotoc 13 0x10 ∧ decodeIns 0xB204C000 = .post 4 3 false 0 ∧ decodeIns 0xB302003F = .semRelease 63
    ∧ decodeIns 0xA7000000 = .illegal ∧ decodeIns 0xB1000006 = .illegal := by
  (repeat' apply And.intro) <;> decide

/-! ## Worked examples of the spec -/

/-- 02 R50: a ring of 256 entries with its head at 500 and tail at 510 takes a doorbell to 2, and holds 14. -/
theorem test_doorbell_wraps :
    let s := upRing 5 fun r => { r with enable := true, sizeLog2 := 8, head := 500, tail := 510 };
    let g := (after (.cmdTailDoorbell 5 2) s).ring 5;
    (s.ring 5).fill = 10 ∧ g.tail = 2 ∧ g.fill = 14 ∧ g.idxErr = false ∧ ((after (.cmdTailDoorbell 5 245) s).ring 5).idxErr = true := by
  (repeat' apply And.intro) <;> decide

/-- 03 R73: a reference of 5.5 against feedback 0xFFFF_FFF0 gives 172. -/
theorem test_position_error : (ePOf 21 0x8000 524288).v = 172 := by decide

/-- 07 R211: A2 = 0x00_4000_0080_0000 moved under four settings of MR. -/
theorem test_move_accumulator :
    moveAcc 0 0x00400000800000 = (0x400000, false, true) ∧ moveAcc 8 0x00400000800000 = (0x400001, false, true)
    ∧ moveAcc 1 0x00400000800000 = (0x200000, false, false) ∧ moveAcc 2 0x00400000800000 = (0x7FFFFF, true, true) := by
  (repeat' apply And.intro) <;> decide

/-- 07 R214, R215: a circular buffer of ten words and a bit-reversed walk of eight. -/
theorem test_pointers :
    (let r := ((runs0 fun r => { r with b := List.replicate 8 0x123, l := List.replicate 8 10, p := List.replicate 8 0x12A }).core 0).regs; r.next 2 5 = 0x125)
    ∧ (let r := ((runs0 fun r => { r with b := List.replicate 8 0x123, l := List.replicate 8 10, p := List.replicate 8 0x123 }).core 0).regs; r.postMod 2 2 = 0x12C)
    ∧ (let r (o : Half) := ((runs0 fun r => { r with b := List.replicate 8 0x200, l := List.replicate 8 8, p := List.replicate 8 (0x200 + o), mr := 0x2000 }).core 0).regs;
      ([0, 4, 2, 6, 1, 5, 3, 7] : List Half).map (fun o => (r o).next 5 4) = [0x204, 0x202, 0x206, 0x201, 0x205, 0x203, 0x207, 0x200]) := by
  (repeat' apply And.intro) <;> decide

/-- 12 R351: a level of 0x4000 crossed between 0x3E00 and 0x4300, 31 250 ns apart. -/
theorem test_level_crossing :
    (levelStep 1 0x4000 0x400 31250 0x4300 31250 { primedUp := true, prev := some 0x3E00, prevT := 0 }).2 = some (12499 * 65536 + 53036) := by decide

/-- 14 R405: 24 W for a FULL and for a MINIMAL record of 256 axes, at 200 MB/s. -/
theorem test_store_needs :
    recordBytes 256 2 = 61632 ∧ recordBytes 256 1 = 8384
    ∧ (Spw.need { rate := 200, pBoard := 6000 } 180 31250 61632).map (fun x => 100 * x.1 / x.2) = some 886584
    ∧ (Spw.need { rate := 200, pBoard := 6000 } 180 31250 8384).map (fun x => 100 * x.1 / x.2) = some 247608
    ∧ tierFits (64296, 10) (some (886584, 100)) = false ∧ tierFits (64296, 10) (some (247608, 100)) = true := by
  (repeat' apply And.intro) <;> decide

/-- 14 R390: PORST_N asserted while WRST_N holds the part makes the episode COLD, with both in LAST. -/
theorem test_reset_widens :
    let t := after (.porstN true) (after (.wrstN true) up);
    t.rst.last = 0b00001010 ∧ (t.rst.episode.map Prod.fst) = some .cold ∧ t.rst.phase = .asserted := by
  (repeat' apply And.intro) <;> decide

/-! ## Single steps -/

theorem test_first_command_is_taken_first :
    let t := after (.netComEtypeWrite 0x1234) { up with pending := [.irqMaskWrite 5] };
    step { up with pending := [.netComEtypeWrite 0x1234, .irqMaskWrite 5] } = .next t
    ∧ t.pending = [.irqMaskWrite 5] ∧ t.net.etype = 0x1234 ∧ t.host.mask = 0xF := by
  refine ⟨rfl, ?_, ?_, ?_⟩ <;> decide

set_option maxRecDepth 4000 in
theorem test_quadrature_counts :
    let s := port0 [(0, 1), (1, 0x40)] id;
    ((after (.quadratureEdge 0 true false) s).lport 0).fbk.raw = 1 ∧ ((after (.quadratureEdge 0 false true) s).lport 0).fbk.raw = 0xFFFFFFFF
    ∧ ((after (.quadratureEdge 0 true true) s).lport 0).fbk.raw = 0 ∧ ((after (.quadratureEdge 0 true true) s).lport 0).fbk.illegal = 1 := by
  (repeat' apply And.intro) <;> decide

theorem test_no_word_spells_a_command : decodeTableWord 32 0 = none ∧ State.reset.withFetchWord 32 0 = State.reset := by
  exact ⟨rfl, rfl⟩

end Sys2Proof.Tests
end

section
/-! How a 32-bit cycle number is extended to a cycle (01 R10). -/
namespace Sys2Proof.Machine

namespace State

/-- Extending keeps the low 32 bits. -/
theorem extend_mod_two_pow (s : State) (c : Word) : s.extend c % 2 ^ 32 = c.toNat := by
  have hc : c.toNat < 2 ^ 32 := c.isLt
  simp only [extend]
  split
  · split <;> omega
  · split <;> omega

/-- The extended number lies within half a span of the present cycle. The one exception is early in time: the candidate
below it would be negative, so that the first cycle with these low bits is taken although it is further ahead. -/
theorem extend_within_half_span_or_first (s : State) (c : Word) :
    ((s.extend c : Int) - s.k).natAbs ≤ 2 ^ 31 ∨ (s.k < s.extend c ∧ s.extend c < 2 ^ 32) := by
  have hc : c.toNat < 2 ^ 32 := c.isLt
  simp only [extend]
  split
  · split <;> omega
  · split <;> omega

/-- Numbers with the same low 32 bits are equal or at least 2 ^ 32 apart. -/
theorem eq_or_span_apart {m n : Nat} (h : m % 2 ^ 32 = n % 2 ^ 32) : m = n ∨ m + 2 ^ 32 ≤ n ∨ n + 2 ^ 32 ≤ m := by
  omega

/-- No cycle with the same low 32 bits is nearer to the present one than the extended number. -/
theorem extend_nearest (s : State) (c : Word) {m : Nat} (hm : m % 2 ^ 32 = c.toNat) :
    ((s.extend c : Int) - s.k).natAbs ≤ ((m : Int) - s.k).natAbs := by
  have hsame : m % 2 ^ 32 = s.extend c % 2 ^ 32 := hm.trans (s.extend_mod_two_pow c).symm
  obtain rfl | hbelow | habove := eq_or_span_apart hsame
  · exact Nat.le_refl _
  · have hnear : ((s.extend c : Int) - s.k).natAbs ≤ 2 ^ 31 :=
      (s.extend_within_half_span_or_first c).resolve_right fun hfirst => by omega
    omega
  · obtain hnear | ⟨hahead, -⟩ := s.extend_within_half_span_or_first c <;> omega

/-- Under AT_CYCLE the start cycle is the packet's second parameter word, extended. -/
theorem startCycle_atCycle (s : State) {p : Pkt} (h : p.fld 0 16 1 = 1) :
    s.startCycle p = some (s.extend (BitVec.ofNat 32 (p.w 1))) := if_pos h

end State

/-- Settles O37: the extended number keeps the low 32 bits, every other cycle that does is a whole span of 2 ^ 32 away from it,
and it is at most half a span away from the present cycle unless nothing below it exists. -/
theorem cycleNumbersExtendToTheNearest : Obligations.CycleNumbersExtendToTheNearest := by
  unfold Obligations.CycleNumbersExtendToTheNearest
  exact fun c _ _ s => ⟨s.extend_mod_two_pow c, s.extend_nearest c, s.startCycle_atCycle⟩

end Sys2Proof.Machine
end

section
/-! When a write to NET_COM_ETYPE takes effect (05 R127). -/
namespace Sys2Proof.Machine

namespace State

/-- With every port DARK, the register takes the low 16 bits of the word. -/
theorem writeEtype_of_dark {s : State} (v : Word) (hdark : ∀ p ∈ s.net.ports, p.state = .dark) :
    s.writeEtype v = { s with net := { s.net with etype := v.extractLsb' 0 16 } } :=
  if_pos (List.all_eq_true.mpr fun p hp => beq_iff_eq.mpr (hdark p hp))

/-- One port that is not DARK is enough for the write to be ignored. -/
theorem writeEtype_of_not_dark {s : State} (v : Word) (hlit : ∃ p ∈ s.net.ports, p.state ≠ .dark) :
    s.writeEtype v = s := by
  obtain ⟨p, hp, hstate⟩ := hlit
  exact if_neg fun hall => hstate (beq_iff_eq.mp (List.all_eq_true.mp hall p hp))

end State

/-- The write command always answers a next state: the one that `State.writeEtype` gives. -/
theorem exec_netComEtypeWrite (v : Word) (s : State) : exec (.netComEtypeWrite v) s = .next (s.writeEtype v) := rfl

/-- Settles O35: the write tests every port for DARK, so it takes effect when all are and is dropped when one is not. -/
theorem etypeWrites : Obligations.EtypeWrites := by
  unfold Obligations.EtypeWrites
  intro v s
  rw [exec_netComEtypeWrite]
  constructor
  · intro hdark
    rw [State.writeEtype_of_dark v hdark]
  · intro hlit
    rw [State.writeEtype_of_not_dark v hlit]

end Sys2Proof.Machine
end

section
/-! How a core executes an instruction: one equation for the commands of the instructions, and one for each instruction of the
control, system and extreme groups (07 R223, 08 R239, R244-R250). -/
namespace Sys2Proof.Machine

/-- The command of an instruction has its core execute that instruction. -/
theorem exec_command {c : Nat} {i : EIns} {cmd : Instr} (hcmd : i.command c = some cmd) (s : State) : exec cmd s = .next (s.edy c i) := by
  cases i with
  | maxi n k j byPtr mv => cases byPtr <;> (cases hcmd; rfl)
  | mini n k j byPtr mv => cases byPtr <;> (cases hcmd; rfl)
  | vext minimum n y p byM count => cases minimum <;> (cases hcmd; rfl)
  | illegal => cases hcmd
  | _ => cases hcmd; rfl

/-- On a core that executes a task, nothing stands between the command and the instruction. -/
theorem exec_command_of_runs {c : Nat} {s : State} (hrun : s.Runs c) {i : EIns} {cmd : Instr} (hcmd : i.command c = some cmd) :
    exec cmd s = .next (s.run c false i) :=
  (exec_command hcmd s).trans (congrArg Host.Outcome.next (if_pos hrun))

/-- `run`'s test for illegal instructions, passed. -/
theorem EIns.not_illegal {i : EIns} (hlegal : i.legal = true) : ¬ (!i.legal) = true := by rw [hlegal]; decide

namespace State
variable (s : State) (c : Nat)

/-! The equations of `run`, each under what makes its instruction legal. -/

theorem run_maxi {n : Fin 4} {mv : PMoves} (hlegal : movesOk [n.val] mv = true) (k : Fin 8) (j byPtr : Bool) :
    s.run c false (.maxi n k j byPtr mv) = s.runPA c false (.maxi n k j byPtr mv) mv fun r =>
      extreme r false n.val k.val j (if byPtr then r.p.getD mv.xptr.val 0 else r.lc) :=
  if_neg (EIns.not_illegal (i := .maxi n k j byPtr mv) hlegal)

theorem run_mini {n : Fin 4} {mv : PMoves} (hlegal : movesOk [n.val] mv = true) (k : Fin 8) (j byPtr : Bool) :
    s.run c false (.mini n k j byPtr mv) = s.runPA c false (.mini n k j byPtr mv) mv fun r =>
      extreme r true n.val k.val j (if byPtr then r.p.getD mv.xptr.val 0 else r.lc) :=
  if_neg (EIns.not_illegal (i := .mini n k j byPtr mv) hlegal)

theorem run_loop (cnt : BitVec 10) (e : BitVec 14) : s.run c false (.loop cnt e) = s.beginLoop c cnt.toNat e := rfl

theorem run_loopr {k : BitVec 6} (hlegal : k.toNat ≤ 60) (e : BitVec 14) :
    s.run c false (.loopr k e) = s.beginLoop c (((s.core c).regs.read k.toNat).1.toNat % 2 ^ 16) e :=
  if_neg (EIns.not_illegal (i := .loopr k e) (decide_eq_true hlegal))

theorem run_lexit : s.run c false .lexit = s.control c fun r pc =>
    if r.stack = [] then s.taskFault c fLoop pc else s.complete c r.popLoop 1 (pc + 1) := by
  simp only [← List.isEmpty_iff]
  rfl

theorem run_goto (a : BitVec 14) : s.run c false (.goto a) = s.control c fun r _ => s.jump c r 2 a.toNat := rfl

theorem run_gotoc {cond : BitVec 4} (hlegal : cond ≠ 15) (a : BitVec 14) : s.run c false (.gotoc cond a) = s.control c fun r pc =>
    if r.holds cond.toNat then s.jump c r 2 a.toNat else s.complete c r 1 (pc + 1) :=
  if_neg (EIns.not_illegal (i := .gotoc cond a) (bne_iff_ne.mpr hlegal))

theorem run_link (a : BitVec 14) (n : Fin 8) : s.run c false (.link a n) = s.control c fun r pc =>
    s.jump c (r.setPtr n.val (BitVec.ofNat 16 (pc + 1))) 2 a.toNat := rfl

theorem run_ret (n : Fin 8) : s.run c false (.ret n) = s.control c fun r pc =>
    if 0x4000 ≤ (r.p.getD n.val 0).toNat then s.taskFault c fPcRange pc else s.jump c r 2 (r.p.getD n.val 0).toNat := rfl

theorem run_done : s.run c false .done = (s.modCore c fun x => { x with steps := x.steps + 1 }).beginEnd c true := rfl

theorem run_waitcy {ev : BitVec 3} (hlegal : ev.toNat < 6) : s.run c false (.waitcy ev) = s.stallOn c 1 (.waitcy ev) :=
  if_neg (EIns.not_illegal (i := .waitcy ev) (decide_eq_true hlegal))

theorem run_post {k : BitVec 6} (hlegal : k.toNat ≤ 60) (pair : BitVec 2) (dly : Bool) (t : BitVec 3) :
    s.run c false (.post k pair dly t) = s.post c (.post k pair dly t) k.toNat pair.toNat dly t.toNat :=
  if_neg (EIns.not_illegal (i := .post k pair dly t) (decide_eq_true hlegal))

theorem run_semAcquire (n : Fin 64) : s.run c false (.semAcquire n) = s.semAcquire c n.val (.semAcquire n) := rfl

theorem run_semTry (n : Fin 64) : s.run c false (.semTry n) = s.semTry c n.val := rfl

theorem run_semRelease (n : Fin 64) : s.run c false (.semRelease n) = s.semRelease c n.val := rfl

end State
end Sys2Proof.Machine
end

section
/-! Program control: the end addresses of active loops, the start of a loop, and jumps (08 R245-R249). -/
namespace Sys2Proof.Machine

/-- The PC stands at the end address of an active loop, where no CTL instruction may stand (08 R247). -/
def ERegs.AtLoopEnd (r : ERegs) : Prop := ∃ l ∈ r.stack, l.2.1 = r.pc

namespace ERegs
variable {r : ERegs} (start last : BitVec 14) (n : Half)

/-- The first loop only sets LC. -/
theorem pushLoop_of_nil (hstack : r.stack = []) : r.pushLoop start last n = { r with stack := [(start, last, n)], lc := n } := by
  simp [pushLoop, hstack]

/-- A nested loop saves LC with the loop around it. -/
theorem pushLoop_of_cons {l : BitVec 14 × BitVec 14 × Half} {rest : List (BitVec 14 × BitVec 14 × Half)} (hstack : r.stack = l :: rest) :
    r.pushLoop start last n = { r with stack := (start, last, n) :: (l.1, l.2.1, r.lc) :: rest, lc := n } := by
  simp [pushLoop, hstack]

end ERegs

namespace State
variable {s : State} {c : Nat}

/-- A CTL instruction at the end of an active loop stops the task. -/
theorem control_of_atLoopEnd (hend : (s.core c).regs.AtLoopEnd) (go : ERegs → Nat → State) :
    s.control c go = s.taskFault c 2 (s.core c).regs.pc.toNat :=
  if_pos (by simpa [ERegs.AtLoopEnd] using hend)

/-- Anywhere else it goes on with the core's registers and PC. -/
theorem control_of_not_atLoopEnd (hend : ¬ (s.core c).regs.AtLoopEnd) (go : ERegs → Nat → State) :
    s.control c go = go (s.core c).regs (s.core c).regs.pc.toNat :=
  if_neg (by simpa [ERegs.AtLoopEnd] using hend)

/-- The two ways of a CTL instruction's command. -/
theorem exec_control (hrun : s.Runs c) {i : EIns} {cmd : Instr} (hcmd : i.command c = some cmd) {go : ERegs → Nat → State}
    (hgo : s.run c false i = s.control c go) :
    ((s.core c).regs.AtLoopEnd → exec cmd s = .next (s.taskFault c 2 (s.core c).regs.pc.toNat))
      ∧ (¬ (s.core c).regs.AtLoopEnd → exec cmd s = .next (go (s.core c).regs (s.core c).regs.pc.toNat)) := by
  rw [exec_command_of_runs hrun hcmd, hgo]
  exact ⟨fun hend => by rw [control_of_atLoopEnd hend], fun hend => by rw [control_of_not_atLoopEnd hend]⟩

section
variable (hend : ¬ (s.core c).regs.AtLoopEnd) {m : Nat} {e : BitVec 14}
include hend

/-- An end address that is not behind the instruction is illegal. -/
theorem beginLoop_of_end_le (hle : e.toNat ≤ (s.core c).regs.pc.toNat) :
    s.beginLoop c m e = s.taskFault c 2 (s.core c).regs.pc.toNat :=
  (control_of_not_atLoopEnd hend _).trans (if_pos hle)

/-- A fifth loop stops the task. -/
theorem beginLoop_of_full (hlt : (s.core c).regs.pc.toNat < e.toNat) (hfull : 4 ≤ (s.core c).regs.stack.length) :
    s.beginLoop c m e = s.taskFault c 7 (s.core c).regs.pc.toNat :=
  (control_of_not_atLoopEnd hend _).trans ((if_neg (Nat.not_le.mpr hlt)).trans (if_pos hfull))

/-- A loop of no passes goes on behind its end. -/
theorem beginLoop_of_zero (hlt : (s.core c).regs.pc.toNat < e.toNat) (hroom : (s.core c).regs.stack.length < 4) :
    s.beginLoop c 0 e = s.complete c (s.core c).regs 2 (e.toNat + 1) :=
  (control_of_not_atLoopEnd hend _).trans
    ((if_neg (Nat.not_le.mpr hlt)).trans ((if_neg (Nat.not_le.mpr hroom)).trans (if_pos rfl)))

/-- Any other loop is pushed, and its body begins behind the instruction. -/
theorem beginLoop_of_ne_zero (hlt : (s.core c).regs.pc.toNat < e.toNat) (hroom : (s.core c).regs.stack.length < 4) (hm : m ≠ 0) :
    s.beginLoop c m e = s.complete c
      ((s.core c).regs.pushLoop (BitVec.ofNat 14 ((s.core c).regs.pc.toNat + 1)) e (BitVec.ofNat 16 m)) 2
      ((s.core c).regs.pc.toNat + 1) :=
  (control_of_not_atLoopEnd hend _).trans
    ((if_neg (Nat.not_le.mpr hlt)).trans ((if_neg (Nat.not_le.mpr hroom)).trans (if_neg hm)))

end

end State
end Sys2Proof.Machine
end

section
/-! Posts and semaphores, case by case (07 R229, R230, 08 R250). -/
namespace Sys2Proof.Machine.State
variable {s : State} {c : Nat}

section
variable (i : EIns) {rf : Nat} (pair : Nat) (dly : Bool) (t : Nat)

/-- The flow that a post names. -/
def postFlow (s : State) (c rf : Nat) : Nat := ((s.core c).regs.read rf).1.toNat % 2 ^ 10

/-- The argument that a post hands over: a pair of data registers. -/
def postWords (s : State) (c pair : Nat) : BitVec 48 := (s.core c).regs.data (2 * pair + 1) ++ (s.core c).regs.data (2 * pair)

/-- The delay of a post, when it has one. -/
def postDelay (s : State) (c : Nat) (dly : Bool) (t : Nat) : Option Nat := if dly then some ((s.core c).regs.data t).toNat else none

/-- A flow that does not exist takes no task, and Z tells it. -/
theorem post_of_not_exist (hexist : (s.flow (s.postFlow c rf)).exist = false) :
    s.post c i rf pair dly t = s.stepOn c (ERegs.setZ (s.core c).regs false) 2 :=
  if_pos (by simpa [postFlow, field] using hexist)

/-- With room, the task is queued. -/
theorem post_of_room (hexist : (s.flow (s.postFlow c rf)).exist = true) (hroom : s.flowRoom (s.postFlow c rf) = true) :
    s.post c i rf pair dly t = (s.postTask (s.postFlow c rf) (s.postWords c pair) (s.postDelay c dly t)).stepOn c
      (ERegs.setZ (s.core c).regs true) 2 :=
  (if_neg (by simpa [postFlow, field] using hexist)).trans (if_pos hroom)

/-- Without room, the post is held and the core stalls. -/
theorem post_of_no_room (hexist : (s.flow (s.postFlow c rf)).exist = true) (hroom : s.flowRoom (s.postFlow c rf) = false) :
    s.post c i rf pair dly t = (s.hold (s.postFlow c rf)
      (.core c (s.postFlow c rf) (s.postWords c pair) (s.postDelay c dly t))).stallOn c 2 i :=
  (if_neg (by simpa [postFlow, field] using hexist)).trans (if_neg (Bool.not_eq_true _ ▸ hroom))

end

section
variable {n : Nat}

/-- The state in which a core has taken a semaphore. -/
def withSemOwner (s : State) (n c : Nat) : State := { s with eddy := { s.eddy with sems := updAt s.eddy.sems n fun _ => some c } }

theorem semAcquire_of_free (i : EIns) (hfree : s.semOwner n = none) :
    s.semAcquire c n i = (s.withSemOwner n c).stepOn c (s.core c).regs 1 := by
  simp only [semAcquire, hfree, withSemOwner]

theorem semAcquire_of_own (i : EIns) (hown : s.semOwner n = some c) : s.semAcquire c n i = s.stepOn c (s.core c).regs 1 := by
  simp only [semAcquire, hown, if_true]

theorem semAcquire_of_other (i : EIns) {o : Nat} (hother : s.semOwner n = some o) (hne : o ≠ c) : s.semAcquire c n i =
    ({ s with eddy := { s.eddy with semWait := insertWait (n, s.now, c) s.eddy.semWait } } : State).stallOn c 3 i := by
  simp only [semAcquire, hother, if_neg hne]

/-- A try takes a semaphore that is free or the core's own. -/
theorem semTry_of_free_or_own (hfree : s.semOwner n = none ∨ s.semOwner n = some c) :
    s.semTry c n = (s.withSemOwner n c).stepOn c (ERegs.setZ (s.core c).regs true) 1 := by
  obtain hnone | hown := hfree
  · simp only [semTry, hnone, withSemOwner, if_true]
  · simp only [semTry, hown, withSemOwner, beq_self_eq_true, if_true]

/-- A try leaves another core's semaphore alone. -/
theorem semTry_of_other {o : Nat} (hother : s.semOwner n = some o) (hne : o ≠ c) :
    s.semTry c n = s.stepOn c (ERegs.setZ (s.core c).regs false) 1 := by
  simp [semTry, hother, beq_false_of_ne hne]

end

end Sys2Proof.Machine.State
end

section
/-! Program control, waits, posts and semaphores as commands of a running core (07 R225, R228-R230, 08 R244-R250). -/
namespace Sys2Proof.Machine

/-- Settles O47: each instruction's equation of `run`, with the cases of the shared operation that it calls (`control`,
`beginLoop`, `jump`, `post` and the semaphores). -/
theorem eddyControlAndWaits : Obligations.EddyControlAndWaits := by
  unfold Obligations.EddyControlAndWaits
  intro c cnt e addr k cond n ev pair dly t sem s hrun r pc atEnd looped jumped turn
  have hloop (m : Nat) : looped m (s.beginLoop c m e) := by
    refine ⟨fun hend => State.control_of_atLoopEnd hend _, fun hend => ⟨State.beginLoop_of_end_le hend,
      State.beginLoop_of_full hend, fun hlt hroom hm => hm ▸ State.beginLoop_of_zero hend hlt hroom, fun hlt hroom hm => ?_⟩⟩
    rw [State.beginLoop_of_ne_zero hend hlt hroom hm]
    cases hstack : r.stack with
    | nil => rw [ERegs.pushLoop_of_nil _ _ _ hstack]
    | cons l rest => rw [ERegs.pushLoop_of_cons _ _ _ hstack]
  refine ⟨⟨_, exec_command_of_runs hrun (i := .loop cnt e) rfl, ?loop⟩,
    fun hk => ⟨_, exec_command_of_runs hrun (i := .loopr k e) rfl, ?loopr⟩,
    State.exec_control hrun (i := .lexit) rfl (s.run_lexit c),
    State.exec_control hrun (i := .goto addr) rfl (s.run_goto c addr),
    fun hcond => State.exec_control hrun (i := .gotoc cond addr) rfl (s.run_gotoc c hcond addr),
    State.exec_control hrun (i := .link addr n) rfl (s.run_link c addr n),
    State.exec_control hrun (i := .ret n) rfl (s.run_ret c n),
    (exec_command_of_runs hrun (i := .done) rfl).trans (congrArg _ (s.run_done c)),
    fun hev => (exec_command_of_runs hrun (i := .waitcy ev) rfl).trans (congrArg _ (s.run_waitcy c hev)), ?post, ?semaphores⟩
  case loop => exact hloop _
  case loopr => rw [State.run_loopr s c hk]; exact hloop _
  case post =>
    intro hk f arg dt
    rw [exec_command_of_runs hrun (i := .post k pair dly t) rfl, State.run_post s c hk]
    exact ⟨fun hexist => congrArg _ (State.post_of_not_exist _ _ _ _ hexist),
      fun hexist hroom => congrArg _ (State.post_of_room _ _ _ _ hexist hroom),
      fun hexist hroom => congrArg _ (State.post_of_no_room _ _ _ _ hexist hroom)⟩
  case semaphores =>
    intro owner own
    rw [exec_command_of_runs hrun (i := .semAcquire sem) rfl, exec_command_of_runs hrun (i := .semTry sem) rfl,
      exec_command_of_runs hrun (i := .semRelease sem) rfl, State.run_semAcquire, State.run_semTry, State.run_semRelease]
    exact ⟨fun hfree => congrArg _ (State.semAcquire_of_free _ hfree), fun hown => congrArg _ (State.semAcquire_of_own _ hown),
      fun o hother hne => congrArg _ (State.semAcquire_of_other _ hother hne),
      fun hfree => congrArg _ (State.semTry_of_free_or_own hfree),
      fun o hother hne => congrArg _ (State.semTry_of_other hother hne),
      fun hown => congrArg _ (if_pos hown), fun hother => congrArg _ (if_neg hother)⟩

end Sys2Proof.Machine
end

section
/-! The accumulators as integers, and what maxi and mini do to the registers (07 R206, R207, 08 R239). -/
namespace Sys2Proof.Machine

/-- Reading all bits of a word as two's complement is its integer value. -/
theorem signed_toNat {w : Nat} (v : BitVec (w + 1)) : signed (w + 1) v.toNat = v.toInt := by
  have hv : v.toNat % 2 ^ (w + 1) = v.toNat := Nat.mod_eq_of_lt v.isLt
  have hpow : 2 ^ (w + 1) = 2 * 2 ^ w := Nat.pow_succ'
  simp only [signed, hv, BitVec.toInt_eq_toNat_cond, Nat.add_sub_cancel]
  by_cases hlt : v.toNat < 2 ^ w
  · rw [if_pos hlt, if_pos (by omega)]
  · rw [if_neg hlt, if_neg (by omega), Int.natCast_pow]; rfl

theorem accInt_eq_toInt (a : Acc) : accInt a = a.toInt := signed_toNat a

theorem toAcc_eq_ofInt (x : Int) : toAcc x = BitVec.ofInt 56 x := by
  apply BitVec.eq_of_toNat_eq
  have hx : (x % 2 ^ 56).toNat < 2 ^ 56 := by omega
  rw [toAcc, wrap, BitVec.toNat_ofNat, Nat.mod_eq_of_lt hx, BitVec.toNat_ofInt]
  rfl

/-- A value in the range of an accumulator is held exactly. -/
theorem accInt_toAcc {x : Int} (hlo : -2 ^ 55 ≤ x) (hhi : x < 2 ^ 55) : accInt (toAcc x) = x := by
  rw [accInt_eq_toInt, toAcc_eq_ofInt, BitVec.toInt_ofInt]
  exact Int.bmod_eq_of_le (by omega) (by omega)

namespace ERegs
variable (r : ERegs)

/-- A data register as a 56-bit source. -/
theorem src_data (k : Fin 8) : r.src k.val = (r.data k.val).toInt * 2 ^ 24 := by
  rw [src, if_pos k.isLt, signed_toNat]

theorem accInt_toAcc_src_data (k : Fin 8) : accInt (toAcc (r.src k.val)) = (r.data k.val).toInt * 2 ^ 24 := by
  have hlo := BitVec.le_toInt (r.data k.val)
  have hhi := BitVec.toInt_lt (x := r.data k.val)
  rw [src_data]
  exact accInt_toAcc (by omega) (by omega)

variable {n : Nat} (v : Acc)

theorem acc_setAcc_self (hn : n < r.a.length) : (r.setAcc n v).acc n = v := updAt_getD_self _ _ _ _ hn

theorem acc_setAcc_ne {m : Nat} (hm : m ≠ n) : (r.setAcc n v).acc m = r.acc m := updAt_getD_ne _ _ _ _ _ hm.symm

end ERegs

section
variable {r : ERegs} {minimum : Bool} {n k : Nat} (second : Bool) (index : Half)

/-- The value of a source betters an accumulator: strictly greater, or with `minimum` strictly smaller. -/
def ERegs.Betters (r : ERegs) (minimum : Bool) (n k : Nat) : Prop :=
  if minimum then r.src k < accInt (r.acc n) else accInt (r.acc n) < r.src k

theorem extreme_of_not_betters (h : ¬ r.Betters minimum n k) : extreme r minimum n k second index = (r, false) :=
  if_neg (by cases minimum <;> simpa [ERegs.Betters] using h)

/-- The accumulator and one index register change, and nothing else. -/
theorem extreme_of_betters (h : r.Betters minimum n k) : (extreme r minimum n k second index).1 =
    { r.setAcc n (toAcc (r.src k)) with
      i0 := if second then r.i0 else index
      i1 := if second then index else r.i1 } := by
  rw [extreme, if_pos (by cases minimum <;> simpa [ERegs.Betters] using h)]
  cases second <;> rfl

end

/-- Settles O60: both commands run `extreme` beside their moves, and it writes the accumulator and the index only when the value
is strictly better. -/
theorem eddyExtremesKeepTheFirst : Obligations.EddyExtremesKeepTheFirst := by
  unfold Obligations.EddyExtremesKeepTheFirst
  intro c minimum byPtr second n k mv s hrun hlegal ins
  refine ⟨fun r => extreme r minimum n.val k.val second (if byPtr then r.p.getD mv.xptr.val 0 else r.lc), ?runs, ?registers⟩
  case runs =>
    intro cmd hcmd
    rw [exec_command_of_runs hrun hcmd]
    cases minimum with
    | false => exact congrArg _ (s.run_maxi c hlegal k second byPtr)
    | true => exact congrArg _ (s.run_mini c hlegal k second byPtr)
  case registers =>
    intro r hn x q index better
    have hbetter : better ↔ r.Betters minimum n.val k.val := by rw [ERegs.Betters, ERegs.src_data]
    rw [hbetter]
    refine ⟨fun h => congrArg Prod.fst (extreme_of_not_betters second index h), fun h => ?_⟩
    have hq : q = _ := extreme_of_betters second index h
    rw [hq]
    exact ⟨(congrArg accInt (r.acc_setAcc_self _ hn)).trans (r.accInt_toAcc_src_data k), fun m hm => r.acc_setAcc_ne _ hm, rfl⟩

end Sys2Proof.Machine
end

section
/-! Every command answers a next state that is sound after the state it runs in (00 R1; 01 R8, R14). -/
namespace Sys2Proof.Machine
open State

/-- A result that goes on, in a state that is sound after `s`. -/
def Result.SoundAfter (s : State) (r : Result) : Prop := ∃ t, r = .next t ∧ Sound s t

namespace Result.SoundAfter
variable {s t : State}

theorem of_sound (h : Sound s t) : SoundAfter s (.next t) := ⟨t, rfl, h⟩

theorem of_view (h : t.view = s.view) : SoundAfter s (.next t) := .of_sound (.of_view h)

theorem packet {op : Op} (h : ∀ x q s, (op.body x q s).Ok s) (p : Pkt) (s : State) : SoundAfter s (.next (carry op p s)) :=
  .of_sound (carry_sound op p s fun x q => h x q s)

end Result.SoundAfter

/-- Every command is sound: packets by their opcodes' bodies, resets and changes of the plan by the lemma on their operation, and every
other command because it keeps the view. -/
theorem exec_soundAfter (c : Instr) (s : State) : Result.SoundAfter s (exec c s) := by
  cases c with
  | nop p => exact .packet opNop_ok p s
  | getIdentity p => exact .packet opGetIdentity_ok p s
  | getStatus p => exact .packet opGetStatus_ok p s
  | reset p => exact .packet opReset_ok p s
  | blockQuiesce p => exact .packet opBlockQuiesce_ok p s
  | imageUpdateBegin p => exact .packet opImageUpdateBegin_ok p s
  | imageUpdateWrite p => exact .packet opImageUpdateWrite_ok p s
  | imageUpdateCommit p => exact .packet opImageUpdateCommit_ok p s
  | axisConfigure p => exact .packet opAxisConfigure_ok p s
  | axisEnable p => exact .packet opAxisEnable_ok p s
  | axisDisable p => exact .packet opAxisDisable_ok p s
  | axisClearFault p => exact .packet opAxisClearFault_ok p s
  | paramsetWrite p => exact .packet opParamsetWrite_ok p s
  | paramsetSwitchAt p => exact .packet opParamsetSwitchAt_ok p s
  | netDiscover p => exact .packet opNetDiscover_ok p s
  | netScheduleLoad p => exact .packet opNetScheduleLoad_ok p s
  | netScheduleActivateAt p => exact .packet opNetScheduleActivateAt_ok p s
  | netNodeMailbox p => exact .packet opNetNodeMailbox_ok p s
  | netJoinConfigure p => exact .packet opNetJoinConfigure_ok p s
  | timeConfigure p => exact .packet opTimeConfigure_ok p s
  | timeSelectDomain p => exact .packet opTimeSelectDomain_ok p s
  | snapshotAt p => exact .packet opSnapshotAt_ok p s
  | snapshotRead p => exact .packet opSnapshotRead_ok p s
  | move p => exact .packet opMove_ok p s
  | stop p => exact .packet opStop_ok p s
  | home p => exact .packet opHome_ok p s
  | compareSet p => exact .packet opCompareSet_ok p s
  | gearSet p => exact .packet opGearSet_ok p s
  | registrationBind p => exact .packet opRegistrationBind_ok p s
  | acqConfigure p => exact .packet opAcqConfigure_ok p s
  | acqArm p => exact .packet opAcqArm_ok p s
  | acqRead p => exact .packet opAcqRead_ok p s
  | eddyLoad p => exact .packet opEddyLoad_ok p s
  | flowCreate p => exact .packet opFlowCreate_ok p s
  | taskPost p => exact .packet opTaskPost_ok p s
  | corePark p => exact .packet opCorePark_ok p s
  | twinConfigure p => exact .packet opTwinConfigure_ok p s
  | twinHealth p => exact .packet opTwinHealth_ok p s
  | twinYield p => exact .packet opTwinYield_ok p s
  | powerBudgetSet p => exact .packet opPowerBudgetSet_ok p s
  | powerStatus p => exact .packet opPowerStatus_ok p s
  | storeConfigure p => exact .packet opStoreConfigure_ok p s
  | storeNow p => exact .packet opStoreNow_ok p s
  | storeRead p => exact .packet opStoreRead_ok p s
  | portConfigure p => exact .packet opPortConfigure_ok p s
  | pwmFaultClear p => exact .packet opPwmFaultClear_ok p s
  | commandTake heads => exact .of_sound (commandTake_sound s _)
  | hostDmaFailure ring result => exact .of_sound (dmaFailure_sound s _ _)
  | forwardedCommand cmd => exact .of_sound (.ite _ (runCmd_sound _ s) (.refl s))
  | resetAssert => exact .of_sound (resetAssert_sound s)
  | bootScriptPacket => exact .of_sound (scriptPacket_sound s)
  | generationActivate => exact .of_sound (generationActivate_sound s)
  | periodEpochChange => exact .of_sound (periodChange_sound s)
  | probeReturn port aH16 dH16 stamps recs closedAt => exact .of_sound (probeReturn_sound s _ _ _ _ _ _)
  | joinActivate port => exact .of_sound (joinActivate_sound s _)
  | joinAbandon port => exact .of_sound (joinAbandon_sound s _)
  | twinForwardReceived seq cmd target => exact .of_sound (forwardReceived_sound s _ _ _)
  | twinForwardCommit seq => exact .of_sound (forwardCommit_sound s _)
  | powerOnMonitor asserted => exact .of_sound (sourceLevel_sound s _ _ _)
  | porstN asserted => exact .of_sound (sourceLevel_sound s _ _ _)
  | thermalTrip asserted => exact .of_sound (sourceLevel_sound s _ _ _)
  | wrstN asserted => exact .of_sound (sourceLevel_sound s _ _ _)
  | watchdogTimeout => exact .of_sound (assertSource_sound s _ _ _)
  | twinResetRequest => exact .of_sound (.ite _ (assertSource_sound s _ _ _) (.refl s))
  | upstreamReset block => exact .of_sound (upstreamReset_sound s _)
  | _ => exact .of_view (by simp)

/-- Settles O3: what every command answers is sound after the state it ran in. -/
theorem commandsComplete : Obligations.CommandsComplete := by
  unfold Obligations.CommandsComplete
  intro c s
  obtain ⟨t, hexec, hqueue, hcode, -⟩ := exec_soundAfter c s
  exact ⟨t, hexec, hqueue, hcode⟩

/-- With a command queued, a step takes it from the queue and runs it. -/
theorem step_cons (c : Instr) (rest : List Instr) (s : State) : step { s with pending := c :: rest } = exec c { s with pending := rest } := rfl

/-- Settles O1. -/
theorem stepRunsTheFront : Obligations.StepRunsTheFront := step_cons

/-- Settles O4: an empty queue ticks, which keeps the view, and a queued command is sound. -/
theorem stepKeepsThePlanLegal : Obligations.StepKeepsThePlanLegal := by
  unfold Obligations.StepKeepsThePlanLegal
  intro s t hplan hstep
  cases hqueue : s.pending with
  | nil =>
    have htick : step s = .next s.tick := by rw [step, hqueue]
    obtain rfl : s.tick = t := Host.Outcome.next.inj (htick.symm.trans hstep)
    rwa [planOk_iff, tick_view]
  | cons c rest =>
    have hexec : step s = exec c { s with pending := rest } := by rw [step, hqueue]
    obtain ⟨u, hnext, -, -, hsound⟩ := exec_soundAfter c { s with pending := rest }
    obtain rfl : u = t := Host.Outcome.next.inj (hnext.symm.trans (hexec.symm.trans hstep))
    exact hsound hplan

/-- The plan after reset: the default period, and no generation. -/
theorem reset_planOk : State.reset.PlanOk :=
  ⟨show State.reset.tmb.tc ∈ legalPeriods by decide, (by rintro g ⟨⟩), (by rintro g ⟨⟩)⟩

/-- Settles O5. -/
theorem resetIsLegal : Obligations.ResetIsLegal := ⟨reset_planOk, reset_memOk⟩

end Sys2Proof.Machine
end

section
/-! What becomes of a command packet: the common checks in their order, and the rules of a twin pair (02 R54, R441; 13 R372). -/
namespace Sys2Proof.Machine
namespace State
variable {op : Op} {p : Pkt} {s : State}

/-! One equation of `carry` for each check, under the checks before it. -/

theorem carry_of_not_ready (hready : s.host.ready = false) : carry op p s = s := by simp [carry, hready]

section
variable (hready : s.host.ready = true)
include hready

theorem carry_of_not_serves (hserves : s.serves op.opcode = false) : carry op p s = s.reply p stBadOpcode 0 [] := by
  simp [carry, hready, hserves]

variable (hserves : s.serves op.opcode = true)
include hserves

theorem carry_of_header_fault {st d : Half} (hheader : headerCheck p = some (st, d)) : carry op p s = s.reply p st d [] := by
  simp [carry, hready, hserves, hheader]

variable (hheader : headerCheck p = none)
include hheader

theorem carry_of_nested {n : Nat} {rest : BitVec 48} (hroute : s.route p = .nested n rest) :
    carry op p s = s.forwardTo op.opcode p n rest := by
  simp [carry, hready, hserves, hheader, hroute]

theorem carry_of_length_fault (hroute : ∀ n rest, s.route p ≠ .nested n rest) {st d : Half} (hlength : lengthCheck op p s = some (st, d)) :
    carry op p s = s.reply p st d [] := by
  cases h : s.route p with
  | nested n rest => exact absurd h (hroute n rest)
  | _ => simp [carry, hready, hserves, hheader, h, hlength]

variable (hlength : lengthCheck op p s = none)
include hlength

theorem carry_of_bad_target (hbad : s.route p = .bad ∨ (s.route p = .here ∧ (p.kind ≠ op.kind ∨ s.unitCount op.kind ≤ p.unit))) :
    carry op p s = s.reply p stBadTarget 0 [] := by
  obtain hroute | ⟨hroute, hunit⟩ := hbad
  · simp [carry, hready, hserves, hheader, hlength, hroute]
  · have hmiss : ¬ (p.kind = op.kind ∧ p.unit < s.unitCount op.kind) := by omega
    simp [carry, hready, hserves, hheader, hlength, hroute, if_neg hmiss]

theorem carry_of_lost (hroute : s.route p = .lost) : carry op p s = s.reply p stNotReady 0 [] := by
  simp [carry, hready, hserves, hheader, hlength, hroute]

theorem carry_of_here (hroute : s.route p = .here) (hkind : p.kind = op.kind) (hunit : p.unit < s.unitCount op.kind) :
    carry op p s = dispatch op p s := by
  simp [carry, hready, hserves, hheader, hlength, hroute, hkind, hunit]

theorem carry_of_atNode {n : Nat} (hroute : s.route p = .atNode n) : carry op p s =
    if op.kind = 3 then dispatch op { p with target := BitVec.ofNat 16 (0x3000 + n) } s else s.reply p stBadTarget 0 [] := by
  simp [carry, hready, hserves, hheader, hlength, hroute]

end

/-! The rules of a twin pair. -/

/-- A command that no serving twin shares is settled at this head. -/
theorem dispatch_of_own (hown : twinForwarded op.opcode = false ∨ (∃ n, p.src = .twin n) ∨ s.twn.state = .single ∨ s.twn.state = .alone) :
    dispatch op p s = s.settle p (op.body {} p s) := by
  obtain h | ⟨n, h⟩ | h | h := hown <;> simp [dispatch, h]

section
variable (hshared : twinForwarded op.opcode = true) (hsrc : ¬ ∃ n, p.src = .twin n)
include hshared hsrc

theorem dispatch_of_active (hactive : s.twn.state = .active) : dispatch op p s =
    let t := (op.cycle p s).getD (s.k + 2)
    match op.body { due := some t } p s with
    | .fail st d => s.reply p st d []
    | .done _ _ => s.enqueueTwin op.opcode p t true
    | .accept u => (u.reply p stAccepted 0 []).enqueueTwin op.opcode p t false
    | .later u => u.enqueueTwin op.opcode p t false
    | .refuse st d u => u.reply p st d [] := by
  cases h : p.src with
  | twin n => exact absurd ⟨n, h⟩ hsrc
  | _ => simp [dispatch, hshared, h, hactive] <;> rfl

theorem dispatch_of_not_serving (hsingle : s.twn.state ≠ .single) (halone : s.twn.state ≠ .alone) (hactive : s.twn.state ≠ .active) :
    dispatch op p s = s.reply p stDenied 0 [] := by
  cases h : p.src with
  | twin n => exact absurd ⟨n, h⟩ hsrc
  | _ => cases htwin : s.twn.state <;> simp_all [dispatch]

end

/-- A packet that passes the common checks, of a command that no twin shares, is settled by its body. -/
theorem carry_of_takes (h : s.Takes op p) : carry op p s = s.settle p (op.body {} p s) := by
  obtain ⟨hready, hserves, hheader, hroute, hlength, hkind, hunit, htwin⟩ := h
  rw [carry_of_here hready hserves hheader hlength hroute hkind hunit]
  exact dispatch_of_own (htwin.imp_right .inr)

end State

/-- Settles O6, check by check. -/
theorem commonChecksComeFirst : Obligations.CommonChecksComeFirst := by
  unfold Obligations.CommonChecksComeFirst
  intro op p s foreign
  refine ⟨State.carry_of_takes, State.carry_of_not_ready, State.carry_of_not_serves, fun hready hserves =>
    ⟨fun st d => State.carry_of_header_fault hready hserves, fun hheader =>
      ⟨fun n rest => State.carry_of_nested hready hserves hheader,
        fun hroute st d => State.carry_of_length_fault hready hserves hheader hroute, fun hlength =>
        ⟨State.carry_of_bad_target hready hserves hheader hlength, State.carry_of_lost hready hserves hheader hlength,
          State.carry_of_here hready hserves hheader hlength, fun n hroute => ?_⟩⟩⟩,
    State.dispatch_of_own, ?_, State.dispatch_of_not_serving⟩
  · rw [State.carry_of_atNode hready hserves hheader hlength hroute]
    exact ⟨fun hkind => if_neg hkind, fun hkind => if_pos hkind⟩
  · intro hshared hsrc hactive
    exact (State.dispatch_of_active hshared hsrc hactive).trans rfl

end Sys2Proof.Machine
end

section
/-! Completions of the commands of a ring (02 R45, R46, R51). -/
namespace Sys2Proof.Machine
namespace State
variable {n : Nat} {p : Pkt} {s : State}

/-- A SILENT command that did not fail gets no completion. -/
theorem reply_of_silent (hsrc : p.src = .ring n) (hsilent : p.silent = true) {st : Half} (hst : st = stOk ∨ st = stAccepted) (d : Half)
    (res : List Word) : s.reply p st d res = s := by
  simp [reply, hsrc, hsilent, hst]

@[simp] theorem emit_ring (o : Out) (m : Nat) : (s.emit o).ring m = s.ring m := rfl

@[simp] theorem emit_now32 (o : Out) : (s.emit o).now32 = s.now32 := rfl

/-- With room on its ring and none waiting before it, a completion is written at once. -/
theorem postCpl_of_room {m : Nat} (hroom : (s.ring m).room 1 = true) (hwait : ∀ x ∈ s.host.cplWait, x.1 ≠ m) (c : Cpl) :
    s.postCpl m c = s.writeCpl m c := by
  simp only [Ring.room, Bool.and_eq_true, Bool.not_eq_true', beq_iff_eq] at hroom
  obtain ⟨⟨hrun, htype⟩, hfull⟩ := hroom
  have hnone : (s.host.cplWait.any fun x => x.1 == m) = false := by simpa using hwait
  simp [postCpl, hrun, htype, hfull, hnone]

/-- Any other command of a ring posts its completion, when the CPL ring of its ring runs: its result goes to the buffer first, or stands in
the entry. -/
theorem reply_of_running (hsrc : p.src = .ring n) (hsilent : p.silent = false)
    (hrun : (s.ring (s.ring n).cplRing.toNat).running = true) (htype : (s.ring (s.ring n).cplRing.toNat).type = 1)
    {st d : Half} {res : List Word} {buffered : Bool} (hbuf : (p.rbuf && st == stOk && !res.isEmpty) = buffered) :
    s.reply p st d res = (if buffered then s.emit (.result p.rbufAddr res) else s).postCpl (s.ring n).cplRing.toNat
        { cmdRing := n, tag := p.tag, status := st, detail := d, len := 4 * res.length, time := s.now32
          result := if buffered then [] else res, inline := !buffered } := by
  cases buffered <;> simp [reply, hsrc, hsilent, hrun, htype, hbuf]

/-- With room and none waiting before it, the completion is the next entry of that CPL ring. -/
theorem reply_of_room (hsrc : p.src = .ring n) (hsilent : p.silent = false)
    (hroom : (s.ring (s.ring n).cplRing.toNat).room 1 = true) (hwait : ∀ x ∈ s.host.cplWait, x.1 ≠ (s.ring n).cplRing.toNat)
    {st d : Half} {res : List Word} {buffered : Bool} (hbuf : (p.rbuf && st == stOk && !res.isEmpty) = buffered) :
    s.reply p st d res = (if buffered then s.emit (.result p.rbufAddr res) else s).writeCpl (s.ring n).cplRing.toNat
        { cmdRing := n, tag := p.tag, status := st, detail := d, len := 4 * res.length, time := s.now32
          result := if buffered then [] else res, inline := !buffered } := by
  have hroom' := hroom
  simp only [Ring.room, Bool.and_eq_true, beq_iff_eq] at hroom'
  rw [reply_of_running hsrc hsilent hroom'.1.1 hroom'.1.2 hbuf]
  cases buffered with
  | false => exact postCpl_of_room hroom hwait _
  | true => exact postCpl_of_room (s := s.emit (.result p.rbufAddr res)) hroom hwait _

/-- An entry carries the ring's own index and phase, which a result sent before leaves alone. -/
theorem writeCpl_emitted (b : Bool) (o : Out) (m : Nat) (c : Cpl) :
    (if b then s.emit o else s).writeCpl m c = ((if b then s.emit o else s).emit
      (.completion m ((s.ring m).tail.toNat % (s.ring m).size) (decide ((s.ring m).tail.toNat < (s.ring m).size)) c)).advanceTail m := by
  cases b <;> rfl

end State

/-- Settles O7: no completion of a SILENT command, and otherwise the result buffer and the entry, in this order. -/
theorem completionsAreWritten : Obligations.CompletionsAreWritten := by
  unfold Obligations.CompletionsAreWritten
  intro n p st d res s hsrc
  refine ⟨fun hsilent hst => State.reply_of_silent hsrc hsilent hst d res, ?_⟩
  intro hsilent hroom hwait c r buffered entry
  exact (State.reply_of_room hsrc hsilent hroom hwait rfl).trans (State.writeCpl_emitted _ _ _ _)

end Sys2Proof.Machine
end

section
/-! The host interface: doorbells, ring control, interrupts, the link, forwarded commands (02 R35-R41, R54, R63, R443). -/
namespace Sys2Proof.Machine

/-- A command that answers `t` answers what `t` is equal to. -/
theorem exec_of_eq {c : Instr} {s t u : State} (hexec : exec c s = .next t) (h : t = u) : exec c s = .next u :=
  hexec.trans (congrArg _ h)

namespace State
variable {s : State} {n : Nat}

/-! ## Doorbells (R39) -/

section
variable {v : Word}

theorem writeTail_of_ignored (h : (s.ring n).enable = false ∨ (s.ring n).type ≠ 0) : s.writeTail n v = s := by
  obtain h | h := h <;> simp_all [writeTail]

theorem writeHead_of_ignored (h : (s.ring n).enable = false ∨ (s.ring n).type = 0) : s.writeHead n v = s := by
  obtain h | h := h <;> simp_all [writeHead]

section
variable (henable : (s.ring n).enable = true)
include henable

theorem writeTail_of_legal (htype : (s.ring n).type = 0) (hlt : v.toNat % 8192 < 2 * (s.ring n).size)
    (hroom : (v.toNat % 8192 + 2 * (s.ring n).size - (s.ring n).head.toNat) % (2 * (s.ring n).size) ≤ (s.ring n).size) :
    s.writeTail n v = s.modRing n fun r => { r with tail := BitVec.ofNat 13 (v.toNat % 8192) } := by
  simp [writeTail, henable, htype, Nat.not_le.mpr hlt, Nat.not_lt.mpr hroom]

theorem writeTail_of_illegal (htype : (s.ring n).type = 0) (h : 2 * (s.ring n).size ≤ v.toNat % 8192
      ∨ (s.ring n).size < (v.toNat % 8192 + 2 * (s.ring n).size - (s.ring n).head.toNat) % (2 * (s.ring n).size)) :
    s.writeTail n v = s.rejectDoorbell n := by
  simp [writeTail, henable, htype, h]

/-- A legal write of RNG_HEAD moves the consumer index, and what waited for room on the ring follows. -/
theorem writeHead_of_legal (htype : (s.ring n).type ≠ 0) (hlt : v.toNat % 8192 < 2 * (s.ring n).size)
    (hfill : (v.toNat % 8192 + 2 * (s.ring n).size - (s.ring n).head.toNat) % (2 * (s.ring n).size) ≤ (s.ring n).fill) :
    s.writeHead n v =
      let moved := s.modRing n fun r => { r with head := BitVec.ofNat 13 (v.toNat % 8192) }
      if (s.ring n).type = 1 then moved.flushCpl n s.host.cplWait.length
      else if (s.ring n).type = 2 then moved.flushHeld.flushOwed n
      else moved := by
  have henabled : ¬ (!((s.ring n).enable && (s.ring n).type != 0)) = true := by simpa [henable] using htype
  simp only [writeHead, if_neg henabled, if_neg (not_or.mpr ⟨Nat.not_le.mpr hlt, Nat.not_lt.mpr hfill⟩)]
  rfl

theorem writeHead_of_illegal (htype : (s.ring n).type ≠ 0) (h : 2 * (s.ring n).size ≤ v.toNat % 8192
      ∨ (s.ring n).fill < (v.toNat % 8192 + 2 * (s.ring n).size - (s.ring n).head.toNat) % (2 * (s.ring n).size)) :
    s.writeHead n v = s.rejectDoorbell n := by
  have henabled : ¬ (!((s.ring n).enable && (s.ring n).type != 0)) = true := by simpa [henable] using htype
  simp only [writeHead, if_neg henabled, if_pos h]

end

/-! ## Ring control (R40) -/

theorem writeRingCtrl_keeps (henable : (s.ring n).enable = true) (hv : v.getLsbD 31 = true) : s.writeRingCtrl n v = s := by
  simp only [writeRingCtrl, henable, hv, if_true]

theorem writeRingCtrl_disables (henable : (s.ring n).enable = true) (hv : v.getLsbD 31 = false) :
    s.writeRingCtrl n v = (s.modRing n fun r => { Ctrl.fields r v with
      enable := false, stopped := false, tail := 0, head := 0, unsig := 0, heldPost := false }).dropHeldFor n := by
  simp only [writeRingCtrl, henable, hv, Bool.not_false, Bool.false_eq_true, if_true, if_false]

theorem writeRingCtrl_configures (henable : (s.ring n).enable = false) (hv : v.getLsbD 31 = false) :
    s.writeRingCtrl n v = s.modRing n fun r => Ctrl.fields r v := by
  simp only [writeRingCtrl, henable, hv, Bool.not_false, Bool.false_eq_true, if_true, if_false]

theorem writeRingCtrl_refuses (henable : (s.ring n).enable = false) (hv : v.getLsbD 31 = true) (hrefused : s.enableRefused v = true) :
    s.writeRingCtrl n v = (s.modRing n fun r => { Ctrl.fields r v with cfgErr := true }).raiseCause 0 := by
  simp only [writeRingCtrl, henable, hv, hrefused, Bool.not_true, Bool.false_eq_true, if_true, if_false]

theorem writeRingCtrl_enables (henable : (s.ring n).enable = false) (hv : v.getLsbD 31 = true) (hrefused : s.enableRefused v = false) :
    s.writeRingCtrl n v =
      let started := s.modRing n fun r => { Ctrl.fields r v with
        enable := true, stopped := false, tail := 0, head := 0, unsig := 0 }
      if field v.toNat 0 2 = 2 then started.flushHeld.flushOwed n else started := by
  simp only [writeRingCtrl, henable, hv, hrefused, Bool.not_true, Bool.false_eq_true, if_true, if_false]

end

/-! ## Interrupts (R41, R63, R443) -/

theorem moderationTimeout_sends (henable : (s.ring n).enable = true) (hunsig : (s.ring n).unsig ≠ 0) (htime : (s.ring n).imodTime ≠ 0) :
    s.moderationTimeout n = (s.modRing n fun r => { r with unsig := 0 }).sendVector (s.ring n).vector.toNat := by
  exact if_pos (by simpa [henable, Nat.pos_iff_ne_zero, hunsig] using htime)

theorem moderationTimeout_ignored (h : (s.ring n).enable = false ∨ (s.ring n).unsig = 0 ∨ (s.ring n).imodTime = 0) :
    s.moderationTimeout n = s := by
  obtain h | h | h := h <;> simp [moderationTimeout, h]

/-- Sending a vector leaves the causes and their masks alone. -/
@[simp] theorem sendVector_mask (m : Nat) : (s.sendVector m).host.mask = s.host.mask := by
  simp only [sendVector]
  split
  · split <;> rfl
  · rfl

@[simp] theorem sendVector_cause (m : Nat) : (s.sendVector m).host.cause = s.host.cause := by
  simp only [sendVector]
  split
  · split <;> rfl
  · rfl

/-- One pass over the causes tests each against the masks before and after the write, which no vector changes. -/
theorem runAll_unmaskCause (old mask cause : BitVec 4) (l : List Nat) :
    ∀ t : State, t.host.mask = mask → t.host.cause = cause →
      runAll (unmaskCause old) l t
        = (l.filter fun i => old.getLsbD i && !mask.getLsbD i && cause.getLsbD i).foldl (fun t i => t.sendVector (60 + i)) t := by
  induction l with
  | nil => intro t _ _; rfl
  | cons i l ih =>
    intro t hmask hcause
    have hstep : runAll (unmaskCause old) (i :: l) t = runAll (unmaskCause old) l (unmaskCause old i t) := rfl
    cases hsends : (old.getLsbD i && !mask.getLsbD i && cause.getLsbD i) with
    | true =>
      have hone : unmaskCause old i t = t.sendVector (60 + i) := if_pos (by rw [hmask, hcause, hsends])
      rw [hstep, hone, ih _ (by simpa using hmask) (by simpa using hcause), List.filter_cons, if_pos hsends]
      rfl
    | false =>
      have hone : unmaskCause old i t = t := if_neg (by rw [hmask, hcause, hsends]; decide)
      rw [hstep, hone, ih t hmask hcause, List.filter_cons, if_neg (by rw [hsends]; decide)]

theorem writeMask_eq (s : State) (v : Word) : s.writeMask v =
    ([0, 1, 2, 3].filter fun i => s.host.mask.getLsbD i && !v.getLsbD i && s.host.cause.getLsbD i).foldl (fun t i => t.sendVector (60 + i))
      { s with host := { s.host with mask := v.extractLsb' 0 4 } } := by
  refine (runAll_unmaskCause s.host.mask (v.extractLsb' 0 4) s.host.cause [0, 1, 2, 3]
    { s with host := { s.host with mask := v.extractLsb' 0 4 } } rfl rfl).trans (congrArg (List.foldl _ _) (List.filter_congr fun i hi => ?_))
  have hlt : i < 4 := by
    simp only [List.mem_cons, List.not_mem_nil, or_false] at hi
    omega
  rw [BitVec.getLsbD_extractLsb', decide_eq_true hlt, Bool.true_and, Nat.zero_add]

/-- The mask of a write to the upper half of the INTx pending bits. -/
theorem ofNat_mul_two_pow (v : Word) : BitVec.ofNat 64 (v.toNat * 2 ^ 32) = v ++ (0 : Word) := by
  refine BitVec.eq_of_toNat_eq ?_
  rw [BitVec.toNat_ofNat, BitVec.toNat_append, Nat.mod_eq_of_lt (by have := v.isLt; omega), Nat.shiftLeft_eq]
  exact (Nat.or_zero _).symm

/-- The mask of a write to the lower half. -/
theorem ofNat_toNat_low (v : Word) : BitVec.ofNat 64 (v.toNat * 1) = (0 : Word) ++ v := by
  refine BitVec.eq_of_toNat_eq ?_
  rw [BitVec.toNat_ofNat, BitVec.toNat_append, Nat.mod_eq_of_lt (by have := v.isLt; omega), Nat.mul_one]
  simp

/-! ## Forwarded commands (R54, R58) -/

section
variable {id : Nat} {f : Fwd} {st d : Half} {res : List Word}

/-- The state in which a forwarded command is no longer awaited. -/
def endFwd (s : State) (id : Nat) : State := { s with host := { s.host with fwd := s.host.fwd.filter fun g => g.id != id } }

/-- A result has room where its packet's completion goes. -/
def resultFits (p : Pkt) (res : List Word) : Prop := ∀ m, p.src = .ring m → 4 * res.length ≤ (if p.rbuf then p.rbufLen else 48)

theorem forwardReply_of_unknown (h : s.host.fwd.find? (fun g => g.id == id) = none) : s.forwardReply id st d res = s := by
  simp only [forwardReply, h]

theorem forwardLate_of_unknown (h : s.host.fwd.find? (fun g => g.id == id) = none) : s.forwardLate id = s := by
  simp only [forwardLate, h]

variable (hf : s.host.fwd.find? (fun g => g.id == id) = some f)
include hf

theorem forwardReply_accepted : s.forwardReply id stAccepted d res = s.reply f.pkt stAccepted 0 [] := by
  simp [forwardReply, hf]

theorem forwardReply_of_failure (haccepted : st ≠ stAccepted) (hok : st ≠ stOk) :
    s.forwardReply id st d res = (s.endFwd id).reply f.pkt st d [] := by
  simp [forwardReply, hf, haccepted, hok, endFwd]

theorem forwardReply_of_fits (hfits : resultFits f.pkt res) : s.forwardReply id stOk d res = (s.endFwd id).finish f.pkt res := by
  have hne : stOk ≠ stAccepted := by decide
  cases hsrc : f.pkt.src with
  | ring m =>
    have hlen := hfits m hsrc
    cases hbuf : f.pkt.rbuf <;> simp only [hbuf] at hlen <;> simpa [forwardReply, hf, hsrc, hbuf, hne, endFwd] using fun h => absurd hlen (by simpa using h)
  | _ => simp [forwardReply, hf, hsrc, hne, endFwd]

theorem forwardReply_of_not_fits (hfits : ¬ resultFits f.pkt res) :
    s.forwardReply id stOk d res = (s.endFwd id).reply f.pkt stBadLength noWord [] := by
  have hne : stOk ≠ stAccepted := by decide
  simp only [resultFits, Classical.not_forall] at hfits
  obtain ⟨m, hsrc, hlong⟩ := hfits
  cases hbuf : f.pkt.rbuf <;> simp only [hbuf] at hlong <;> simpa [forwardReply, hf, hsrc, hbuf, hne, endFwd] using fun h => absurd (by simpa using h) hlong

theorem forwardLate_of_known : s.forwardLate id = (s.endFwd id).reply f.pkt stTimeout 0 [] := by
  simp only [forwardLate, hf, endFwd]

end

/-! A packet of any opcode. -/

section
variable {code : Half} (p : Pkt) (s : State)

theorem runCmd_of_known {op : Op} (h : opOf code = some op) : runCmd { opcode := code, pkt := p } s = carry op p s := by
  simp only [runCmd, h]

theorem runCmd_of_unknown (h : opOf code = none) :
    runCmd { opcode := code, pkt := p } s = if s.host.ready then s.reply p stBadOpcode 0 [] else s := by
  simp only [runCmd, h]

end

/-- With no BOOT_SCRIPT_DONE held, or no ring for it, nothing is posted. -/
theorem flushHeld_of_none (h : s.host.heldBootDone = none ∨ s.evtTarget = none) : s.flushHeld = s := by
  unfold flushHeld
  split
  · simp_all
  · rfl

end State

/-- Settles O8. -/
theorem doorbellsMoveIndices : Obligations.DoorbellsMoveIndices := by
  unfold Obligations.DoorbellsMoveIndices
  intro n v s r x
  refine ⟨fun henable htype => ⟨fun hlt hroom => exec_of_eq rfl (State.writeTail_of_legal henable htype hlt hroom),
      fun h => exec_of_eq rfl (State.writeTail_of_illegal henable htype h),
      exec_of_eq rfl (State.writeHead_of_ignored (.inr htype))⟩,
    fun henable htype => ⟨fun hlt hfill => exec_of_eq rfl (State.writeHead_of_legal henable htype hlt hfill),
      fun h => exec_of_eq rfl (State.writeHead_of_illegal henable htype h),
      exec_of_eq rfl (State.writeTail_of_ignored (.inr htype))⟩,
    fun henable => ⟨exec_of_eq rfl (State.writeTail_of_ignored (.inl henable)),
      exec_of_eq rfl (State.writeHead_of_ignored (.inl henable))⟩⟩

/-- Settles O9. -/
theorem ringControlWrites : Obligations.RingControlWrites := by
  unfold Obligations.RingControlWrites
  intro n v s fields refused
  have hrefused : s.enableRefused v = refused := by
    simp [State.enableRefused, refused, Bool.beq_eq_decide_eq]
  exact ⟨fun henable hv h => exec_of_eq rfl (State.writeRingCtrl_enables henable hv (hrefused.trans h)),
    fun henable hv h => exec_of_eq rfl (State.writeRingCtrl_refuses henable hv (hrefused.trans h)),
    fun henable hv => exec_of_eq rfl (State.writeRingCtrl_disables henable hv),
    fun henable hv => exec_of_eq rfl (State.writeRingCtrl_configures henable hv),
    fun henable hv => exec_of_eq rfl (State.writeRingCtrl_keeps henable hv)⟩

/-- Settles O10. -/
theorem interruptRegisters : Obligations.InterruptRegisters := by
  unfold Obligations.InterruptRegisters
  intro v high n s
  refine ⟨rfl, exec_of_eq rfl (s.writeMask_eq v), ?intx,
    fun henable hunsig htime => exec_of_eq rfl (State.moderationTimeout_sends henable hunsig htime),
    fun h => exec_of_eq rfl (State.moderationTimeout_ignored h)⟩
  case intx =>
    cases high with
    | true => exact exec_of_eq rfl (by rw [State.clearIntx, if_pos rfl, if_pos rfl, State.ofNat_mul_two_pow])
    | false => exact exec_of_eq rfl (by rw [State.clearIntx, if_neg (by decide), if_neg (by decide), State.ofNat_toNat_low])

/-- Settles O11. -/
theorem hostLinkResets : Obligations.HostLinkResets := by
  unfold Obligations.HostLinkResets
  intro gt25 msix s held reset
  exact ⟨rfl, rfl, rfl, rfl, fun h => State.flushHeld_of_none (.inl h)⟩

/-- Settles O12. -/
theorem forwardedCommands : Obligations.ForwardedCommands := by
  unfold Obligations.ForwardedCommands
  intro id st d res f c s ended
  refine ⟨?known, fun h => ⟨exec_of_eq rfl (State.forwardReply_of_unknown h), exec_of_eq rfl (State.forwardLate_of_unknown h)⟩,
    ?upstream, fun hrole => exec_of_eq rfl (if_neg (by rw [hrole]; decide))⟩
  case known =>
    intro hf fits
    exact ⟨exec_of_eq rfl (State.forwardReply_accepted hf), fun ha ho => exec_of_eq rfl (State.forwardReply_of_failure hf ha ho),
      fun h => exec_of_eq rfl (State.forwardReply_of_fits hf h), fun h => exec_of_eq rfl (State.forwardReply_of_not_fits hf h),
      exec_of_eq rfl (State.forwardLate_of_known hf)⟩
  case upstream =>
    intro hrole
    have hrun : exec (.forwardedCommand c) s = .next (State.runCmd { c with pkt := { c.pkt with src := .upstream } } s) :=
      exec_of_eq rfl (if_pos hrole)
    exact ⟨fun op hop => exec_of_eq hrun (State.runCmd_of_known _ s hop),
      fun hop hready => exec_of_eq hrun ((State.runCmd_of_unknown _ s hop).trans (if_pos hready)),
      fun hop hready => exec_of_eq hrun ((State.runCmd_of_unknown _ s hop).trans (if_neg (by rw [hready]; decide)))⟩

end Sys2Proof.Machine
end

section
/-! Which ring is served next (02 R50): the heads in the order of their rings, and a pass that goes on behind the ring served last. -/
namespace Sys2Proof.Machine
namespace State

/-- Heads in rising order of their rings. -/
def ByRing (l : List (Nat × Cmd)) : Prop := l.Pairwise fun x y => x.1 ≤ y.1

theorem mem_insertRing {x y : Nat × Cmd} : ∀ {l : List (Nat × Cmd)}, y ∈ insertRing x l ↔ y = x ∨ y ∈ l
  | [] => by simp [insertRing]
  | z :: t => by
    unfold insertRing
    split
    · simp
    · rw [List.mem_cons, mem_insertRing, List.mem_cons]
      exact or_left_comm

theorem insertRing_byRing (x : Nat × Cmd) : ∀ {l : List (Nat × Cmd)}, ByRing l → ByRing (insertRing x l)
  | [], _ => List.pairwise_singleton _ _
  | y :: t, h => by
    obtain ⟨hy, ht⟩ := List.pairwise_cons.mp h
    unfold insertRing
    split
    · rename_i hlt
      refine List.pairwise_cons.mpr ⟨fun z hz => ?_, h⟩
      obtain rfl | hz := List.mem_cons.mp hz
      · exact Nat.le_of_lt hlt
      · exact Nat.le_trans (Nat.le_of_lt hlt) (hy z hz)
    · rename_i hge
      refine List.pairwise_cons.mpr ⟨fun z hz => ?_, insertRing_byRing x ht⟩
      obtain rfl | hz := mem_insertRing.mp hz
      · exact Nat.le_of_not_lt hge
      · exact hy z hz

/-- The heads in the order of their rings. -/
def sortedHeads (heads : List (Nat × Cmd)) : List (Nat × Cmd) := heads.foldl (fun l x => insertRing x l) []

theorem foldl_insertRing_byRing (heads : List (Nat × Cmd)) :
    ∀ l : List (Nat × Cmd), ByRing l → ByRing (heads.foldl (fun l x => insertRing x l) l) := by
  induction heads with
  | nil => exact fun _ h => h
  | cons x t ih => exact fun l h => ih _ (insertRing_byRing x h)

theorem mem_foldl_insertRing {y : Nat × Cmd} (heads : List (Nat × Cmd)) :
    ∀ l : List (Nat × Cmd), y ∈ heads.foldl (fun l x => insertRing x l) l ↔ y ∈ heads ∨ y ∈ l := by
  induction heads with
  | nil => simp
  | cons x t ih =>
    intro l
    rw [List.foldl_cons, ih, mem_insertRing, List.mem_cons]
    grind only

/-- The heads that may be served, in the order of their rings. -/
def ableHeads (s : State) (heads : List (Nat × Cmd)) : List (Nat × Cmd) :=
  (sortedHeads heads).filter fun x => decide (x.1 < 64) && s.canTake x.1 x.2

theorem mem_ableHeads {s : State} {heads : List (Nat × Cmd)} {x : Nat × Cmd} :
    x ∈ s.ableHeads heads ↔ x ∈ heads ∧ x.1 < 64 ∧ s.canTake x.1 x.2 = true := by
  simp [ableHeads, sortedHeads, mem_foldl_insertRing]

theorem ableHeads_byRing (s : State) (heads : List (Nat × Cmd)) : ByRing (s.ableHeads heads) :=
  (foldl_insertRing_byRing heads [] .nil).filter _

/-- The head that a pass over some heads serves. -/
def pickRing (last : Nat) (l : List (Nat × Cmd)) : Option (Nat × Cmd) :=
  match nextRing last (l.map Prod.fst) with
  | some n => l.find? fun x => x.1 == n
  | none => none

theorem arbitrate_eq (s : State) (heads : List (Nat × Cmd)) : s.arbitrate heads =
    let high := (s.ableHeads heads).filter fun x => (s.ring x.1).prio
    if high.isEmpty then pickRing s.host.rrLow (s.ableHeads heads) else pickRing s.host.rrHigh high := by
  rfl

/-- The ring that follows `last` in rising order, and round again from the lowest. -/
def Follows (last n : Nat) (ns : List Nat) : Prop :=
  n ∈ ns ∧ ∀ m ∈ ns, (last < n → m ≤ last ∨ n ≤ m) ∧ (n ≤ last → m ≤ last ∧ n ≤ m)

theorem nextRing_follows (last : Nat) {ns : List Nat} (hsorted : ns.Pairwise (· ≤ ·)) (hne : ns ≠ []) :
    ∃ n, nextRing last ns = some n ∧ Follows last n ns := by
  unfold nextRing
  split
  case h_1 n hfind =>
    obtain ⟨hn, as, bs, rfl, hbefore⟩ := List.find?_eq_some_iff_append.mp hfind
    have hlt : last < n := of_decide_eq_true hn
    refine ⟨n, rfl, by simp, fun m hm => ⟨fun _ => ?_, fun hle => absurd hlt (Nat.not_lt.mpr hle)⟩⟩
    obtain hm | hm := List.mem_append.mp hm
    · have := hbefore m hm
      exact .inl (by simpa using this)
    · obtain rfl | hm := List.mem_cons.mp hm
      · exact .inr (Nat.le_refl _)
      · exact .inr ((List.pairwise_cons.mp (List.pairwise_append.mp hsorted).2.1).1 m hm)
  case h_2 hfind =>
    obtain ⟨n, t, rfl⟩ := List.exists_cons_of_ne_nil hne
    have hall : ∀ m ∈ n :: t, m ≤ last := fun m hm => by simpa using List.find?_eq_none.mp hfind m hm
    refine ⟨n, rfl, List.mem_cons_self, fun m hm => ⟨fun hlt => .inl (hall m hm), fun _ => ⟨hall m hm, ?_⟩⟩⟩
    obtain rfl | hm := List.mem_cons.mp hm
    · exact Nat.le_refl _
    · exact (List.pairwise_cons.mp hsorted).1 m hm

theorem pickRing_follows (last : Nat) {l : List (Nat × Cmd)} (hsorted : ByRing l) (hne : l ≠ []) :
    ∃ x ∈ l, pickRing last l = some x ∧ Follows last x.1 (l.map Prod.fst) := by
  obtain ⟨n, hnext, hfollows⟩ := nextRing_follows last (List.pairwise_map.mpr hsorted) (by simpa using hne)
  obtain ⟨y, hy, rfl⟩ := List.mem_map.mp hfollows.1
  obtain ⟨x, hx⟩ := Option.isSome_iff_exists.mp (List.find?_isSome (p := fun x => x.1 == y.1).mpr ⟨y, hy, beq_self_eq_true y.1⟩)
  have hring : x.1 = y.1 := by simpa using List.find?_some hx
  exact ⟨x, List.mem_of_find?_eq_some hx, by rw [pickRing, hnext]; exact hx, by rwa [hring]⟩

/-- The ring that was served last in the pass of its priority. -/
def lastServed (s : State) (prio : Bool) : Nat := if prio then s.host.rrHigh else s.host.rrLow

theorem arbitrate_none {s : State} {heads : List (Nat × Cmd)} (h : ∀ x, x ∉ s.ableHeads heads) : s.arbitrate heads = none := by
  rw [arbitrate_eq, List.eq_nil_iff_forall_not_mem.mpr h]
  rfl

/-- One head is served: of high priority if there is one, and next in turn among its priority. -/
theorem arbitrate_some {s : State} {heads : List (Nat × Cmd)} (h : ∃ x, x ∈ s.ableHeads heads) :
    ∃ x ∈ s.ableHeads heads, s.arbitrate heads = some x
      ∧ ((s.ring x.1).prio = false → ∀ y ∈ s.ableHeads heads, (s.ring y.1).prio = false)
      ∧ ∀ y ∈ s.ableHeads heads, (s.ring y.1).prio = (s.ring x.1).prio →
        (s.lastServed (s.ring x.1).prio < x.1 → y.1 ≤ s.lastServed (s.ring x.1).prio ∨ x.1 ≤ y.1)
          ∧ (x.1 ≤ s.lastServed (s.ring x.1).prio → y.1 ≤ s.lastServed (s.ring x.1).prio ∧ x.1 ≤ y.1) := by
  rw [arbitrate_eq]
  cases hhigh : ((s.ableHeads heads).filter fun x => (s.ring x.1).prio).isEmpty with
  | true =>
    have hlow : ∀ y ∈ s.ableHeads heads, (s.ring y.1).prio = false := by simpa using hhigh
    obtain ⟨x, hx, hpick, hfollows⟩ := pickRing_follows s.host.rrLow (s.ableHeads_byRing heads) (List.ne_nil_of_mem h.choose_spec)
    refine ⟨x, hx, by simpa [hhigh] using hpick, fun _ => hlow, fun y hy _ => ?_⟩
    rw [hlow x hx]
    exact hfollows.2 y.1 (List.mem_map_of_mem hy)
  | false =>
    obtain ⟨x, hx, hpick, hfollows⟩ :=
      pickRing_follows s.host.rrHigh ((s.ableHeads_byRing heads).filter fun x => (s.ring x.1).prio) (by simpa using hhigh)
    obtain ⟨hx, hprio⟩ := List.mem_filter.mp hx
    refine ⟨x, hx, by simpa [hhigh] using hpick, fun hlow => absurd (hprio.symm.trans hlow) (by decide), fun y hy hsame => ?_⟩
    rw [hprio] at hsame ⊢
    exact hfollows.2 y.1 (List.mem_map_of_mem (List.mem_filter.mpr ⟨hy, hsame⟩))

end State
end Sys2Proof.Machine
end

section
/-! Taking commands from rings, from the boot script and after a failed write of a result (02 R42, R48, R50, R65). -/
namespace Sys2Proof.Machine
namespace State
variable {s : State} {n : Nat} {c : Cmd}

/-! ## COMMAND_TAKE and HOST_DMA_FAILURE -/

/-- The state in which the command at the head of a ring has run, with the ring noted as served last. -/
def ranFrom (s : State) (n : Nat) (c : Cmd) : State :=
  runCmd { c with pkt := { c.pkt with src := .ring n } } { s with host := { s.host with
    rrHigh := if (s.ring n).prio then n else s.host.rrHigh, rrLow := if (s.ring n).prio then s.host.rrLow else n } }

/-- What becomes of the ring's head is told by the last of the posts that wait for room. -/
theorem takeFrom_eq (n : Nat) (c : Cmd) (s : State) : s.takeFrom n c =
    match (s.ranFrom n c).sch.held.getLast? with
    | some (.other q) =>
      if (s.ranFrom n c).sch.held.length > s.sch.held.length ∧ fromRing n q then
        State.modRing { s.ranFrom n c with sch := { (s.ranFrom n c).sch with
          held := (s.ranFrom n c).sch.held.dropLast ++ [Held.ring n q] } } n fun r => { r with heldPost := true }
      else (s.ranFrom n c).advanceHead n
    | _ => (s.ranFrom n c).advanceHead n := rfl

theorem takeFrom_advances (h : (s.ranFrom n c).sch.held.length ≤ s.sch.held.length
      ∨ ∀ q, (s.ranFrom n c).sch.held.getLast? = some (.other q) → fromRing n q = false) :
    s.takeFrom n c = (s.ranFrom n c).advanceHead n := by
  rw [takeFrom_eq]
  split
  case h_1 q hlast =>
    refine if_neg fun hheld => ?_
    obtain hle | hq := h
    · exact absurd hheld.1 (Nat.not_lt.mpr hle)
    · exact absurd ((hq q hlast).symm.trans hheld.2) (by decide)
  case h_2 => rfl

/-- A TASK_POST that waits for room stays at the head of its ring. -/
theorem takeFrom_holds {q : Pkt} (hmore : s.sch.held.length < (s.ranFrom n c).sch.held.length)
    (hlast : (s.ranFrom n c).sch.held.getLast? = some (.other q)) (hq : fromRing n q = true) :
    s.takeFrom n c = State.modRing { s.ranFrom n c with sch := { (s.ranFrom n c).sch with
      held := (s.ranFrom n c).sch.held.dropLast ++ [Held.ring n q] } } n fun r => { r with heldPost := true } := by
  rw [takeFrom_eq]
  split
  case h_1 q' hlast' =>
    obtain ⟨⟩ : some (Held.other q) = some (Held.other q') := hlast.symm.trans hlast'
    exact if_pos ⟨hmore, hq⟩
  case h_2 hother => exact absurd hlast (hother q)

theorem commandTake_of_none {heads : List (Nat × Cmd)} (h : s.arbitrate heads = none) : s.commandTake heads = s := by
  simp only [commandTake, h]

theorem commandTake_of_some {heads : List (Nat × Cmd)} {x : Nat × Cmd} (h : s.arbitrate heads = some x) :
    s.commandTake heads = s.takeFrom x.1 x.2 := by
  simp only [commandTake, h]

theorem dmaFailure_of_not_running (hrun : (s.ring n).running = false) (result : Option Cmd) : s.dmaFailure n result = s := by
  simp [dmaFailure, hrun]

theorem dmaFailure_of_running (hrun : (s.ring n).running = true) (result : Option Cmd) : s.dmaFailure n result =
    match result with
    | none => s.stopRing n
    | some c =>
      if c.pkt.rbuf && s.canTake n c then (s.takeFrom n { c with pkt := { c.pkt with flags := c.pkt.flags ||| 0x10 } }).stopRing n
      else s.stopRing n := by
  cases result <;> simp [dmaFailure, hrun]

/-! ## The boot script (R65) -/

/-- The script may start: the host interface is ready, an image runs, and the script has neither run nor begun. -/
def ScriptFresh (s : State) : Prop :=
  s.host.ready = true ∧ s.boot.romOnly = false ∧ s.boot.scriptDone = false ∧ s.boot.scriptIdx = none

theorem startScript_of_not_fresh (h : ¬ s.ScriptFresh) : s.startScript = s := by
  refine if_pos ?_
  cases hready : s.host.ready <;> cases hrom : s.boot.romOnly <;> cases hdone : s.boot.scriptDone <;> cases hidx : s.boot.scriptIdx <;>
    simp_all [ScriptFresh]

section
variable (hfresh : s.ScriptFresh)
include hfresh

theorem startScript_of_fresh : s.startScript =
    if !s.boot.script.valid then s.endScript 0
    else if s.boot.script.hostSkip && s.host.linkUp then s.endScript 1
    else if s.boot.script.packets.isEmpty then s.endScript 2
    else { s with boot := { s.boot with scriptIdx := some 0, scriptWait := false } } := by
  obtain ⟨hready, hrom, hdone, hidx⟩ := hfresh
  simp [startScript, hready, hrom, hdone, hidx]

theorem startScript_of_invalid (hvalid : s.boot.script.valid = false) : s.startScript = s.endScript 0 := by
  rw [startScript_of_fresh hfresh, hvalid]
  rfl

variable (hvalid : s.boot.script.valid = true)
include hvalid

theorem startScript_of_skipped (hskip : s.boot.script.hostSkip = true) (hlink : s.host.linkUp = true) : s.startScript = s.endScript 1 := by
  rw [startScript_of_fresh hfresh, hvalid, hskip, hlink]
  rfl

variable (hskip : s.boot.script.hostSkip = false ∨ s.host.linkUp = false)
include hskip

theorem startScript_of_empty (hpackets : s.boot.script.packets = []) : s.startScript = s.endScript 2 := by
  rw [startScript_of_fresh hfresh]
  obtain h | h := hskip <;> simp [hvalid, h, hpackets]

theorem startScript_of_packets (hpackets : s.boot.script.packets ≠ []) :
    s.startScript = { s with boot := { s.boot with scriptIdx := some 0, scriptWait := false } } := by
  rw [startScript_of_fresh hfresh]
  obtain h | h := hskip <;> simp [hvalid, h, hpackets]

end

theorem scriptPacket_of_idle (h : s.boot.scriptWait = true ∨ s.host.ready = false ∨ s.boot.scriptIdx = none
    ∨ ∃ i, s.boot.scriptIdx = some i ∧ s.boot.script.packets[i]? = none) : s.scriptPacket = s := by
  obtain h | h | h | ⟨i, hi, h⟩ := h
  · simp [scriptPacket, h]
  · simp [scriptPacket, h]
  · simp [scriptPacket, h]
  · simp only [scriptPacket, hi, Option.bind_some, h, ite_self]

theorem scriptPacket_runs (hwait : s.boot.scriptWait = false) (hready : s.host.ready = true) {i : Nat} (hi : s.boot.scriptIdx = some i)
    (hc : s.boot.script.packets[i]? = some c) :
    s.scriptPacket = runCmd { c with pkt := { c.pkt with src := .script } } { s with boot := { s.boot with scriptWait := true } } := by
  simp [scriptPacket, hwait, hready, hi, hc]

/-! A held BOOT_SCRIPT_DONE goes to the ring that the route names. -/

section
variable {e : Evt} (hheld : s.host.heldBootDone = some e) (hroute : s.evtTarget = some n)
include hheld hroute

theorem flushHeld_of_stopped (hrun : (s.ring n).running = false) : s.flushHeld = s := by
  simp [flushHeld, hheld, hroute, hrun]

theorem flushHeld_of_running (hrun : (s.ring n).running = true) : s.flushHeld =
    let w : State := { s.flushOwed n with host := { (s.flushOwed n).host with heldBootDone := none } }
    if (w.ring n).room 2 then w.writeEvent n e else w.discardEvent n e := by
  simp [flushHeld, hheld, hroute, hrun]

end

end State

/-- Settles O13: arbitration over the heads that may be served, and what becomes of the one that is. -/
theorem commandsAreTaken : Obligations.CommandsAreTaken := by
  unfold Obligations.CommandsAreTaken
  intro n c heads s able ran
  refine ⟨?none, ?some, State.takeFrom_advances, fun q => State.takeFrom_holds, ?failure,
    fun hrun => ⟨exec_of_eq rfl (State.dmaFailure_of_not_running hrun _), exec_of_eq rfl (State.dmaFailure_of_not_running hrun _)⟩⟩
  case none =>
    exact fun hnone => exec_of_eq rfl (State.commandTake_of_none (State.arbitrate_none fun x hx => hnone x (State.mem_ableHeads.mp hx)))
  case some =>
    rintro ⟨x, hx⟩
    obtain ⟨m, hm, harb, hlow, hturn⟩ := State.arbitrate_some ⟨x, State.mem_ableHeads.mpr hx⟩
    exact ⟨m.1, m.2, State.mem_ableHeads.mp hm, exec_of_eq rfl (State.commandTake_of_some harb),
      fun h y hy => hlow h y (State.mem_ableHeads.mpr hy), fun y hy => hturn y (State.mem_ableHeads.mpr hy)⟩
  case failure =>
    intro hrun stop
    refine ⟨exec_of_eq rfl (State.dmaFailure_of_running hrun _), fun h => ?_, fun hbuf htake => ?_⟩
    · exact exec_of_eq rfl ((State.dmaFailure_of_running hrun _).trans (if_neg (by obtain h | h := h <;> simp [h])))
    · exact exec_of_eq rfl ((State.dmaFailure_of_running hrun _).trans (if_pos (by simp [hbuf, htake])))

/-- Settles O14. -/
theorem bootScript : Obligations.BootScript := by
  unfold Obligations.BootScript
  intro i n c e v s b fresh t
  refine ⟨fun hfresh hvalid hskip => ⟨fun h => exec_of_eq rfl (State.startScript_of_packets hfresh hvalid hskip h),
      fun h => exec_of_eq rfl (State.startScript_of_empty hfresh hvalid hskip h)⟩,
    fun hfresh hvalid => exec_of_eq rfl (State.startScript_of_invalid hfresh hvalid),
    fun hfresh hvalid hskip hlink => exec_of_eq rfl (State.startScript_of_skipped hfresh hvalid hskip hlink),
    fun h => exec_of_eq rfl (State.startScript_of_not_fresh h), ?packet, ?idle, rfl, State.flushHeld_of_none, ?held⟩
  case packet =>
    intro hwait hready hi hc u
    have hrun : exec .bootScriptPacket s = .next (State.runCmd { c with pkt := { c.pkt with src := .script } } u) :=
      exec_of_eq rfl (State.scriptPacket_runs hwait hready hi hc)
    exact ⟨fun op hop => exec_of_eq hrun (State.runCmd_of_known _ u hop),
      fun hop => exec_of_eq hrun ((State.runCmd_of_unknown _ u hop).trans (if_pos hready))⟩
  case idle =>
    exact fun h => exec_of_eq rfl (State.scriptPacket_of_idle (h.imp_right (.imp_right (.imp_right fun h => ⟨i, h⟩))))
  case held =>
    intro hheld hroute u w
    exact ⟨State.flushHeld_of_stopped hheld hroute,
      fun hrun hroom => (State.flushHeld_of_running hheld hroute hrun).trans (if_pos hroom),
      fun hrun hroom => (State.flushHeld_of_running hheld hroute hrun).trans (if_neg (Bool.eq_false_iff.mp hroom))⟩

end Sys2Proof.Machine
end

section
/-! Queries, resets by command and image updates (02 R60, R61; 14 R397-R400). -/
namespace Sys2Proof.Machine

/-- A command that passes the common checks answers what its body's verdict settles. -/
theorem exec_takes {c : Instr} {op : Op} {p : Pkt} {s t : State} {v : Verdict} (hexec : exec c s = .next (State.carry op p s))
    (htakes : s.Takes op p) (hbody : op.body {} p s = v) (h : s.settle p v = t) : exec c s = .next t :=
  exec_of_eq hexec ((State.carry_of_takes htakes).trans ((congrArg _ hbody).trans h))

section
variable {c : Instr} {op : Op} {p : Pkt} {s t : State}
variable (hexec : exec c s = .next (State.carry op p s)) (htakes : s.Takes op p)
include hexec htakes

theorem exec_fail {st d : Half} (hbody : op.body {} p s = .fail st d) : exec c s = .next (s.reply p st d []) :=
  exec_takes hexec htakes hbody rfl

theorem exec_done {res : List Word} (hbody : op.body {} p s = .done res t) : exec c s = .next (t.finish p res) :=
  exec_takes hexec htakes hbody rfl

theorem exec_accept (hbody : op.body {} p s = .accept t) : exec c s = .next (t.reply p stAccepted 0 []) :=
  exec_takes hexec htakes hbody rfl

theorem exec_later (hbody : op.body {} p s = .later t) : exec c s = .next t :=
  exec_takes hexec htakes hbody rfl

end

/-- Settles O15. -/
theorem queriesAnswer : Obligations.QueriesAnswer := by
  unfold Obligations.QueriesAnswer
  exact fun p s => ⟨fun h => exec_takes rfl h rfl rfl, fun h => exec_takes rfl h rfl rfl, fun h => exec_takes rfl h rfl rfl,
    fun h => exec_takes rfl h rfl rfl, fun h => exec_takes rfl h rfl rfl⟩

namespace State
variable {s : State} {p : Pkt} {b : Block}

/-! ## RESET and BLOCK_QUIESCE -/

/-- A reset from upstream while the device above may not reset the part. -/
def Barred (s : State) (p : Pkt) : Prop := p.src = .upstream ∧ s.rst.upstreamEn = false

theorem barred_iff : s.Barred p ↔ (decide (p.src = .upstream) && !s.rst.upstreamEn) = true := by
  simp [Barred]

/-- The reset that a part reset of reach `r` leaves to assert: a cold one that waits keeps its cause, and cold wins over warm. -/
theorem resetPart_of_not_cold (r : Reach) (h : ∀ c, s.rst.pendingReset ≠ some (.cold, c)) : s.resetPart p r =
    .done [] { s with rst := { s.rst with pendingReset := some (r, if p.src = .upstream then 6 else 7) } } := by
  match hpending : s.rst.pendingReset with
  | none => simp [resetPart, hpending]
  | some (.cold, c) => exact absurd hpending (h c)
  | some (.warm, c) => cases r <;> simp [resetPart, hpending, widest]

theorem resetPart_of_cold (r : Reach) {c : Nat} (h : s.rst.pendingReset = some (.cold, c)) : s.resetPart p r =
    .done [] { s with rst := { s.rst with pendingReset := some (.cold, c) } } := by
  cases r <;> simp [resetPart, h, widest]

section
variable (hreach : p.fld 0 0 2 ≠ 2)
include hreach

theorem bodyReset_of_barred (hbarred : s.Barred p) : s.bodyReset {} p = .fail stDenied 0 :=
  (if_neg hreach).trans (if_pos (barred_iff.mp hbarred))

variable (hbarred : ¬ s.Barred p)
include hbarred

theorem bodyReset_of_bad_reach (h : p.fld 0 0 2 = 3 ∨ (p.fld 0 0 2 = 0 ∧ p.src = .upstream)) : s.bodyReset {} p = badParam 0 :=
  (if_neg hreach).trans ((if_neg ((not_congr barred_iff).mp hbarred)).trans (if_pos (by simpa using h)))

theorem bodyReset_of_part (h : p.fld 0 0 2 = 1 ∨ (p.fld 0 0 2 = 0 ∧ p.src ≠ .upstream)) :
    s.bodyReset {} p = s.resetPart p (if p.fld 0 0 2 = 0 then .cold else .warm) :=
  (if_neg hreach).trans ((if_neg ((not_congr barred_iff).mp hbarred)).trans (if_neg (by obtain h | ⟨h, hup⟩ := h <;> simp_all)))

end

section
variable (hreach : p.fld 0 0 2 = 2)
include hreach

theorem bodyReset_of_no_block (h : blockOf (p.fld 0 8 8) = none) :
    s.bodyReset {} p = if decide (p.src = .upstream) && !s.rst.upstreamEn then .fail stDenied 0 else badParam 0 := by
  simp only [bodyReset, if_pos hreach, h]

theorem bodyReset_of_block (h : blockOf (p.fld 0 8 8) = some b) : s.bodyReset {} p =
    if s.fusedOff b then .fail stBadTarget 0
    else if (decide (p.src = .upstream) && !s.rst.upstreamEn) || !s.blockFree b then .fail stDenied 0
    else .later (((s.blockReset (p.fld 0 8 8) b).finish p []).abortPending (p.fld 0 8 8)) := by
  simp only [bodyReset, if_pos hreach, h]

end

theorem quiesceDone_of_quiet {n : Nat} (hblock : blockOf n = some b) (hquiet : s.blockQuiet b = true) :
    s.quiesceDone n = (s.rst.quiesce.filter fun q => q.block == n).foldl (fun t q => t.finish q.pkt [])
          { s with rst := { s.rst with quiesce := s.rst.quiesce.filter fun q => q.block != n } } := by
  simp [quiesceDone, hblock, hquiet, runAll]

theorem quiesceDone_of_busy {n : Nat} (h : blockOf n = none ∨ (blockOf n = some b ∧ s.blockQuiet b = false)) : s.quiesceDone n = s := by
  obtain h | ⟨h, hquiet⟩ := h
  · simp [quiesceDone, h]
  · simp [quiesceDone, h, hquiet]

end State

/-- Settles O16. -/
theorem resetCommands : Obligations.ResetCommands := by
  unfold Obligations.ResetCommands
  intro p n b s barred reach remember
  refine ⟨fun h hreach => ⟨?barred, ?bad, ?part⟩, fun h hreach hnone => ?none, fun h hreach hsome => ?block, fun h hsome => ?quiesce, ?bad',
    fun hblock hquiet => exec_of_eq rfl (State.quiesceDone_of_quiet hblock hquiet),
    fun h => exec_of_eq rfl (State.quiesceDone_of_busy h)⟩
  case barred => exact fun hb => exec_fail rfl h (State.bodyReset_of_barred hreach hb)
  case bad => exact fun hb hbad => exec_fail rfl h (State.bodyReset_of_bad_reach hreach hb hbad)
  case part =>
    intro hb hpart asked
    have hbody := State.bodyReset_of_part (s := s) hreach hb hpart
    exact ⟨fun hcold => exec_takes rfl h (hbody.trans (State.resetPart_of_not_cold _ hcold)) rfl,
      fun c hcold => exec_takes rfl h (hbody.trans (State.resetPart_of_cold _ hcold)) rfl⟩
  case none =>
    have hbody := State.bodyReset_of_no_block (s := s) hreach hnone
    exact ⟨fun hb => exec_takes rfl h (hbody.trans (if_pos (State.barred_iff.mp hb))) rfl,
      fun hb => exec_takes rfl h (hbody.trans (if_neg ((not_congr State.barred_iff).mp hb))) rfl⟩
  case block =>
    have hbody := State.bodyReset_of_block (s := s) hreach hsome
    refine ⟨fun hoff => exec_takes rfl h (hbody.trans (if_pos hoff)) rfl, fun hoff hdenied => ?_, fun hoff hb hfree => ?_⟩
    · refine exec_takes rfl h (hbody.trans ((if_neg (by simp [hoff])).trans (if_pos ?_))) rfl
      exact Bool.or_eq_true_iff.mpr (hdenied.imp State.barred_iff.mp (by simp [·]))
    · refine exec_takes rfl h (hbody.trans ((if_neg (by simp [hoff])).trans (if_neg ?_))) rfl
      rw [hfree, Bool.not_true, Bool.or_false]
      exact (not_congr State.barred_iff).mp hb
  case quiesce =>
    exact ⟨fun hoff => exec_fail rfl h (by simp [opBlockQuiesce, State.bodyQuiesce, hsome, hoff]),
      fun hoff hfree => exec_fail rfl h (by simp [opBlockQuiesce, State.bodyQuiesce, hsome, hoff, hfree]),
      fun hoff hfree => exec_accept rfl h (by simp [opBlockQuiesce, State.bodyQuiesce, hsome, hoff, hfree])⟩
  case bad' => exact fun h hnone => exec_fail rfl h (by simp [opBlockQuiesce, State.bodyQuiesce, hnone, badParam])

/-- Settles O17. -/
theorem imageUpdates : Obligations.ImageUpdates := by
  unfold Obligations.ImageUpdates
  intro p q u s old
  refine ⟨fun h hmod hle => ⟨fun hidle => ?begin, fun (hold : s.boot.update = some u) hcommit => ?busy⟩, fun h hbad => ?range,
    fun (hold : s.boot.update = some u) her => ?erased, ?notErasing, fun h (hold : s.boot.update = some u) her => ?write,
    fun h (hold : s.boot.update = some u) her hwritten => ?commit, fun h (hold : s.boot.update = some u) hnot => ?early, ?noUpdate,
    fun h (hold : s.boot.update = none) => ?noCommit, fun (hold : s.boot.update = some u) hcommit => ?done, ?notDone⟩
  case begin =>
    refine exec_later rfl h ?_
    match hold : s.boot.update with
    | none => simp [opImageUpdateBegin, State.bodyUpdateBegin, old, hold, hmod, Nat.not_lt.mpr hle, State.emit]
    | some u => simp [opImageUpdateBegin, State.bodyUpdateBegin, old, hold, hmod, Nat.not_lt.mpr hle, hidle u hold, State.emit]
  case busy =>
    have hsome := Option.isSome_iff_ne_none.mpr hcommit
    exact exec_fail rfl h (by simp [opImageUpdateBegin, State.bodyUpdateBegin, hold, hmod, Nat.not_lt.mpr hle, hsome])
  case range => exact exec_fail rfl h (if_pos hbad)
  case erased => exact exec_of_eq rfl (by simp [State.eraseDone, hold, her, runAll])
  case notErasing =>
    rintro (hold | ⟨hold, her⟩)
    · exact exec_of_eq rfl (by simp [State.eraseDone, show s.boot.update = none from hold])
    · exact exec_of_eq rfl (by simp [State.eraseDone, show s.boot.update = some u from hold, her])
  case write =>
    refine ⟨fun hne => exec_fail rfl h ?_, fun heq hbad => exec_fail rfl h ?_, fun heq hmod hle hroom => exec_done rfl h ?_⟩
    · simp [opImageUpdateWrite, State.bodyUpdateWrite, hold, her, hne, badParam]
    · simp [opImageUpdateWrite, State.bodyUpdateWrite, hold, her, heq, hbad, badParam]
    · simp [opImageUpdateWrite, State.bodyUpdateWrite, hold, her, heq, hmod, Nat.not_lt.mpr hle, Nat.not_lt.mpr hroom]
  case commit =>
    refine ⟨fun hcommit => exec_fail rfl h ?_, fun hcommit hauth => exec_accept rfl h ?_, fun hcommit hauth => exec_fail rfl h ?_⟩
    · simp [opImageUpdateCommit, State.bodyUpdateCommit, hold, her, hwritten, Option.isSome_iff_ne_none.mpr hcommit]
    · simp [opImageUpdateCommit, State.bodyUpdateCommit, hold, her, hwritten, hcommit, hauth]
    · simp [opImageUpdateCommit, State.bodyUpdateCommit, hold, her, hwritten, hcommit, hauth, badParamAll]
  case early => exact exec_fail rfl h (by obtain hnot | hnot := hnot <;> simp [opImageUpdateCommit, State.bodyUpdateCommit, hold, hnot])
  case noUpdate =>
    rintro h (hold | ⟨hold, her⟩)
    · exact exec_fail rfl h (by simp [opImageUpdateWrite, State.bodyUpdateWrite, show s.boot.update = none from hold])
    · exact exec_fail rfl h (by simp [opImageUpdateWrite, State.bodyUpdateWrite, show s.boot.update = some u from hold, her])
  case noCommit => exact exec_fail rfl h (by simp [opImageUpdateCommit, State.bodyUpdateCommit, hold])
  case done => exact exec_of_eq rfl (by simp only [State.commitDone, hold, hcommit]; rfl)
  case notDone =>
    rintro (hold | ⟨hold, hcommit⟩)
    · exact exec_of_eq rfl (by simp [State.commitDone, show s.boot.update = none from hold])
    · exact exec_of_eq rfl (by simp [State.commitDone, show s.boot.update = some u from hold, hcommit])

end Sys2Proof.Machine
end

section
/-! Commands of an axis: its states, its parameter sets, its motion (03 R97-R100; 04 R105-R110; 10 R280-R299). -/
namespace Sys2Proof.Machine
namespace State
variable {s : State} {p : Pkt}

/-! ## AXIS_CONFIGURE, ENABLE, DISABLE, CLEAR_FAULT -/

/-- The node or the local port that an AXIS_CONFIGURE binds is there. -/
def bindsPresent (s : State) (p : Pkt) : Prop :=
  (field (p.w 1) 31 1 = 1 ∧ field ((s.lport (field (p.w 1) 0 4)).cfg.getD 0 0).toNat 0 2 ≠ 0)
    ∨ (field (p.w 1) 31 1 = 0 ∧ (s.node (field (p.w 1) 0 10)).used = true)

theorem field_one_eq_zero_of_ne_one {n i : Nat} (h : field n i 1 ≠ 1) : field n i 1 = 0 := by
  have hlt : field n i 1 < 2 := Nat.mod_lt _ (by decide)
  omega

theorem bodyAxisConfigure_of_no_unit (h : (field (p.w 1) 31 1 = 1 ∧ s.nLocal ≤ field (p.w 1) 0 4)
      ∨ (field (p.w 1) 31 1 = 0 ∧ s.nNodes ≤ field (p.w 1) 0 10)) : s.bodyAxisConfigure {} p = .fail stBadTarget 0 :=
  if_pos (h.imp_right fun ⟨h, hle⟩ => ⟨by simp [h], hle⟩)

section
variable (hlocal : field (p.w 1) 31 1 = 1 → field (p.w 1) 0 4 < s.nLocal) (hnode : field (p.w 1) 31 1 = 0 → field (p.w 1) 0 10 < s.nNodes)
include hlocal hnode

theorem bodyAxisConfigure_of_unit : s.bodyAxisConfigure {} p =
    if (s.axis p.unit).state ≠ .disabled then .fail stDenied 0
    else if (if field (p.w 1) 31 1 = 1 then field ((s.lport (field (p.w 1) 0 4)).cfg.getD 0 0).toNat 0 2 == 0
      else !(s.node (field (p.w 1) 0 10)).used) then .fail stNotReady 0
    else
      match s.configFault p with
      | some w => badParam w
      | none => .done [] ((s.modAxis p.unit fun a => {
          setA := a.setA, setB := a.setB, hdr := s.configHdr p a.hdr, prof := configProf a.prof (p.w 6) }).setAState p.unit .ready 0x0100) := by
  refine (if_neg ?_).trans rfl
  rintro (⟨h, hle⟩ | ⟨h, hle⟩)
  · exact absurd (hlocal h) (Nat.not_lt.mpr hle)
  · exact absurd (hnode (field_one_eq_zero_of_ne_one h)) (Nat.not_lt.mpr hle)

theorem bodyAxisConfigure_of_state (h : (s.axis p.unit).state ≠ .disabled) : s.bodyAxisConfigure {} p = .fail stDenied 0 :=
  (bodyAxisConfigure_of_unit hlocal hnode).trans (if_pos h)

variable (hstate : (s.axis p.unit).state = .disabled)
include hstate

theorem bodyAxisConfigure_of_absent (h : ¬ s.bindsPresent p) : s.bodyAxisConfigure {} p = .fail stNotReady 0 := by
  refine (bodyAxisConfigure_of_unit hlocal hnode).trans ((if_neg (not_not_intro hstate)).trans (if_pos ?_))
  by_cases hloc : field (p.w 1) 31 1 = 1
  · simpa [bindsPresent, hloc] using h
  · simpa [bindsPresent, hloc, field_one_eq_zero_of_ne_one hloc] using h

theorem bodyAxisConfigure_of_present (h : s.bindsPresent p) : s.bodyAxisConfigure {} p =
    match s.configFault p with
    | some w => badParam w
    | none => .done [] ((s.modAxis p.unit fun a => {
        setA := a.setA, setB := a.setB, hdr := s.configHdr p a.hdr, prof := configProf a.prof (p.w 6) }).setAState p.unit .ready 0x0100) := by
  refine (bodyAxisConfigure_of_unit hlocal hnode).trans ((if_neg (not_not_intro hstate)).trans (if_neg ?_))
  obtain ⟨hloc, hfunc⟩ | ⟨hloc, hused⟩ := h
  · simpa [hloc] using hfunc
  · simp [hloc, hused]

end

end State

/-- Settles O18. -/
theorem axisStates : Obligations.AxisStates := by
  unfold Obligations.AxisStates
  intro p s i a port node there
  refine ⟨fun h hno => exec_fail rfl h (State.bodyAxisConfigure_of_no_unit hno), fun h hlocal hnode => ?configure, fun h => ?enable, fun h => ?disable,
    fun h => ?clear⟩
  case configure =>
    refine ⟨fun hstate => exec_fail rfl h (State.bodyAxisConfigure_of_state hlocal hnode hstate),
      fun hstate habsent => exec_fail rfl h (State.bodyAxisConfigure_of_absent hlocal hnode hstate habsent),
      fun w hstate hthere hw => exec_fail rfl h ((State.bodyAxisConfigure_of_present hlocal hnode hstate hthere).trans (by rw [hw]; rfl)),
      fun hstate hthere hok => exec_done rfl h ((State.bodyAxisConfigure_of_present hlocal hnode hstate hthere).trans (by rw [hok]))⟩
  case enable => exact ⟨fun hstate => exec_done rfl h (if_neg (not_not_intro hstate)), fun hstate => exec_fail rfl h (if_pos hstate)⟩
  case disable =>
    refine ⟨fun hstate => exec_done rfl h ?_, fun hstate => exec_done rfl h ?_, fun hramp hnot hnot' => exec_done rfl h ?_,
      fun hramp hstate => exec_done rfl h ?_, fun hramp hstate => exec_fail rfl h ?_⟩
    · simp [opAxisDisable, State.bodyAxisDisable, show (s.axis p.unit).state = _ from hstate]
    · simp [opAxisDisable, State.bodyAxisDisable, show (s.axis p.unit).state = _ from hstate, i]
    · cases hstate : (s.axis p.unit).state <;> simp_all [opAxisDisable, State.bodyAxisDisable, a, i]
    · simp [opAxisDisable, State.bodyAxisDisable, show (s.axis p.unit).state = _ from hstate, hramp, a, i]
    · obtain hstate | hstate := hstate <;>
        simp [opAxisDisable, State.bodyAxisDisable, show (s.axis p.unit).state = _ from hstate, hramp]
  case clear =>
    refine ⟨fun hnot => exec_fail rfl h (if_pos hnot), fun hstate hclear hkeep => exec_done rfl h ?_,
      fun hstate hclear hkeep hact => exec_done rfl h ?_⟩
    · refine (if_neg ?_).trans (if_neg (by simp [hkeep]))
      simp [show (s.axis p.unit).state = _ from hstate, show s.conditionPresent p.unit = _ from hclear, hkeep]
    · refine (if_neg ?_).trans ((if_pos hkeep).trans (congrArg (fun t => Verdict.done [] (State.cmdState t p.unit .enabled 0x0103))
        (modAxis_modAxis ..)))
      simp [show (s.axis p.unit).state = _ from hstate, show s.conditionPresent p.unit = _ from hclear, hkeep,
        show (s.axis p.unit).action = _ from hact]

/-- Settles O19. -/
theorem parameterSets : Obligations.ParameterSets := by
  unfold Obligations.ParameterSets
  intro p s a inForce axes
  have hforce : inForce ↔ ((p.fld 0 0 1 = 1 : Bool) == a.hdr.activeSet) = true := beq_iff_eq.symm
  refine ⟨fun h hden => ?denied, fun h hpending hidle => ?write, fun h hbad => ?target, fun h hthere hpend => ?pending, fun h hfree => ?switch, rfl⟩
  case denied =>
    refine exec_fail rfl h ?_
    by_cases hpend : a.hdr.switchPending = true
    · exact if_pos hpend
    · obtain ⟨hin, hdis, hready⟩ := hden.resolve_left hpend
      refine (if_neg hpend).trans (if_pos (Bool.and_eq_true_iff.mpr ⟨hforce.mp hin, ?_⟩))
      cases hstate : a.state <;> simp_all [a]
  case write =>
    have hbody : (opParamsetWrite.body {} p s : Verdict) =
        if p.w 1 % 4 ≠ 0 ∨ p.w 1 + p.w 2 > 0x7FC then badParam 1
        else if p.w 2 = 0 ∨ p.w 2 > 2044 then badParam 2
        else
          match badData (p.w 1) 3 (p.words.drop 3) with
          | some i => badParam i
          | none => if (p.fld 0 0 1 = 1 : Bool) == a.hdr.activeSet then .later (s.enqueueDx 0x0104 p (s.dxDue {})) else .done [] (s.putSet p) := by
      refine (if_neg (by simp [show (s.axis p.unit).hdr.switchPending = _ from hpending])).trans ((if_neg ?_).trans rfl)
      rw [Bool.and_eq_true_iff]
      rintro ⟨hin, hstate⟩
      obtain hs | hs := hidle (hforce.mpr hin) <;> simp [show (s.axis p.unit).state = _ from hs] at hstate
    refine ⟨fun hbad => exec_fail rfl h (hbody.trans (if_pos hbad)), fun hmod hle hzero => exec_fail rfl h (hbody.trans ?_), fun hmod hpos hle => ?_⟩
    · exact (if_neg (by omega)).trans (if_pos (.inl hzero))
    · replace hbody := hbody.trans ((if_neg (by omega)).trans (if_neg (by omega)))
      refine ⟨fun i hi => exec_fail rfl h (hbody.trans (by rw [hi]; rfl)), fun hok => ⟨fun hin => exec_done rfl h (hbody.trans ?_),
        fun hin => exec_later rfl h (hbody.trans ?_)⟩⟩
      · rw [hok]
        exact if_neg ((not_congr hforce).mp hin)
      · rw [hok]
        exact if_pos (hforce.mp hin)
  case target => exact exec_fail rfl h (if_pos (by simpa [axes] using hbad))
  case pending =>
    refine exec_fail rfl h ((if_neg ?_).trans (if_pos (by simpa [axes] using hpend)))
    simpa [axes] using hthere
  case switch =>
    have hbody : opParamsetSwitchAt.body {} p s =
        if axes.isEmpty then badParam 4
        else if s.lateCycle {} (p.w64 0) then .fail stLate 0
        else if s.cmdsFull then .fail stBusy 0
        else .accept ((axes.foldl (fun t j => t.modAxis j fun a => { a with hdr := { a.hdr with
          switchPending := true, switchTo := p.fld 2 0 1 == 1, switchCycle := BitVec.ofNat 64 (p.w64 0) } }) s).enqueueCmd 0x0105 p (p.w64 0)) := by
      refine (if_neg ?_).trans ((if_neg ?_).trans rfl)
      · simpa using fun j hj => (hfree j hj).1
      · simpa using fun j hj => (hfree j hj).2
    refine ⟨fun hnone => exec_fail rfl h (hbody.trans (if_pos (by simp [hnone]))), fun hsome hlate => exec_fail rfl h (hbody.trans ?_),
      fun hsome htime hfull => exec_fail rfl h (hbody.trans ?_), fun hsome htime hroom => exec_accept rfl h (hbody.trans ?_)⟩
    all_goals refine (if_neg (by simpa using hsome)).trans ?_
    · exact if_pos (by simpa [State.lateCycle] using hlate)
    · exact (if_neg (by simpa [State.lateCycle] using htime)).trans (if_pos (by simpa [State.cmdsFull] using hfull))
    · exact (if_neg (by simpa [State.lateCycle] using htime)).trans (if_neg (by simpa [State.cmdsFull] using hroom))

namespace State
variable {s : State} {p : Pkt}

theorem lateCycle_iff {n : Nat} : s.lateCycle {} n = true ↔ n < s.k + 2 := by simp [lateCycle]

theorem startCycle_of_now (h : p.fld 0 16 1 = 0) : s.startCycle p = none := if_neg (by simp [h])

theorem startCycle_of_at (h : p.fld 0 16 1 = 1) : s.startCycle p = some (s.extend (BitVec.ofNat 32 (p.w 1))) := if_pos h

theorem takesMove_iff {a : Axis} : takesMove a = true ↔
    a.state = .enabled ∧ (a.prof.state = .idle ∨ a.prof.state = .move ∨ a.prof.state = .velocity) := by
  cases hprof : a.prof.state <;> simp [takesMove, hprof]

/-- The verdict on a legal command with a start cycle: it waits for D_X, or it is stored for its cycle. -/
def atStart (s : State) (p : Pkt) (code : Half) (store : Nat → State) : Verdict :=
  match s.startCycle p with
  | some cyc => if s.lateCycle {} cyc then .fail stLate 0 else .done [] (store cyc)
  | none => .later (s.enqueueDx code p (s.dxDue {}))

/-- A MOVE stored for its cycle. -/
def storeMove (s : State) (p : Pkt) (cyc : Nat) : State :=
  s.modAxis p.unit fun a => { a with prof := { a.prof with pendMove := some (cyc, movePar p) } }

/-- A GEAR_SET stored for its cycle. -/
def storeGear (s : State) (p : Pkt) (cyc : Nat) : State :=
  s.modAxis p.unit fun a => { a with prof := { a.prof with pendGear := some (cyc, p.fld 0 0 2, gearPar p, p.w 8) } }

theorem startCycle_cases {c : Instr} {op : Op} (hexec : exec c s = .next (carry op p s)) (h : s.Takes op p) {code : Half} {store : Nat → State}
    (hbody : op.body {} p s = s.atStart p code store) :
    (p.fld 0 16 1 = 0 → exec c s = .next (s.enqueueDx code p (s.dxDue {})))
    ∧ (p.fld 0 16 1 = 1 → s.extend (BitVec.ofNat 32 (p.w 1)) < s.k + 2 → exec c s = .next (s.reply p stLate 0 []))
    ∧ (p.fld 0 16 1 = 1 → s.k + 2 ≤ s.extend (BitVec.ofNat 32 (p.w 1)) →
      exec c s = .next ((store (s.extend (BitVec.ofNat 32 (p.w 1)))).finish p [])) := by
  refine ⟨fun hnow => exec_later hexec h (hbody.trans ?_), fun hat hlate => exec_fail hexec h (hbody.trans ?_),
    fun hat htime => exec_done hexec h (hbody.trans ?_)⟩
  · rw [atStart, startCycle_of_now hnow]
  · rw [atStart, startCycle_of_at hat]
    exact if_pos (lateCycle_iff.mpr hlate)
  · rw [atStart, startCycle_of_at hat]
    exact if_neg ((not_congr lateCycle_iff).mpr (Nat.not_lt.mpr htime))

end State

/-- Settles O20. -/
theorem motionCommands : Obligations.MotionCommands := by
  unfold Obligations.MotionCommands
  intro p s a
  refine ⟨fun h => ⟨fun hden => ?denied, fun hstate hprof => ?move⟩, fun h => ?stop⟩
  case denied =>
    refine exec_fail rfl h (if_pos ?_)
    rw [Bool.not_eq_true', ← Bool.not_eq_true, State.takesMove_iff]
    rintro ⟨hstate, hprof | hprof | hprof⟩ <;> simp_all [a]
  case move =>
    have htakes : ¬ (!State.takesMove a) = true := by simp [State.takesMove_iff.mpr ⟨hstate, hprof⟩]
    have hbody : opMove.body {} p s = match State.moveFault a (State.movePar p) with
        | some i => badParam i
        | none => s.atStart p 0x0400 (s.storeMove p) := (if_neg htakes).trans rfl
    have hlegal (hok : State.moveFault a (State.movePar p) = none) :=
      State.startCycle_cases (c := .move p) rfl h (hbody.trans (by rw [hok]))
    exact ⟨fun i hi => exec_fail rfl h (hbody.trans (by rw [hi]; rfl)), fun hok => (hlegal hok).1, fun hok => (hlegal hok).2.1,
      fun hok => (hlegal hok).2.2⟩
  case stop =>
    refine ⟨fun hstate => exec_fail rfl h (if_pos hstate), fun hstate hkind => exec_fail rfl h ((if_neg (not_not_intro hstate)).trans (if_pos hkind)),
      fun hstate hkind hzero => exec_fail rfl h ?_, fun hstate hkind hdec => exec_later rfl h ?_⟩
    · exact (if_neg (not_not_intro hstate)).trans ((if_neg (by omega)).trans (if_pos ⟨hkind, hzero⟩))
    · exact (if_neg (not_not_intro hstate)).trans ((if_neg hkind).trans (if_neg fun hbad => hdec hbad.1 hbad.2))

namespace State
variable {s : State} {p : Pkt}

/-- The checks of GEAR_SET before its master's: its mode, and that the axis may be geared. -/
theorem bodyGearSet_of_free (htarget : p.fld 0 0 2 = 0 ∨ p.fld 2 0 8 < s.nAxes)
    (hfree : (s.axis p.unit).state = .enabled ∧ (s.axis p.unit).prof.state ≠ .homing ∧ (s.axis p.unit).prof.state ≠ .ramp) :
    s.bodyGearSet {} p =
      if p.fld 0 0 2 = 3 then badParam 0
      else if p.fld 0 0 2 ≠ 0 ∧ (p.fld 2 0 8 = p.unit ∨ (s.slotOf (p.fld 2 0 8)).isNone ∨ s.chainReaches p.unit 256 (p.fld 2 0 8) = true) then
        badParam 2
      else if p.fld 0 0 2 ≠ 0 ∧ p.w 4 = 0 then badParam 4
      else s.atStart p 0x0404 (s.storeGear p) := by
  refine (if_neg ?_).trans ((if_neg ?_).trans rfl)
  · exact fun ⟨hmode, hle⟩ => htarget.elim hmode (Nat.not_lt.mpr hle)
  · obtain ⟨hstate, hhoming, hramp⟩ := hfree
    exact fun hbad => hbad.elim (· hstate) (·.elim hhoming hramp)

end State

/-- Settles O21. -/
theorem motionSettings : Obligations.MotionSettings := by
  unfold Obligations.MotionSettings
  intro p s a
  refine ⟨fun h hmode hden => ?homeDenied, fun h hmay => ?home, fun h => ?compare, fun h => ?gear, fun h => exec_done rfl h rfl⟩
  case homeDenied => exact exec_fail rfl h (if_pos ⟨by simp [hmode], hden⟩)
  case home =>
    have hmay' : ¬ ((!decide (p.fld 0 8 1 = 1)) = true ∧ State.takesMove (s.axis p.unit) = false) := by
      rintro ⟨hmode, hden⟩
      obtain h | h := hmay
      · simp [h] at hmode
      · exact absurd (hden.symm.trans h) (by decide)
    refine ⟨fun i hi => exec_fail rfl h ((if_neg hmay').trans (by rw [hi]; rfl)), fun hok hmode => exec_later rfl h ((if_neg hmay').trans ?_),
      fun hok hmode => exec_done rfl h ((if_neg hmay').trans ?_)⟩
    · rw [hok]
      exact if_neg (by simp [hmode])
    · rw [hok]
      exact if_pos hmode
  case compare =>
    intro pin slot
    refine ⟨fun hno => exec_fail rfl h (if_pos hno), fun hport hnode => ?_⟩
    have htarget : ¬ ((pin ∧ p.fld 1 0 4 ≥ s.nLocal) ∨ (slot ∧ p.fld 1 16 10 ≥ s.nNodes)) := by
      rintro (⟨hp, hle⟩ | ⟨hs, hle⟩)
      · exact absurd (hport hp) (Nat.not_lt.mpr hle)
      · exact absurd (hnode hs) (Nat.not_lt.mpr hle)
    refine ⟨fun hbad => exec_fail rfl h ((if_neg htarget).trans ?_), fun hpin hslot => exec_later rfl h ((if_neg htarget).trans ?_)⟩
    · by_cases hp : pin ∧ p.fld 6 16 16 = 0
      · exact if_pos hp
      · exact (if_neg hp).trans (if_pos (hbad.resolve_left hp))
    · exact (if_neg fun hbad => hpin hbad.1 hbad.2).trans (if_neg fun hbad => hbad.2 (hslot hbad.1))
  case gear =>
    intro mode master free fits
    refine ⟨fun hmode hle => exec_fail rfl h (if_pos ⟨hmode, hle⟩), fun htarget => ?_⟩
    have hfits : fits ↔ ¬ (master = p.unit ∨ (s.slotOf master).isNone = true ∨ s.chainReaches p.unit 256 master = true) := by
      simp [fits]
    refine ⟨fun hden => exec_fail rfl h ?_, fun hfree hmode => exec_fail rfl h ?_, fun hfree hmode hnot => exec_fail rfl h ?_,
      fun hfree hmode hfit hden => exec_fail rfl h ?_, fun hfree hok => State.startCycle_cases (c := .gearSet p) rfl h (store := s.storeGear p) ?_⟩
    · refine (if_neg ?_).trans (if_pos ?_)
      · exact fun ⟨hmode, hle⟩ => htarget.elim hmode (Nat.not_lt.mpr hle)
      · simpa [free, Classical.or_iff_not_imp_left] using hden
    all_goals refine (State.bodyGearSet_of_free htarget hfree).trans ?_
    · exact if_pos hmode
    · exact (if_neg (by omega)).trans (if_pos ⟨by omega, Classical.not_not.mp ((not_congr hfits).mp hnot)⟩)
    · exact (if_neg (by omega)).trans ((if_neg (hfits.mp hfit ·.2)).trans (if_pos ⟨by omega, hden⟩))
    · refine (if_neg (by omega)).trans ((if_neg ?_).trans (if_neg ?_))
      · exact fun hbad => hok.elim hbad.1 fun ⟨_, hfit, _⟩ => hfits.mp hfit hbad.2
      · exact fun hbad => hok.elim hbad.1 fun ⟨_, _, hden⟩ => hden hbad.2

end Sys2Proof.Machine
end

section
/-! Commands of the time base, of acquisition and of the Eddy cores (06 R183-R201; 07 R232; 09 R255-R267; 12 R343-R362). -/
namespace Sys2Proof.Machine

theorem not_and_of_imp_lt {a : Prop} {m n : Nat} (h : a → m < n) : ¬ (a ∧ m ≥ n) := fun hbad => absurd (h hbad.1) (Nat.not_lt.mpr hbad.2)

/-- Settles O23. -/
theorem timeCommands : Obligations.TimeCommands := by
  unfold Obligations.TimeCommands
  intro p s
  refine ⟨fun h => ?configure, fun h => ?select, fun h hscope => exec_fail rfl h (if_pos hscope), fun h hscope => ?snapshot,
    fun h hrange => exec_fail rfl h (if_pos hrange), fun h hpos hle => exec_done rfl h (if_neg (by omega))⟩
  case configure =>
    intro set role time put
    refine ⟨fun hset hsteps => exec_fail rfl h (if_pos ⟨hset, hsteps⟩), fun hsteps => ?_⟩
    have hfree : ¬ (set ∧ s.maySteps = false) := fun ⟨hset, hno⟩ => absurd (hno.symm.trans (hsteps hset)) (by decide)
    refine ⟨fun hslew => exec_fail rfl h ((if_neg hfree).trans (if_pos hslew)), fun hlo hhi hset hns => exec_fail rfl h ?_, fun hlo hhi hns => ?_⟩
    · exact (if_neg hfree).trans ((if_neg (by omega)).trans (if_pos ⟨hset, hns⟩))
    · refine ⟨fun i hi => exec_fail rfl h ?_, fun i hp hi => exec_fail rfl h ?_, fun hp hs => exec_done rfl h ?_⟩
      all_goals refine (if_neg hfree).trans ((if_neg (by omega)).trans ((if_neg (not_and_of_imp_lt hns)).trans ?_))
      · rw [hi]; rfl
      · rw [hp, hi]; rfl
      · rw [hp, hs]
  case select =>
    intro sel d t
    refine ⟨fun hsel hlocked hdark => exec_fail rfl h (if_pos ⟨hsel, hlocked, hdark⟩), fun hsel => exec_fail rfl h ?_, fun hsel hmay => ?_⟩
    · exact (if_neg fun hbad => by omega).trans (if_pos hsel)
    · have hfree : ¬ (sel < 2 ∧ (s.domain d).state ≠ .locked ∧ s.allDark = false) := by
        rintro ⟨hlt, hlocked, hdark⟩
        exact (hmay hlt).elim hlocked (by simp [hdark])
      refine ⟨fun hhold => exec_done rfl h ?_, fun hhold hlocked => exec_done rfl h ?_, fun hhold hlocked => exec_done rfl h ?_⟩
      all_goals refine (if_neg hfree).trans ((if_neg (by omega)).trans ?_)
      · exact if_neg (by simp [hhold])
      · exact (if_pos hhold).trans (if_pos hlocked)
      · exact (if_pos hhold).trans (if_neg hlocked)
  case snapshot =>
    refine ⟨fun hlate => exec_fail rfl h ((if_neg hscope).trans (if_pos ⟨rfl, hlate⟩)), fun htime hbusy => exec_fail rfl h ?_,
      fun htime hid hroom => exec_accept rfl h ?_⟩
    all_goals refine (if_neg hscope).trans ((if_neg fun hbad => absurd hbad.2 (Nat.not_lt.mpr htime)).trans ?_)
    · exact if_pos (by simpa [State.cmdsFull] using hbusy)
    · exact if_neg (not_or_intro hid (by simpa [State.cmdsFull] using hroom))

/-- Settles O24. -/
theorem acquisitionCommands : Obligations.AcquisitionCommands := by
  unfold Obligations.AcquisitionCommands
  intro p r s a
  refine ⟨fun h hidle hdone => exec_fail rfl h (if_pos ⟨hidle, hdone⟩), fun h hstate => ?configure, fun h => ?arm, fun h hnone => ?missing,
    fun h hfind => ?range, fun h hfind hoff hlen hle => ?read⟩
  case configure =>
    have hfree : ¬ (a.state ≠ .idle ∧ a.state ≠ .done) := fun hbad => hstate.elim hbad.1 hbad.2
    refine ⟨fun hpart hok => exec_done rfl h ((if_neg hfree).trans ?_), fun hpart hok => exec_done rfl h ((if_neg hfree).trans ?_),
      fun hpart hok => exec_done rfl h ((if_neg hfree).trans ?_), ?_, fun hpart => exec_fail rfl h ((if_neg hfree).trans ?_)⟩
    · simp only [acqPart, hpart, hok, a]
    · simp only [acqPart, hpart, hok, a]
    · have hnone : [0, 1, 2, 3].findSome? (condFault p) = none := by simp [hok]
      simp only [acqPart, hpart, hnone, a]
    · rintro i (⟨hpart, hi⟩ | ⟨hpart, hi⟩ | ⟨hpart, hi⟩)
      all_goals refine exec_fail rfl h ((if_neg hfree).trans ?_)
      all_goals simp only [acqPart, hpart, hi, badParam]
    · simp only [acqPart, hpart]
      rfl
  case arm =>
    refine ⟨fun hmode hok => exec_later rfl h ?_, fun st d hmode hfault => exec_fail rfl h ?_, fun hmode => exec_done rfl h ?_,
      fun hmode => exec_done rfl h ?_, fun hmode => exec_fail rfl h ?_⟩
    · simp only [opAcqArm, acqArmBody, hmode, hok]
    · simp only [opAcqArm, acqArmBody, hmode, hfault]
    · simp only [opAcqArm, acqArmBody, hmode]
    · simp only [opAcqArm, acqArmBody, hmode]
    · simp only [opAcqArm, acqArmBody, hmode]
      rfl
  case missing =>
    refine ⟨?_, fun hno => exec_fail rfl h ?_⟩
    · rintro ⟨x, hcur, hnum⟩
      exact exec_fail rfl h (by simp [opAcqRead, acqReadBody, hnone, show s.acq.cur = _ from hcur, hnum])
    · cases hcur : s.acq.cur with
      | none => simp [opAcqRead, acqReadBody, hnone, hcur, badParam]
      | some x => simp [opAcqRead, acqReadBody, hnone, hcur, hno x hcur, badParam]
  case range =>
    refine ⟨fun hbad => exec_fail rfl h ?_, fun hoff hle hbad => exec_fail rfl h ?_, fun hoff hlen hle hrel hring => exec_fail rfl h ?_⟩
    all_goals simp only [opAcqRead, acqReadBody, hfind]
    · exact if_pos hbad
    · exact (if_neg (by omega)).trans (if_pos hbad)
    · exact (if_neg (by omega)).trans ((if_neg (by omega)).trans (if_pos ⟨hrel, Option.isSome_iff_ne_none.mpr hring⟩))
  case read =>
    have hnum : r.num = p.w 0 := by simpa using List.find?_some hfind
    refine ⟨fun hrel => exec_done rfl h ?_, fun hrel hring => exec_done rfl h ?_⟩
    all_goals simp only [opAcqRead, acqReadBody, hfind]
    · refine (if_neg (by omega)).trans ((if_neg (by omega)).trans ((if_neg (by omega)).trans ?_))
      rw [if_neg (by omega)]
    · refine (if_neg (by omega)).trans ((if_neg (by omega)).trans ((if_neg (by simp [hring])).trans ?_))
      rw [if_pos hrel, hnum]

/-- A core takes an image while it is parked for the host, or faulted, and runs no task. -/
theorem loadDenied_iff {x : Core} : (!((x.state == .parked && x.hostPark) || x.state == .faulted) || x.flow.isSome) = true
    ↔ ¬ (((x.state = .parked ∧ x.hostPark = true) ∨ x.state = .faulted) ∧ x.flow = none) := by
  cases hflow : x.flow
  · simp only [Option.isSome_none, Bool.or_false, Bool.not_eq_true', and_true, ← Bool.not_eq_true, Bool.or_eq_true, Bool.and_eq_true, beq_iff_eq]
  · simp

/-- Settles O25. -/
theorem eddyCommands : Obligations.EddyCommands := by
  unfold Obligations.EddyCommands
  intro p s x f
  refine ⟨fun h hparked hflow hfirst hmem hroom hlen hcrc => ?load, fun h hden => ?loadDenied, fun h hparked hflow => ?loadRefused,
    fun h hdepth => ?delete, fun h hlo hhi hevent hmask hcores hmin hmax hphase hidle => ?create, fun h hdepth => ?createRefused, fun h => ?post,
    fun h => ?park⟩
  case load =>
    refine exec_done rfl h ((if_neg fun h => loadDenied_iff.mp h ⟨hparked, hflow⟩).trans ((if_neg ?_).trans ((if_neg hmem).trans ((if_neg (by omega)).trans
      ((if_neg hlen).trans (if_neg ?_))))))
    · obtain hfirst | hloading := hfirst
      · simp [hfirst]
      · simpa using fun _ => hloading
    · simpa using hcrc
  case loadDenied =>
    refine exec_fail rfl h (if_pos (loadDenied_iff.mpr ?_))
    rintro ⟨⟨hstate, hhost⟩ | hstate, hflow⟩ <;> simp_all [x]
  case loadRefused =>
    have hmay := fun h => loadDenied_iff.mp h ⟨hparked, hflow⟩
    refine ⟨fun hfirst hloading => exec_fail rfl h ((if_neg hmay).trans (if_pos ?_)), fun hfirst => ?_⟩
    · simpa [hfirst, x] using hloading
    · have hbegun : ¬ (!loadIsFirst p && x.loading.isNone) = true := by
        obtain hfirst | hloading := hfirst
        · simp [hfirst]
        · simpa using fun _ => hloading
      refine ⟨fun hmem => exec_fail rfl h ?_, fun hmem hroom => exec_fail rfl h ?_, fun hmem hroom hlen => exec_fail rfl h ?_,
        fun hmem hroom hlen hlast hcrc => exec_fail rfl h ?_⟩
      all_goals refine (if_neg hmay).trans ((if_neg hbegun).trans ?_)
      · exact if_pos hmem
      · exact (if_neg hmem).trans (if_pos hroom)
      · exact (if_neg hmem).trans ((if_neg (by omega)).trans (if_pos hlen))
      · exact (if_neg hmem).trans ((if_neg (by omega)).trans ((if_neg hlen).trans (if_pos (by simpa [hlast] using hcrc))))
  case delete =>
    refine ⟨fun hexist => exec_done rfl h ((if_pos hdepth).trans (if_pos (by simp [show (s.flow p.unit).exist = _ from hexist]))),
      fun hexist hactive => exec_fail rfl h ((if_pos hdepth).trans ((if_neg (by simp [show (s.flow p.unit).exist = _ from hexist])).trans (if_pos hactive))),
      fun hexist hactive => exec_done rfl h ((if_pos hdepth).trans ((if_neg (by simp [show (s.flow p.unit).exist = _ from hexist])).trans
        (if_neg (Bool.eq_false_iff.mp hactive))))⟩
  case create =>
    have hfree : ¬ (f.exist && f.active) = true := by simpa using hidle
    refine ⟨fun hfits => exec_done rfl h ?_, fun hfull => exec_fail rfl h ?_⟩
    all_goals refine (if_neg (by omega)).trans ((if_neg (by omega)).trans ((if_neg hfree).trans ((if_neg (by omega)).trans
      ((if_neg hmask).trans ((if_neg (by omega)).trans ((if_neg (by omega)).trans ?_))))))
    · exact if_neg (Nat.not_lt.mpr hfits)
    · exact if_pos hfull
  case createRefused =>
    refine ⟨fun hcores => exec_fail rfl h ((if_neg hdepth).trans (if_pos hcores)), fun hcores hexist hactive => exec_fail rfl h ?_,
      fun hcores hidle => ?_⟩
    · exact (if_neg hdepth).trans ((if_neg (by omega)).trans (if_pos (Bool.and_eq_true_iff.mpr ⟨hexist, hactive⟩)))
    · have hfree : ¬ (f.exist && f.active) = true := by simpa using hidle
      refine ⟨fun hbad => exec_fail rfl h ?_, fun hle hevent => ⟨fun hmask => exec_fail rfl h ?_, fun hmask hbad => exec_fail rfl h ?_,
        fun hmask hmin hmax hbad => exec_fail rfl h ?_⟩⟩
      all_goals refine (if_neg hdepth).trans ((if_neg (by omega)).trans ((if_neg hfree).trans ?_))
      · exact if_pos hbad
      · exact (if_neg (by omega)).trans (if_pos hmask)
      · exact (if_neg (by omega)).trans ((if_neg hmask).trans (if_pos hbad))
      · exact (if_neg (by omega)).trans ((if_neg hmask).trans ((if_neg (by omega)).trans (if_pos hbad)))
  case post =>
    refine ⟨fun hexist => exec_fail rfl h ?_, fun hexist hroom => exec_done rfl h ?_, fun hexist hroom => exec_later rfl h ?_⟩
    all_goals simp [opTaskPost, taskPostBody, show (s.flow p.unit).exist = _ from hexist, *]
  case park =>
    refine ⟨fun hpark => exec_done rfl h (if_pos hpark), fun hrelease hbad => exec_fail rfl h ((if_neg (by omega)).trans (if_pos ?_)),
      fun hrelease hvalid hstate => exec_done rfl h ((if_neg (by omega)).trans (if_neg ?_))⟩
    · simpa [x] using hbad
    · simpa [x] using ⟨hvalid, hstate⟩

end Sys2Proof.Machine
end

section
/-! Commands of the twin, the governor, the store and the local ports (09 R274; 11 R330, R338, R339; 13 R381, R384; 14 R401-R410). -/
namespace Sys2Proof.Machine

theorem updAt_id {α : Type} : ∀ (l : List α) (i : Nat), updAt l i (fun a => a) = l
  | [], _ => rfl
  | _ :: _, 0 => rfl
  | a :: t, i + 1 => congrArg (a :: ·) (updAt_id t i)

namespace State
variable {s : State} {p : Pkt} {role : Nat}

/-! ## TWIN_CONFIGURE (R384) -/

/-- The settings that a legal TWIN_CONFIGURE stores. -/
def twinSettings (s : State) (p : Pkt) : State :=
  { s with twn := { s.twn with autoResync := p.fld 0 4 1 == 1, takeover := p.fld 0 8 4, resyncMs := p.fld 2 0 16 } }

/-- What a legal TWIN_CONFIGURE makes of a head with these settings. -/
def takeRole (s : State) (role : Nat) : Verdict :=
  match role with
  | 0 => .done [] (State.setTwin { s.twinLinksDown with twn := { s.twinLinksDown.twn with
      phase := 0, entry := none, noDispatch := false, claims := [], promoted := false, missing := 0 } } .single 0)
  | 3 => .done [] (State.goAlone { s with twn := { s.twn with phase := 0, entry := none, promoted := false, claims := [], missing := 0 } } 0)
  | _ =>
    let s : State := { s with twn := { s.twn with sideB := role == 2 } }
    match s.twn.state with
    | .single | .isolated | .outOfStep => .done [] (s.pairUp (role == 2))
    | _ => .done [] s

theorem takeRole_of_pair (hrole : role = 1 ∨ role = 2) (hstate : s.twn.state = .single ∨ s.twn.state = .isolated ∨ s.twn.state = .outOfStep) :
    s.takeRole role = .done [] (State.pairUp { s with twn := { s.twn with sideB := role == 2 } } (role == 2)) := by
  obtain rfl | rfl := hrole <;> obtain hstate | hstate | hstate := hstate <;> simp only [takeRole, hstate]

theorem takeRole_of_paired (hrole : role = 1 ∨ role = 2) (hsingle : s.twn.state ≠ .single) (hisolated : s.twn.state ≠ .isolated)
    (hout : s.twn.state ≠ .outOfStep) : s.takeRole role = .done [] { s with twn := { s.twn with sideB := role == 2 } } := by
  obtain rfl | rfl := hrole <;> cases hstate : s.twn.state <;> simp_all [takeRole]

end State

/-- Settles O27. -/
theorem localPortCommands : Obligations.LocalPortCommands := by
  unfold Obligations.LocalPortCommands
  intro p s captured
  refine ⟨fun h => ?configure, fun h => ⟨fun hpresent => exec_fail rfl h (if_pos hpresent),
    fun hclear => exec_done rfl h (if_neg (Bool.eq_false_iff.mp hclear))⟩⟩
  intro axis emu inUse words
  have hinUse : inUse ↔ ((match s.axisOf p.unit with | some i => decide ((s.axis i).state ≠ .disabled) | none => false) || captured) = true := by
    cases hof : s.axisOf p.unit <;> simp [inUse, hof]
  refine ⟨fun hax hbusy => exec_fail rfl h (if_pos ⟨hax, hinUse.mp hbusy⟩), fun i (hax : p.fld 0 0 1 = 1) hfree hi => exec_fail rfl h ?_,
    fun i hax (hem : p.fld 0 1 1 = 1) hi => exec_fail rfl h ?_, fun hax hem => ?_⟩
  · exact (if_neg fun hbad => hfree (hinUse.mpr hbad.2)).trans (by simp [hax, hi, badParam])
  · refine (if_neg fun hbad => (hax hbad.1).1 (hinUse.mpr hbad.2)).trans ?_
    have hok : (if p.fld 0 0 1 = 1 then axisGroupFault s.tmb.tc p else none) = none := by
      split
      · exact (hax ‹_›).2
      · rfl
    simp [hok, hem, hi, badParam]
  · refine ⟨fun (hax' : p.fld 0 0 1 = 1) (hem' : p.fld 0 1 1 = 1) => exec_done rfl h ?_,
      fun (hax' : p.fld 0 0 1 = 1) (hem' : ¬ p.fld 0 1 1 = 1) => exec_done rfl h ?_,
      fun (hax' : ¬ p.fld 0 0 1 = 1) (hem' : p.fld 0 1 1 = 1) => exec_done rfl h ?_,
      fun (hax' : ¬ p.fld 0 0 1 = 1) (hem' : ¬ p.fld 0 1 1 = 1) => exec_done rfl h ?_⟩
    all_goals refine (if_neg fun hbad => (hax hbad.1).1 (hinUse.mpr hbad.2)).trans ?_
    · simp [hax', hem', (hax hax').2, hem hem', words]
    · simp [hax', hem', (hax hax').2]
    · simp [hax', hem', hem hem', words]
    · simp [hax', hem', State.modLPort, updAt_id]

/-- Settles O26. -/
theorem plantCommands : Obligations.PlantCommands := by
  unfold Obligations.PlantCommands
  intro p r s
  refine ⟨fun h => ?twin, fun h => ?yield, fun h => ?budget, fun h => ?storeRefused, fun h hen hbase hmin hmax hrun => ?storeOff,
    fun h hen hbase hmin hmax hrun => ?storeOn, fun h => ?storeNow, fun h hnone => exec_fail rfl h (by simp [opStoreRead, State.bodyStoreRead, hnone]),
    fun h hread => ?storeRead⟩
  case twin =>
    intro role base peer pairing barred known bad0 bad1 bad2 other t u
    have hrole : role < 4 := Nat.mod_lt _ (by decide)
    refine ⟨fun hbarred => exec_fail rfl h (if_pos hbarred), fun hpair hpeer => exec_fail rfl h ?_, fun hknown hbad => exec_fail rfl h ?_,
      fun hknown h0 hbad => exec_fail rfl h ?_, fun hknown h0 h1 hbad => exec_fail rfl h ?_, fun hknown h0 h1 h2 hbad => exec_fail rfl h ?_,
      fun hknown h0 h1 h2 h3 => ?_⟩
    · exact (if_neg fun hbad => absurd (hpeer.symm.trans hbad.2.1) (by decide)).trans (if_pos ⟨hpair, hpeer⟩)
    · exact (if_neg hknown.1).trans ((if_neg fun hno => absurd (hno.2.symm.trans (hknown.2 hno.1)) (by decide)).trans (if_pos hbad))
    · exact (if_neg hknown.1).trans ((if_neg fun hno => absurd (hno.2.symm.trans (hknown.2 hno.1)) (by decide)).trans
        ((if_neg h0).trans (if_pos hbad)))
    · exact (if_neg hknown.1).trans ((if_neg fun hno => absurd (hno.2.symm.trans (hknown.2 hno.1)) (by decide)).trans
        ((if_neg h0).trans ((if_neg h1).trans (if_pos hbad))))
    · exact (if_neg hknown.1).trans ((if_neg fun hno => absurd (hno.2.symm.trans (hknown.2 hno.1)) (by decide)).trans
        ((if_neg h0).trans ((if_neg h1).trans ((if_neg h2).trans (if_pos hbad)))))
    · have hbody : opTwinConfigure.body {} p s = State.takeRole (s.twinSettings p) role :=
        (if_neg hknown.1).trans ((if_neg fun hno => absurd (hno.2.symm.trans (hknown.2 hno.1)) (by decide)).trans
          ((if_neg h0).trans ((if_neg h1).trans ((if_neg h2).trans ((if_neg h3).trans rfl)))))
      exact ⟨fun hr => exec_done rfl h (hbody.trans (by rw [hr]; rfl)), fun hr => exec_done rfl h (hbody.trans (by rw [hr]; rfl)),
        fun hpair hstate => exec_done rfl h (hbody.trans (State.takeRole_of_pair hpair hstate)),
        fun hpair hsingle hisolated hout => exec_done rfl h (hbody.trans (State.takeRole_of_paired hpair hsingle hisolated hout))⟩
  case yield =>
    refine ⟨fun hden => exec_fail rfl h (if_pos hden), fun hstate hhealthy hlate => exec_fail rfl h ?_,
      fun hstate hhealthy htime hbusy => exec_fail rfl h ?_, fun hstate hhealthy htime hroom hnone => exec_accept rfl h ?_⟩
    all_goals refine (if_neg (by simp [hstate, hhealthy])).trans ?_
    · exact if_pos (State.lateCycle_iff.mpr hlate)
    · refine (if_neg ((not_congr State.lateCycle_iff).mpr (Nat.not_lt.mpr htime))).trans (if_pos ?_)
      simpa [State.cmdsFull, Option.isSome_iff_ne_none] using hbusy
    · refine (if_neg ((not_congr State.lateCycle_iff).mpr (Nat.not_lt.mpr htime))).trans (if_neg ?_)
      simpa [State.cmdsFull, hnone] using hroom
  case budget =>
    intro cap ceil
    exact ⟨fun hcap hcap' hceil hceil' => exec_done rfl h (if_neg (by omega)), fun hbad => exec_fail rfl h (if_pos hbad)⟩
  case storeRefused =>
    refine ⟨fun hbase => exec_fail rfl h (if_pos hbase), fun hbase hclock => exec_fail rfl h ((if_neg (by omega)).trans (if_pos hclock)),
      fun hbase hmin hmax hrun => exec_fail rfl h ((if_neg (by omega)).trans ((if_neg (by omega)).trans (if_pos ?_)))⟩
    exact Option.isSome_iff_ne_none.mpr hrun
  case storeOff =>
    have hen' : (p.fld 0 0 1 == 1) = false := by simp [hen]
    refine exec_done rfl h ((if_neg (by omega)).trans ((if_neg (by omega)).trans ((if_neg (by simp [hrun])).trans ?_)))
    simp only [hen']
    rfl
  case storeOn =>
    intro x
    have hen' : (p.fld 0 0 1 == 1) = true := by simp [hen]
    refine ⟨fun rate hrate => exec_done rfl h ?_, fun hnone => exec_takes (v := .refuse stNotReady 0 _) rfl h ?_ rfl⟩
    all_goals refine (if_neg (by omega)).trans ((if_neg (by omega)).trans ((if_neg (by simp [hrun])).trans ?_))
    · simp only [hen', hrate]
      rfl
    · simp only [hen', hnone]
      rfl
  case storeNow =>
    refine ⟨fun hoff => exec_fail rfl h (if_pos (by simp [hoff])), fun hen hbad => exec_fail rfl h ((if_neg (by simp [hen])).trans (if_pos hbad)),
      fun hen htier hrun => exec_accept rfl h ?_, fun hen htier hrun => exec_fail rfl h ?_⟩
    all_goals refine (if_neg (by simp [hen])).trans ((if_neg (by omega)).trans ?_)
    · exact if_neg (by simp [hrun])
    · exact if_pos (Option.isSome_iff_ne_none.mpr hrun)
  case storeRead =>
    intro size
    have hbody : opStoreRead.body {} p s =
        if p.w 1 % 4 ≠ 0 ∨ p.w 1 > size then badParam 1
        else if p.w 2 % 4 ≠ 0 ∨ p.w 1 + p.w 2 > size then badParam 2
        else if r.axes ≠ s.nAxes then badParamAll
        else if p.fld 0 8 1 = 1 then
          let l := (mapI (fun i e => (i, e)) r.positions).filter fun x => (s.axis x.1).state == .ready && x.2.valid
          .done [BitVec.ofNat 32 l.length] (runAll State.applyStored l s)
        else .done ((r.image.drop (p.w 1 / 4)).take (p.w 2 / 4)) (if p.fld 0 1 1 = 1 then (s.free 64).2 else s) := by
      simp only [opStoreRead, State.bodyStoreRead, hread, size]
    refine ⟨fun hbad => exec_fail rfl h (hbody.trans (if_pos hbad)), fun hmod hle hbad => exec_fail rfl h (hbody.trans ?_), fun hmod hmod' hle => ?_⟩
    · exact (if_neg (by omega)).trans (if_pos hbad)
    · replace hbody := hbody.trans ((if_neg (by omega)).trans (if_neg (by omega)))
      exact ⟨fun haxes => exec_fail rfl h (hbody.trans (if_pos haxes)),
        fun haxes happly => exec_done rfl h (hbody.trans ((if_neg (not_not_intro haxes)).trans (if_pos happly))),
        fun haxes hread => exec_done rfl h (hbody.trans ((if_neg (not_not_intro haxes)).trans (if_neg (by omega))))⟩

end Sys2Proof.Machine
end

section
/-! The instants of a cycle, supervision and records of an axis, changes of the plan (01 R10-R30; 03 R92-R96; 04 R112-R123). -/
namespace Sys2Proof.Machine

/-- Two changes of one element are the same when they agree on that element. -/
theorem updAt_congr {α : Type} {f g : α → α} (d : α) : ∀ {l : List α} {i : Nat}, f (l.getD i d) = g (l.getD i d) → updAt l i f = updAt l i g
  | [], _, _ => rfl
  | _ :: t, 0, h => congrArg (· :: t) h
  | a :: _, _ + 1, h => congrArg (a :: ·) (updAt_congr d h)

namespace State
variable {s : State} {i n l pipe done : Nat}

theorem modAxis_congr {f g : Axis → Axis} (h : f (s.axis i) = g (s.axis i)) : s.modAxis i f = s.modAxis i g :=
  congrArg (fun l => { s with axes := l }) (updAt_congr {} h)

theorem modAxis_id : s.modAxis i (fun a => a) = s := by simp [modAxis, updAt_id]

/-- A change that leaves an axis as it is leaves the state as it is. -/
theorem modAxis_of_fixed {f : Axis → Axis} (h : f (s.axis i) = s.axis i) : s.modAxis i f = s :=
  (modAxis_congr (g := fun a => a) h).trans modAxis_id

theorem running_iff : s.running = true ↔ s.rst.phase = .running := by simp [running]

/-! ## The sample instant, D_U and D_X -/

theorem full_of_view {t : State} (h : s.view = t.view) : s.full = t.full :=
  congrArg (fun v : View => decide (v.code = 0x2561)) h

theorem nLocal_of_view {t : State} (h : s.view = t.view) : s.nLocal = t.nLocal := by rw [nLocal, nLocal, full_of_view h]

theorem nAxes_of_view {t : State} (h : s.view = t.view) : s.nAxes = t.nAxes := by rw [nAxes, nAxes, full_of_view h]

/-- The cycle begins: lattices, axes, ports and nodes begin anew. -/
def begun (s : State) : State := { s with
  net := { s.net with ports := mapI s.portBegins s.net.ports, nodes := s.net.nodes.map s.nodeBegins }
  axes := s.axes.map (axisBegins s.k)
  lpe := { s.lpe with lats := s.lpe.lats.map latBegins } }

theorem begun_view : s.begun.view = s.view := rfl

theorem cycleSample_of_running (h : s.running = true) (ins : List PortIn) : s.cycleSample ins =
    (runAll (fun n t => emuRefPath n (emuCycle n (stepFree n (latchPort ins n t)))) (List.range s.nLocal)
      (runAll (fun i t => t.freezeHistory i) (List.range s.nAxes) s.begun)).emuAll := by
  have hlocal : (runAll (fun i t => t.freezeHistory i) (List.range s.nAxes) s.begun).nLocal = s.nLocal :=
    nLocal_of_view ((runAll_view _ (fun i t => freezeHistory_view t i) _ _).trans begun_view)
  rw [← hlocal]
  exact if_neg (by simp [h])

/-- The lattices that have not started by D_U start then. -/
def startLate (s : State) : State :=
  runAll (fun l t => if (t.lpe.lats.getD l {}).started then t else t.startLattice l) (List.range s.nLats) s

theorem startLate_view : s.startLate.view = s.view := runAll_view _ (fun l t => by split <;> simp) _ _

/-- The slots of the line cycle are judged. -/
def judged (s : State) : State := { s with net := { s.net with nodes := mapI s.judgeNode s.net.nodes } }

theorem duDeadline_of_running (h : s.running = true) : s.duDeadline =
    (runAll emuFbPath (List.range s.nLocal) (runAll feedbackMiss (List.range s.nAxes) s.judged.startLate)).emuAll := by
  have hlate : s.judged.startLate.view = s.view := startLate_view.trans rfl
  have haxes : s.judged.startLate.nAxes = s.nAxes := nAxes_of_view hlate
  have hlocal : (runAll feedbackMiss (List.range s.nAxes) s.judged.startLate).nLocal = s.nLocal :=
    nLocal_of_view ((runAll_view _ (fun i t => by simp) _ _).trans hlate)
  rw [← hlocal, ← haxes]
  exact if_neg (by simp [h])

/-! ## Supervision of an axis -/

theorem followingError_acts {b : Bool} (hstate : (s.axis i).state = .enabled ∨ (s.axis i).state = .stopping ∨ (s.axis i).state = .fault)
    (hlimit : (s.axis i).hdr.feLimit ≠ 0) (htimer : (s.axis i).cnt.feTimer ≠ 0) (htime : (s.axis i).hdr.feTime ≤ (s.axis i).cnt.feTimer.toNat) :
    s.followingError i b = s.faultCause i 1 b := by
  refine if_pos ?_
  obtain h | h | h := hstate <;> simpa [h, hlimit, htime] using htimer

theorem followingError_rests {b : Bool} (h : (s.axis i).state = .disabled ∨ (s.axis i).state = .ready ∨ (s.axis i).hdr.feLimit = 0
      ∨ (s.axis i).cnt.feTimer = 0 ∨ (s.axis i).cnt.feTimer.toNat < (s.axis i).hdr.feTime) : s.followingError i b = s := by
  refine if_neg ?_
  obtain h | h | h | h | h := h
  · simp [h]
  · simp [h]
  · simp [h]
  · simp [h]
  · simp [Nat.not_le.mpr h]

theorem nodeLost_acts (hused : (s.node n).used = true) (hlost : (s.node n).lost = false) (hgrace : (s.node n).graceEnd = none)
    (hrun : (s.mport (s.node n).port.toNat).linkLoss.toNat ≤ (s.node n).invalidRun) (hline : s.lineComputes (s.node n).port.toNat = true) :
    s.nodeLost n = (s.modNode n fun y => { y with lost := true }).eventNodeLost n 0 :=
  if_pos (by simp [hused, hlost, hgrace, hrun, hline])

theorem nodeLost_rests (h : (s.node n).used = false ∨ (s.node n).lost = true ∨ (s.node n).graceEnd ≠ none
      ∨ (s.node n).invalidRun < (s.mport (s.node n).port.toNat).linkLoss.toNat ∨ s.lineComputes (s.node n).port.toNat = false) : s.nodeLost n = s := by
  refine if_neg ?_
  obtain h | h | h | h | h := h
  · simp [h]
  · simp [h]
  · simp [h]
  · simp [Nat.not_le.mpr h]
  · simp [h]

theorem freezeHistory_stops {c stop : Nat} (hfreeze : (s.axis i).cnt.freezeLeft = some (c, some stop)) (hstop : stop ≤ (s.axis i).cnt.histLast.toNat) :
    s.freezeHistory i = s.modAxis i fun _ => { s.axis i with
      cnt := { (s.axis i).cnt with frozen := true, histFreeze := BitVec.ofNat 64 c, freezeLeft := none } } :=
  modAxis_congr (by simp [hfreeze, hstop])

theorem freezeHistory_rests (h : ∀ c stop, (s.axis i).cnt.freezeLeft = some (c, some stop) → (s.axis i).cnt.histLast.toNat < stop) :
    s.freezeHistory i = s := by
  refine modAxis_of_fixed ?_
  match hfreeze : (s.axis i).cnt.freezeLeft with
  | none => rfl
  | some (c, none) => rfl
  | some (c, some stop) => exact if_neg (Nat.not_le.mpr (h c stop hfreeze))

end State

/-- Settles O28. -/
theorem cycleInstants : Obligations.CycleInstants := by
  unfold Obligations.CycleInstants
  intro ins l pipe done pos i r f s
  refine ⟨fun hrun => ?sample, fun hl hstarted hready => exec_of_eq rfl (if_pos ⟨hl, hstarted, List.all_eq_true.mpr hready⟩),
    fun h => exec_of_eq rfl (if_neg ?lattice), fun hrun => ?du, fun hl hpipe hstarted hdone hnext => exec_of_eq rfl ?compute,
    fun h => exec_of_eq rfl ?idle, fun hrun => ?dx, fun hrun => ?asleep⟩
  case sample => exact exec_of_eq rfl (State.cycleSample_of_running (State.running_iff.mpr hrun) ins)
  case lattice =>
    rintro ⟨hl, hstarted, _⟩
    exact h.elim (Nat.not_le.mpr hl) fun h => Bool.false_ne_true (hstarted.symm.trans h)
  case du => exact exec_of_eq rfl (State.duDeadline_of_running (State.running_iff.mpr hrun))
  case compute =>
    refine (if_pos ⟨hl, hpipe, hstarted, hdone⟩).trans ?_
    rw [hnext]
  case idle =>
    rw [Classical.or_iff_not_imp_left, Classical.or_iff_not_imp_left] at h
    by_cases hgo : l < s.nLats ∧ pipe < 4 ∧ (s.lpe.lats.getD l {}).started = true ∧ done ≤ s.dX
    · obtain ⟨hl, hpipe, hstarted, hdone⟩ := hgo
      have hnext := ((h (Nat.not_le.mpr hl) (Nat.not_le.mpr hpipe)).resolve_left fun h => Bool.false_ne_true (h.symm.trans hstarted)).resolve_left (Nat.not_lt.mpr hdone)
      refine (if_pos ⟨hl, hpipe, hstarted, hdone⟩).trans ?_
      rw [hnext]
    · exact if_neg hgo
  case dx => exact exec_of_eq rfl (if_neg (by simp [State.running_iff.mpr hrun]))
  case asleep =>
    have hrun' : (!s.running) = true := by simpa using (not_congr State.running_iff).mpr hrun
    exact ⟨exec_of_eq (t := s.cycleSample ins) rfl (if_pos hrun'), exec_of_eq (t := s.duDeadline) rfl (if_pos hrun'),
      exec_of_eq (t := s.dxDeadline) rfl (if_pos hrun')⟩

/-- Settles O29. -/
theorem axisSupervision : Obligations.AxisSupervision := by
  unfold Obligations.AxisSupervision
  intro i s a m
  refine ⟨fun hstate hlimit htimer htime => exec_of_eq rfl (State.followingError_acts hstate hlimit htimer htime),
    fun h => exec_of_eq rfl (State.followingError_rests h), fun hlimit => exec_of_eq rfl (if_pos hlimit), fun hlimit => exec_of_eq rfl (if_neg hlimit),
    fun hstate hstill => exec_of_eq rfl (if_pos ⟨hstate, hstill⟩), fun h => exec_of_eq rfl (if_neg ?_),
    fun hstate hne htime => exec_of_eq rfl (if_pos ⟨hstate, hne, htime⟩), fun h => exec_of_eq rfl (if_neg ?_),
    fun hused hlost hgrace hrun hline => exec_of_eq rfl (State.nodeLost_acts hused hlost hgrace hrun hline),
    fun h => exec_of_eq rfl (State.nodeLost_rests h), fun c stop hfreeze hstop _ => exec_of_eq rfl (State.freezeHistory_stops hfreeze hstop),
    fun h => exec_of_eq rfl (State.freezeHistory_rests h)⟩
  · rintro ⟨hstate, hstill⟩
    exact h.elim (· hstate) (Nat.not_lt.mpr hstill)
  · rintro ⟨hstate, hne, htime⟩
    exact h.elim (· hstate) (·.elim hne (Nat.not_lt.mpr htime))

/-- Settles O30. -/
theorem axisRecordWrites : Obligations.AxisRecordWrites := by
  unfold Obligations.AxisRecordWrites
  intro i slot off eddy v s owner
  have howner : owner ↔ State.ownsSlot eddy slot = true := by cases eddy <;> simp [owner, State.ownsSlot]
  have hwrite (hi : i < s.nAxes) (ho : owner) (o : Nat) : s.writeMbx eddy i slot o v =
      s.modAxis i fun a => { a with mbx := updAt a.mbx slot fun m => State.MbxSlot.put m o v } :=
    if_pos (by simp [howner.mp ho, hi])
  have hignored (h : s.nAxes ≤ i ∨ ¬ owner) (o : Nat) : s.writeMbx eddy i slot o v = s := by
    refine if_neg ?_
    obtain h | h := h
    · simp [Nat.not_lt.mpr h]
    · simp [(not_congr howner).mp h]
  have hword (h : off < 28) : exec (.mailboxSlotWrite eddy i slot off v) s = .next (s.writeMbx eddy i slot off v) := exec_of_eq rfl (if_pos h)
  refine ⟨rfl, rfl, rfl, fun hi ho hlo hhi => exec_of_eq ((hword hhi).trans (congrArg _ (hwrite hi ho off))) ?_,
    fun hi ho hoff => exec_of_eq ((hword (by omega)).trans (congrArg _ (hwrite hi ho off))) ?_,
    fun hi ho hlo hhi => exec_of_eq ((hword (by omega)).trans (congrArg _ (hwrite hi ho off))) ?_, fun hi ho => exec_of_eq rfl (hwrite hi ho 28),
    fun h => ⟨exec_of_eq rfl ?_, exec_of_eq rfl (hignored h 28)⟩, fun h => exec_of_eq rfl (if_neg (Nat.not_lt.mpr h))⟩
  · simp only [State.MbxSlot.put, show ¬ off / 4 = 0 by omega, show ¬ off / 4 = 1 by omega, show off / 4 < 7 by omega, if_true, if_false]
  · simp only [State.MbxSlot.put, show off / 4 = 0 by omega, if_true]
  · simp only [State.MbxSlot.put, show off / 4 = 1 by omega, if_true, Nat.one_ne_zero, if_false]
  · rw [hignored h off, ite_self]

/-- Settles O31. -/
theorem planChanges : Obligations.PlanChanges := by
  unfold Obligations.PlanChanges
  intro x g s
  refine ⟨fun hx hg => ?_, fun h => ?_, fun h => exec_of_eq rfl (if_pos h), fun h => exec_of_eq rfl (if_neg (Nat.not_le.mpr h))⟩
  · intro left anew fresh
    refine ⟨fun h => exec_of_eq rfl ?_, fun htime hsame => exec_of_eq rfl ?_, fun hchange htime => exec_of_eq rfl ?_, fun h => exec_of_eq rfl ?_⟩
    · simp only [State.generationActivate, hx, hg]
      exact if_pos h
    · simp only [State.generationActivate, hx, hg]
      exact if_neg (by simp [hsame, Nat.not_lt.mpr htime])
    · simp only [State.periodChange, hx, hg]
      exact (if_pos ⟨hchange, htime⟩).trans rfl
    · simp only [State.periodChange, hx, hg]
      refine if_neg ?_
      rintro ⟨hchange, htime⟩
      exact h.elim (by simp [hchange]) (Nat.not_lt.mpr htime)
  · have hnone : s.generationActivate = s ∧ s.periodChange = s := by
      obtain h | h := h
      · simp only [State.generationActivate, State.periodChange, h, and_self]
      · cases hx : s.cmds.find? (fun y => y.opcode == 0x0202) <;> simp only [State.generationActivate, State.periodChange, h, hx, and_self]
    exact ⟨exec_of_eq rfl hnone.1, exec_of_eq rfl hnone.2⟩

end Sys2Proof.Machine
end

section
/-! Frames, walks, probes and joins of a line (01 R12-R30; 05 R125-R160; 13 R385). -/
namespace Sys2Proof.Machine

/-- Settles O32. -/
theorem lineTraffic : Obligations.LineTraffic := by
  unfold Obligations.LineTraffic
  intro f g l port atNs cycle ok looped dir duplex auto segs s counted
  refine ⟨fun h => exec_of_eq rfl ?noPlan, fun h => exec_of_eq rfl ?departs, fun hport hfcs => exec_of_eq rfl ?badF, fun hport hfcs => ?arrives,
    fun hport => exec_of_eq rfl (if_pos hport), fun hport => ⟨exec_of_eq rfl (if_pos hport), exec_of_eq rfl (if_pos hport), exec_of_eq rfl (if_pos hport),
    exec_of_eq rfl (if_pos hport)⟩, fun hport hline => exec_of_eq rfl ?noLine, fun hport => exec_of_eq rfl ?badC, fun hport hline => ?returns,
    fun hport => exec_of_eq rfl ?badS, fun hport => exec_of_eq rfl ?segments, fun h => exec_of_eq rfl (if_pos h),
    fun h => exec_of_eq rfl (if_neg (Nat.not_le.mpr h)), fun hport => exec_of_eq rfl (if_neg (Nat.not_le.mpr hport)), fun hport => ?linkUp⟩
  case noPlan => simp only [State.fDepartures, h]
  case departs =>
    simp only [State.fDepartures, h]
    rfl
  case badF => exact (if_neg (Nat.not_le.mpr hport)).trans ((if_pos (by simp [hfcs])).trans (modMPort_modMPort ..))
  case arrives =>
    intro old since limit t
    have hd : (!decide old && s.drifted f) = true ↔ ¬ old ∧ s.drifted f = true := by simp
    have hbody : s.fArrival f = if (decide old || decide (since > limit)) = true then
          ((t.setStat f.port 2).modMPort f.port fun p => { p with lateCount := satInc p.lateCount }).overPlan f.port false since limit (s.extend f.cycle)
        else (runAll (State.takeSlot f.dir) f.slots (t.modMPort f.port fun p => { p with fSeen := true })).noteLoop f := by
      have ht : t = s.modMPort f.port fun p => { p with
          fArrive := BitVec.ofNat 18 since, driftRun := if (!decide old && s.drifted f) = true then p.driftRun + 1 else 0 } := by simp only [t, hd]
      rw [ht]
      exact (if_neg (Nat.not_le.mpr hport)).trans ((if_neg (by simp [hfcs])).trans rfl)
    refine ⟨fun hnew htime => exec_of_eq rfl (hbody.trans (if_neg ?_)), fun hlate => exec_of_eq rfl (hbody.trans (if_pos ?_))⟩
    · simpa using ⟨hnew, htime⟩
    · simpa using hlate
  case noLine => exact (if_neg (Nat.not_le.mpr hport)).trans (by simp [hline])
  case badC => exact (if_neg (Nat.not_le.mpr hport)).trans (modMPort_modMPort ..)
  case returns =>
    refine exec_of_eq rfl ((if_neg (Nat.not_le.mpr hport)).trans ?_)
    rw [hline]
    rfl
  case badS => exact (if_neg (Nat.not_le.mpr hport)).trans (modMPort_modMPort ..)
  case segments => exact (if_neg (Nat.not_le.mpr hport)).trans rfl
  case linkUp =>
    intro barred meets
    refine ⟨fun hbar => exec_of_eq rfl ((if_neg (Nat.not_le.mpr hport)).trans (if_pos hbar)), fun hbar hmeets => exec_of_eq rfl ?_, fun hbar hmeets => exec_of_eq rfl ?_⟩
    · exact (if_neg (Nat.not_le.mpr hport)).trans ((if_neg hbar).trans (if_pos (by simpa [meets] using hmeets)))
    · exact (if_neg (Nat.not_le.mpr hport)).trans ((if_neg hbar).trans (if_neg (by simpa [meets] using hmeets)))

/-- Settles O33. -/
theorem lineWalks : Obligations.LineWalks := by
  unfold Obligations.LineWalks
  intro port a d base n far looped w x ids st recs closed s free
  refine ⟨fun hwalk => ⟨exec_of_eq rfl ?_, exec_of_eq rfl ?_⟩, fun hwalk => ?walk, fun hwalk => ?timeout, fun hwalk => ?handover, fun hwalk => ?passOn, ?acks, rfl,
    fun hprobe => exec_of_eq rfl ?_, fun hprobe => ?probe, fun hstate hjoin htime => exec_of_eq rfl (if_pos ⟨hstate, hjoin, htime⟩),
    fun h => exec_of_eq rfl (if_neg ?_), fun hmail => exec_of_eq rfl ?_, fun hmail => ?mailbox⟩
  case refine_1 => simp only [State.walkReturn, hwalk]
  case refine_2 => simp only [State.walkTimeout, hwalk]
  case refine_3 => simp only [State.probeReturn, hprobe]
  case refine_4 =>
    rintro ⟨hstate, hjoin, htime⟩
    exact h.elim (· hstate) (·.elim (by simp [hjoin]) (Nat.not_lt.mpr htime))
  case refine_5 => simp only [State.mailboxTimeout, hmail]
  case walk =>
    intro heard fault
    have hheard : (w.assigning || !(w.sent || w.forPartner) || recs.isEmpty || (far && w.topo == 0)) = true ↔ ¬ heard := by
      simp only [heard, Bool.or_eq_true, Bool.not_eq_true', Bool.and_eq_true, beq_iff_eq, List.isEmpty_iff]
      rw [← Bool.not_eq_true, Bool.or_eq_true, ← Bool.not_eq_true w.assigning]
      grind only
    have hbody : s.walkReturn port far looped a d recs = if w.assigning || !(w.sent || w.forPartner) || recs.isEmpty || (far && w.topo == 0) then s
        else match fault with
          | some (st, e) => s.walkFail port st e
          | none => s.walkCommit port w looped a d free ((s.assignIndices free [] recs).getD []) := by
      simp only [State.walkReturn, hwalk]
      rfl
    refine ⟨fun hno => exec_of_eq rfl (hbody.trans (if_pos (hheard.mpr hno))), fun e detail hyes hfault => exec_of_eq rfl ?_,
      fun hyes hfault => exec_of_eq rfl ?_⟩
    · refine hbody.trans ((if_neg fun h => hheard.mp h hyes).trans ?_)
      rw [hfault]
      simp only [State.walkFail, hwalk]
    · refine hbody.trans ((if_neg fun h => hheard.mp h hyes).trans ?_)
      rw [hfault]
  case timeout =>
    refine ⟨fun h => exec_of_eq rfl ?_, fun hassign hsent hlast => exec_of_eq rfl ?_, fun hassign hsent hmore => exec_of_eq rfl ?_⟩
    · obtain h | h := h <;> simp [State.walkTimeout, hwalk, h]
    · simp [State.walkTimeout, State.walkFail, hwalk, hassign, hsent, hlast]
    · simp [State.walkTimeout, hwalk, hassign, hsent, Nat.not_le.mpr hmore]
  case handover =>
    refine ⟨fun hpartner => exec_of_eq rfl ?_, fun hpartner => exec_of_eq rfl ?_⟩
    · simp only [State.dHandover, hwalk, if_pos hpartner]
    · simp only [State.dHandover, hwalk, if_neg (Bool.eq_false_iff.mp hpartner)]
  case passOn => exact ⟨fun hpair => exec_of_eq rfl (by simp [State.dHandover, hwalk, hpair]), fun hsingle => exec_of_eq rfl (by simp [State.dHandover, hwalk, hsingle])⟩
  case acks =>
    intro acked t
    have hbody : exec (.assignAck port ids) s = .next (match (t.mport port).walk with
      | none => t
      | some w =>
        if !w.assigning then t
        else if (w.awaiting.filter fun id => !ids.contains id).isEmpty then (t.linkPorts port w).finish w.pkt (State.walkResult w)
        else t.modMPort port fun x => { x with walk := some { w with awaiting := w.awaiting.filter fun id => !ids.contains id } }) := rfl
    refine ⟨fun hwalk => exec_of_eq hbody ?_, fun hwalk hassign => exec_of_eq hbody ?_, fun hwalk hassign => ?_⟩
    · simp only [hwalk]
    · simp only [hwalk]
      exact if_pos (by simp [hassign])
    · intro left
      refine ⟨fun hleft => exec_of_eq hbody ?_, fun hleft => exec_of_eq hbody ?_⟩
      all_goals simp only [hwalk]
      · exact (if_neg (by simp [hassign])).trans (if_pos (List.isEmpty_iff.mpr hleft))
      · exact (if_neg (by simp [hassign])).trans (if_neg ((not_congr List.isEmpty_iff).mpr hleft))
  case probe =>
    intro t x stamps measured
    have hbody : exec (.probeReturn port a d st recs closed) s = .next (match recs, closed with
      | [], some q =>
        if x.turned ∧ x.reclose.isNone = true then measured.modMPort port fun p => { p with
          reclose := some (measured.k + x.actLead.toNat, base - 1, q)
          dq := p.dq ++ [.reclose (BitVec.ofNat 64 (measured.k + x.actLead.toNat)) (base - 1) q] }
        else measured
      | [], none => measured
      | _, _ => measured.joinFound port base recs (closed.map fun q => (base - 1, q))) := by
      refine exec_of_eq rfl ?_
      have hloop : (x.topo == 0 || x.turned) = true ↔ x.topo = 0 ∨ x.turned = true := by simp
      have hmeasured : measured = State.refreshRecords (if (x.topo == 0 || x.turned) = true then t.setDelays port true a d stamps
          else t.modMPort port fun p => { p with fwd := overlay p.fwd (st.map fun y => BitVec.ofInt 16 (fwdDelay y)) }) port := by
        simp only [measured, hloop]
      rw [hmeasured]
      simp only [State.probeReturn, hprobe]
      rfl
    refine ⟨fun hrecs => exec_of_eq hbody ?_, fun hrecs hclosed => exec_of_eq hbody ?_, fun q hrecs hclosed h => exec_of_eq hbody ?_,
      fun q hrecs hclosed hturned hreclose => exec_of_eq hbody ?_⟩
    · cases recs with
      | nil => exact absurd rfl hrecs
      | cons r rs => rfl
    · rw [hrecs, hclosed]
    · rw [hrecs, hclosed]
      refine if_neg ?_
      rintro ⟨hturned, hreclose⟩
      exact h.elim (fun h => Bool.false_ne_true (h.symm.trans hturned)) (· (Option.isNone_iff_eq_none.mp hreclose))
    · rw [hrecs, hclosed]
      exact if_pos ⟨hturned, Option.isNone_iff_eq_none.mpr hreclose⟩
  case mailbox =>
    refine ⟨fun htime => exec_of_eq rfl ?_, fun htime => exec_of_eq rfl ?_⟩
    · simp only [State.mailboxTimeout, hmail]
      exact if_pos htime
    · simp only [State.mailboxTimeout, hmail]
      exact if_neg (Nat.not_lt.mpr htime)

/-- Settles O34. -/
theorem lineJoins : Obligations.LineJoins := by
  unfold Obligations.LineJoins
  intro port n c p q j s
  refine ⟨fun hjoin => ⟨exec_of_eq rfl ?_, exec_of_eq rfl ?_⟩, fun hjoin h => exec_of_eq rfl ?_, fun hjoin hwait hcycle => ?activate,
    fun hjoin hwait hcycle => exec_of_eq rfl ?abandon, fun hjoin h => exec_of_eq rfl ?_, fun hgrace hk => exec_of_eq rfl ?_, fun h => exec_of_eq rfl ?noGrace,
    fun hclose hk => exec_of_eq rfl ?reclose, fun h => exec_of_eq rfl ?noReclose⟩
  case refine_1 => simp only [State.joinActivate, hjoin]
  case refine_2 => simp only [State.joinAbandon, hjoin]
  case refine_3 =>
    simp only [State.joinActivate, hjoin]
    exact if_pos (by simpa using h)
  case refine_4 =>
    simp only [State.joinAbandon, hjoin]
    exact if_pos (by simpa using h)
  case refine_5 =>
    simp only [State.graceExpiry, hgrace]
    exact if_pos hk
  case activate =>
    intro left entered t
    have hbody : s.joinActivate port = match j.gen, t.net.pending with
        | some _, some g => t.takeGeneration g j.cycle
        | _, _ => t := by
      simp only [State.joinActivate, hjoin]
      exact (if_neg (by simp [hwait, hcycle])).trans rfl
    refine ⟨fun h => exec_of_eq rfl (hbody.trans ?_), fun g hgen hg => exec_of_eq rfl (hbody.trans ?_)⟩
    · obtain h | h := h
      · rw [h]
      · cases j.gen <;> rw [h]
    · obtain ⟨_, hgen⟩ := Option.ne_none_iff_exists'.mp hgen
      rw [hgen, hg]
  case abandon =>
    simp only [State.joinAbandon, State.endJoin, hjoin]
    exact if_neg (by simp [hwait, Nat.not_lt.mpr hcycle])
  case noGrace =>
    obtain h | ⟨e, h, hk⟩ := h
    · simp only [State.graceExpiry, h]
    · simp only [State.graceExpiry, h]
      exact if_neg (Nat.not_le.mpr hk)
  case reclose =>
    simp only [State.recloseActivate, hclose]
    exact if_neg (Nat.not_lt.mpr hk)
  case noReclose =>
    obtain h | ⟨⟨c, a, b⟩, h, hk⟩ := h
    · simp only [State.recloseActivate, h]
    · simp only [State.recloseActivate, h]
      exact if_pos hk

end Sys2Proof.Machine
end

section
/-! The upstream side of a nested head, the time domains and snapshots (05 R161-R174; 06 R176-R201; 13 R379). -/
namespace Sys2Proof.Machine

/-- Settles O36. -/
theorem upstreamSide : Obligations.UpstreamSide := by
  unfold Obligations.UpstreamSide
  intro f u stamp cycle v ok slots segs hop p q c es at' s conf top
  refine ⟨fun hlo hhi => exec_of_eq rfl (if_pos ⟨hlo, hhi⟩), fun h => exec_of_eq rfl (if_neg (by omega)), fun hrole => ?plain, fun hrole => ?copy,
    fun hrole => ?claim, fun hrole => ?safe, fun hrole => ?cFrame, ?record, fun hhop => exec_of_eq rfl (if_pos hhop), fun hno => exec_of_eq rfl ?unnamed,
    fun e he => exec_of_eq rfl ?assigned, ?resume, fun hrole => ?fFrame, fun hrole => exec_of_eq rfl (if_neg (Bool.eq_false_iff.mp · hrole))⟩
  case plain =>
    have hrole' : s.net.conf.role = false := hrole
    exact ⟨exec_of_eq rfl (if_pos hrole), exec_of_eq rfl (if_pos hrole), exec_of_eq rfl (if_pos hrole), exec_of_eq rfl (if_pos (.inl hrole)),
      exec_of_eq rfl (if_pos hrole), exec_of_eq rfl (if_neg fun h => Bool.false_ne_true (hrole'.symm.trans h.1))⟩
  case copy =>
    intro out
    have hbody : exec .confOutCopy s = .next (match s.upCfg with
        | some c => { s with net := { s.net with conf := { conf with
            confOut := out, latched := cellGets out 0 1 (min 1024 c.fLen), latchedCycle := BitVec.ofNat 32 (s.upLine c) } } }
        | none => { s with net := { s.net with conf := { conf with confOut := out } } }) :=
      exec_of_eq rfl ((if_neg (Bool.eq_false_iff.mp · hrole)).trans rfl)
    exact ⟨fun hcfg => exec_of_eq hbody (by rw [hcfg]), fun hcfg => exec_of_eq hbody (by rw [hcfg])⟩
  case claim =>
    intro best none'
    have hbody : exec .confInWrite s = .next (match best with
        | [f] => s.modConf fun x => { x with
            confIn := cellPuts x.confIn 0 1 ((match s.ownSlot f with | some x => x.payload | none => []).take 1024)
            cands := [], safeRun := 0, upSafe := false, lastTie := false, lastMiss := false
            lastApplied := BitVec.ofNat 2 (f.uplink + 1), upGen := f.gen }
        | [] => s.modConf fun _ => { none' with lastTie := false, lastMiss := true }
        | _ => s.modConf fun _ => { none' with lastTie := true, lastMiss := false }) :=
      exec_of_eq rfl ((if_neg (Bool.eq_false_iff.mp · hrole)).trans rfl)
    refine ⟨fun hbest => exec_of_eq hbody ?_, fun hbest => exec_of_eq hbody ?_, fun hbest => exec_of_eq hbody ?_⟩
    · rw [hbest]
      rfl
    · rw [hbest]
      rfl
    · match best, hbest with
      | _ :: _ :: _, _ => rfl
  case safe =>
    intro limit
    exact ⟨fun h => exec_of_eq rfl (if_pos ⟨hrole, h⟩), fun h => exec_of_eq rfl (if_neg fun hbad => absurd hbad.2 (Nat.not_le.mpr h))⟩
  case cFrame =>
    intro steers t steered
    have hsteers : ((((f.fcsOk && !f.looped && f.wellTyped) && f.idle)
        || (s.isCandidate f && conf.cands.all fun g => decide (g.claim.toNat < f.claim.toNat))) = true ∧ s.tmb.domP.cfg.source = 3) ↔ steers := by
      simp [steers, and_comm, and_assoc]
    have hsteered : steered = if (((f.fcsOk && !f.looped && f.wellTyped) && f.idle)
        || (s.isCandidate f && conf.cands.all fun g => decide (g.claim.toNat < f.claim.toNat))) = true ∧ s.tmb.domP.cfg.source = 3 then t else s := by
      simp only [steered, hsteers]
    rw [hsteered]
    exact exec_of_eq rfl ((if_neg (Bool.eq_false_iff.mp · hrole)).trans rfl)
  case record =>
    intro r moved
    refine ⟨rfl, fun hhop => exec_of_eq rfl ((if_neg (Nat.not_le.mpr hhop)).trans rfl)⟩
  case unnamed =>
    have hnone : es.find? (fun e => e.1 == s.headId) = none := by simpa using hno
    simp only [State.upstreamD, hnone]
  case assigned => simp only [State.upstreamD, he]
  case resume => exact ⟨rfl, rfl⟩
  case fFrame =>
    refine ⟨?_, fun hno => exec_of_eq rfl (if_pos (.inr ?_))⟩
    · rintro ⟨y, hy, hindex⟩
      refine exec_of_eq rfl (if_neg ?_)
      rintro (h | h)
      · exact Bool.false_ne_true (h.symm.trans hrole)
      · simpa [hindex, conf] using List.all_eq_true.mp h y hy
    · simpa using hno

namespace State
variable {s : State} {d : Dom} {u : Nat}

/-- What an uplink that is not quiet sends, message by message (06 R193). -/
theorem ptpTransmit_of_uplink (h : s.domUplink d = some u) (hquiet : (s.tmb.uplinks.getD u {}).quiet = false) (kind : PtpKind) (t16 : Nat) :
    s.ptpTransmit d kind t16 = match kind with
      | .sync => if (s.domain d).isMaster then s.emit (.ptp u d kind (if (s.domain d).cfg.oneStep then s.egress16 d u else 0)) else s
      | .followUp => if (s.domain d).isMaster && !(s.domain d).cfg.oneStep then s.emit (.ptp u d kind (s.egress16 d u)) else s
      | .delayResp => if (s.domain d).isMaster then s.emit (.ptp u d kind (s.tmb.uplinks.getD u {}).lastRx) else s
      | .delayReq => if (s.domain d).cfg.profile = 0 then s.emit (.ptp u d kind 0) else s
      | .pdelayReq => if (s.domain d).cfg.profile = 0 then s else s.emit (.ptp u d kind 0)
      | .pdelayResp => s.emit (.ptp u d kind (if (s.domain d).cfg.oneStep then t16 else 0)) := by
  simp only [ptpTransmit, h]
  exact (if_neg (Bool.eq_false_iff.mp hquiet)).trans rfl

end State

/-- Settles O38. -/
theorem timeDomains : Obligations.TimeDomains := by
  unfold Obligations.TimeDomains
  intro d kind theta t16 u t v a s x
  refine ⟨fun h => exec_of_eq rfl (if_pos h), fun h => ?offset, rfl, fun h => exec_of_eq rfl ?lost, fun h => exec_of_eq rfl ?kept,
    fun hlocked hat hauto hrevert hsel htime => exec_of_eq rfl ?reverts, fun h => exec_of_eq rfl ?stays, fun h => ⟨exec_of_eq rfl ?_, exec_of_eq rfl ?_⟩,
    fun h hquiet => exec_of_eq rfl ?quiet, fun h hquiet => ?sends, fun h => ?delay, rfl, rfl⟩
  case offset =>
    intro y steered t
    have hbody : exec (.ptpSyncReceived d theta) s = .next (if d = t.tmb.selected ∧ t.tmb.holdover = false then
        { t with tmb := { t.tmb with holdIncr := (t.domain d).mean } } else t) := by
      cases d <;> exact exec_of_eq rfl ((if_neg h).trans rfl)
    exact ⟨fun hsel => exec_of_eq hbody (if_pos hsel), fun hsel => exec_of_eq hbody (if_neg hsel)⟩
  case lost => obtain h | h := h <;> simp only [State.domainLost, show (s.domain d).state = _ from h]
  case kept => obtain h | h := h <;> simp only [State.domainLost, show (s.domain d).state = _ from h]
  case reverts =>
    simp only [State.autoRevert, hlocked, hat]
    exact if_pos ⟨hauto, hrevert, hsel, htime⟩
  case stays =>
    match hat : s.tmb.domP.lockedAt with
    | none => cases hstate : s.tmb.domP.state <;> simp only [State.autoRevert, hstate, hat]
    | some t' =>
      by_cases hlocked : s.tmb.domP.state = .locked
      · simp only [State.autoRevert, hlocked, hat]
        refine if_neg ?_
        rintro ⟨hauto, hrevert, hsel, htime⟩
        obtain h | h | h | h | h | ⟨h, hlt⟩ := h
        · exact h hlocked
        · exact h hauto
        · exact Bool.false_ne_true (h.symm.trans hrevert)
        · exact Dom.noConfusion (h.symm.trans hsel)
        · exact Option.some_ne_none t' (hat.symm.trans h)
        · obtain rfl : t' = t := Option.some.inj (hat.symm.trans h)
          exact absurd htime (Nat.not_le.mpr hlt)
      · cases hstate : s.tmb.domP.state <;> simp_all [State.autoRevert]
  case refine_1 => simp only [State.ptpTransmit, h]
  case refine_2 => simp only [State.ptpDelay, h]
  case quiet =>
    simp only [State.ptpTransmit, h]
    exact if_pos hquiet
  case sends =>
    have hsend := State.ptpTransmit_of_uplink h hquiet
    refine ⟨exec_of_eq rfl (hsend .sync t16), exec_of_eq rfl ((hsend .followUp t16).trans ?_), exec_of_eq rfl (hsend .delayResp t16),
      exec_of_eq rfl (hsend .delayReq t16), exec_of_eq rfl (hsend .pdelayReq t16), exec_of_eq rfl (hsend .pdelayResp t16)⟩
    simp only [x, Bool.and_eq_true, Bool.not_eq_true']
  case delay =>
    intro t
    have hbody (kind : PtpKind) : exec (.ptpDelayMessage d kind t16) s = .next (match kind with
        | .delayReq => t.ptpTransmit d .delayResp 0
        | _ => t) := by
      refine exec_of_eq rfl ?_
      simp only [State.ptpDelay, h]
      rfl
    refine ⟨hbody .delayReq, fun hkind => exec_of_eq (hbody kind) ?_⟩
    cases kind with
    | delayReq => exact absurd rfl hkind
    | _ => rfl

/-- Settles O39. -/
theorem snapshots : Obligations.Snapshots := by
  unfold Obligations.Snapshots
  intro id n t latch late data p s x
  refine ⟨fun hstate hlatched htime => ?latch, fun h => exec_of_eq rfl (if_neg ?early), fun hstate hn => exec_of_eq rfl (if_pos ⟨hstate, ?asked⟩),
    fun h => exec_of_eq rfl (if_neg ?unasked), fun hstate htime => ?timeout, fun h => exec_of_eq rfl (if_neg ?inTime), fun hrole hid hstate => ?request,
    fun h => exec_of_eq rfl (if_pos h)⟩
  case latch =>
    intro t
    refine ⟨fun hup => exec_of_eq rfl ((if_pos ⟨hstate, hlatched, htime⟩).trans ?_), fun hup => exec_of_eq rfl ((if_pos ⟨hstate, hlatched, htime⟩).trans ?_)⟩
    · rw [show (s.snap id).upLate = _ from hup]
    · rw [show (s.snap id).upLate = _ from hup]
  case early =>
    rintro ⟨hstate, hlatched, htime⟩
    exact h.elim (· hstate) (·.elim (fun h => Bool.false_ne_true (hlatched.symm.trans h)) (Nat.not_lt.mpr htime))
  case asked => simpa using hn
  case unasked =>
    rintro ⟨hstate, hn⟩
    exact h.elim (· hstate) fun h => h (by simpa using hn)
  case timeout =>
    intro t
    refine ⟨fun hpkt => exec_of_eq rfl ((if_pos ⟨hstate, htime⟩).trans ?_), fun hpkt => exec_of_eq rfl ((if_pos ⟨hstate, htime⟩).trans ?_)⟩
    · simp only [show (s.snap id).pkt = _ from hpkt, t, x]
    · simp only [show (s.snap id).pkt = _ from hpkt, t, x]
  case inTime =>
    rintro ⟨hstate, htime⟩
    exact h.elim (· hstate) (Nat.not_lt.mpr htime)
  case request =>
    intro begun
    have hgo : ¬ (s.net.conf.role = false ∨ id ≥ 4 ∨ (s.snap id).state = 1) := by
      rintro (h | h | h)
      · exact Bool.false_ne_true (h.symm.trans hrole)
      · exact absurd hid (Nat.not_lt.mpr h)
      · exact hstate h
    refine ⟨fun htime => exec_of_eq rfl ((if_neg hgo).trans ?_), fun htime => exec_of_eq rfl ((if_neg hgo).trans ?_)⟩
    · simp [Nat.not_lt.mpr htime, begun]
    · simp [htime, begun]

end Sys2Proof.Machine
end

section
/-! The scheduler and the governor (09 R253-R279). -/
namespace Sys2Proof.Machine

/-- Elements that only their index decides are those of a list of the same length. -/
theorem mapIdxFrom_getD {α β γ : Type} (g : γ → β) (d : α → γ) : ∀ (l : List α) (xs pre : List γ), l.length = xs.length →
    mapIdxFrom pre.length (fun i a => g ((pre ++ xs).getD i (d a))) l = xs.map g
  | [], [], _, _ => rfl
  | a :: l, x :: xs, pre, h => by
    have ih := mapIdxFrom_getD g d l xs (pre ++ [x]) (Nat.succ.inj h)
    simp only [List.append_assoc, List.singleton_append, List.length_append, List.length_singleton] at ih
    rw [mapIdxFrom, ih, List.map_cons]
    simp

theorem mapI_getD {α β γ : Type} (g : γ → β) (d : α → γ) {l : List α} {xs : List γ} (h : l.length = xs.length) :
    mapI (fun i a => g (xs.getD i (d a))) l = xs.map g :=
  mapIdxFrom_getD g d l xs [] h

theorem clampI_of_mem {lo hi v : Int} (hlo : lo ≤ v) (hhi : v ≤ hi) : clampI lo hi v = v := by
  rw [clampI, if_neg (by omega), if_neg (by omega)]

namespace State
variable {s : State} {c : Nat}

theorem modCore_modCore (s : State) (c : Nat) (f g : Core → Core) : (s.modCore c f).modCore c g = s.modCore c fun x => g (f x) := by
  simp [modCore, updAt_updAt]

/-- Sixteen temperatures in range are stored as they are. -/
theorem takeTemps_of_sixteen {temps : List Int} (hlen : temps.length = 16) (hrange : ∀ x ∈ temps, -32768 ≤ x ∧ x ≤ 32767)
    (hcount : s.pwr.temps.length = 16) : s.takeTemps temps = { s with pwr := { s.pwr with
      temps := temps.map (BitVec.ofInt 16)
      hot := temps.foldl (fun m t => match m with | some x => some (max x t) | none => some t) s.pwr.hot } } := by
  have hkept : (temps.take 16).map (clampI (-32768) 32767) = temps := by
    rw [List.take_of_length_le (Nat.le_of_eq hlen)]
    exact (List.map_congr_left fun x hx => clampI_of_mem (hrange x hx).1 (hrange x hx).2).trans (List.map_id' temps)
  have htemps : mapI (fun i t => BitVec.ofInt 16 (temps.getD i (signed 16 t.toNat))) s.pwr.temps = temps.map (BitVec.ofInt 16) :=
    mapI_getD (BitVec.ofInt 16) (fun t => signed 16 t.toNat) (hcount.trans hlen.symm)
  simp only [takeTemps, hkept, htemps] <;> rfl

end State

/-- Settles O40. -/
theorem taskTraffic : Obligations.TaskTraffic := by
  unfold Obligations.TaskTraffic
  intro c l ev v s
  refine ⟨fun h => exec_of_eq rfl (if_pos ?stopped), fun hdispatch hstopped => exec_of_eq rfl ((if_neg ?runs).trans rfl), fun hwaking hc => ?woken,
    fun hwaking => exec_of_eq rfl (if_neg (Bool.eq_false_iff.mp hwaking)), rfl, rfl, exec_of_eq rfl ?tick⟩
  case stopped => obtain h | h := h <;> simp [h]
  case runs => simp [hdispatch, hstopped]
  case woken =>
    have hcore := State.core_modCore s c (fun x => { x with state := .idle, waking := false, govPark := false, idleSince := s.now }) hc
    have hbody : s.coreWoken c = if (s.core c).haltReq then
          (s.modCore c fun x => { x with state := .idle, waking := false, govPark := false, idleSince := s.now }).enterHalt c .idle
        else s.modCore c fun x => { x with state := .idle, waking := false, govPark := false, idleSince := s.now } := by
      refine (if_pos hwaking).trans ?_
      simp only [hcore]
    exact ⟨fun hhalt => exec_of_eq rfl (hbody.trans (if_neg (Bool.eq_false_iff.mp hhalt))),
      fun hhalt => exec_of_eq rfl (hbody.trans ((if_pos hhalt).trans (State.modCore_modCore ..)))⟩
  case tick =>
    simp only [State.writeDlyTick, Bool.and_eq_true, List.isEmpty_iff, decide_eq_true_eq, and_assoc]

/-- Settles O41. -/
theorem governorPeriods : Obligations.GovernorPeriods := by
  unfold Obligations.GovernorPeriods
  intro est other temps kind ok data v s
  refine ⟨rfl, fun hlen hrange hcount => exec_of_eq rfl (State.takeTemps_of_sixteen hlen hrange hcount), fun h => exec_of_eq rfl (if_pos ?silent),
    fun hfitted hfree => ?done, fun hfails hfree => exec_of_eq rfl (if_neg ?faults), fun h => exec_of_eq rfl (if_pos ?early), ?gov⟩
  case silent => obtain h | h := h <;> simp only [h, Bool.not_false, Bool.true_or, Bool.or_true]
  case done =>
    have hgo : ¬ (!s.pwr.pmbCfg.getLsbD 31 || s.pwr.fixed) = true := by rw [hfitted, hfree]; decide
    exact ⟨exec_of_eq rfl ((if_neg hgo).trans rfl), exec_of_eq rfl ((if_neg hgo).trans rfl)⟩
  case faults => simp [Nat.not_lt.mpr hfails, hfree]
  case early => obtain h | h := h <;> simp [h]
  case gov =>
    intro lo hi legal
    have hlegal : legal ↔ govOk v = true := by simp [legal, govOk, lo, hi]
    exact ⟨fun h => exec_of_eq rfl (if_pos (hlegal.mp h)), fun h => exec_of_eq rfl (if_neg ((not_congr hlegal).mp h))⟩

end Sys2Proof.Machine
end

section
/-! Instructions of a core that executes no task, illegal instructions, and the arithmetic of the PA instructions (07 R208-R210, R223,
R227, 08 R233, R236-R239). -/
namespace Sys2Proof.Machine

namespace State
variable {s : State} {c : Nat} {i : EIns} {cmd : Instr}

/-- An illegal instruction stops its task with ILLEGAL. -/
theorem run_of_illegal (granted : Bool) (hlegal : i.legal = false) :
    s.run c granted i = s.taskFault c fIllegal (s.core c).regs.pc.toNat :=
  if_pos (by rw [hlegal]; rfl)

/-- A legal instruction's command, from its equation of `run`. -/
theorem exec_of_legal (hrun : s.Runs c) (hcmd : i.command c = some cmd) {t : State} (hlegal : i.legal = true)
    (heq : i.legal = true → s.run c false i = t) : exec cmd s = .next t :=
  (exec_command_of_runs hrun hcmd).trans (congrArg _ (heq hlegal))

end State

/-- Settles O42: `edy` tests the core and `run` the instruction before anything else. -/
theorem eddyInstructionsNeedARunningTask : Obligations.EddyInstructionsNeedARunningTask := by
  unfold Obligations.EddyInstructionsNeedARunningTask
  exact fun c i cmd s hcmd => ⟨fun hidle => (exec_command hcmd s).trans (congrArg _ (if_neg hidle)),
    fun hrun hlegal => (exec_command_of_runs hrun hcmd).trans (congrArg _ (State.run_of_illegal false hlegal))⟩

/-! ## Flags -/

/-- The bits of SR that `setFlags` puts together. -/
theorem flagBits (z n c v vs g h sc : Bool) :
    let sr : Q23 := BitVec.ofNat 24 (b2n z + 2 * b2n n + 4 * b2n c + 8 * b2n v + 16 * b2n vs + 32 * b2n g + 64 * b2n h + 128 * b2n sc)
    sr.getLsbD 0 = z ∧ sr.getLsbD 1 = n ∧ sr.getLsbD 2 = c ∧ sr.getLsbD 3 = v ∧ sr.getLsbD 4 = vs ∧ sr.getLsbD 5 = g
      ∧ sr.getLsbD 6 = h ∧ sr.getLsbD 7 = sc := by
  revert z n c v vs g h sc
  decide

namespace ERegs
variable (r : ERegs) (f : EFlags) (vset vs sc : Bool)

@[simp] theorem setFlags_flags : (r.setFlags f vset vs sc).flags = f := by
  obtain ⟨hz, hn, hc, hv, -, hg, hh, -⟩ := flagBits f.z f.n f.c f.v (r.flag 4 || vset || vs) f.g f.h (r.flag 7 || sc)
  exact EFlags.mk.injEq .. |>.mpr ⟨hz, hn, hc, hv, hg, hh⟩

/-- VS is sticky. -/
theorem setFlags_flag_four : (r.setFlags f vset vs sc).flag 4 = (r.flag 4 || vset || vs) :=
  (flagBits f.z f.n f.c f.v (r.flag 4 || vset || vs) f.g f.h (r.flag 7 || sc)).2.2.2.2.1

/-- So is SC. -/
theorem setFlags_flag_seven : (r.setFlags f vset vs sc).flag 7 = (r.flag 7 || sc) :=
  (flagBits f.z f.n f.c f.v (r.flag 4 || vset || vs) f.g f.h (r.flag 7 || sc)).2.2.2.2.2.2.2

end ERegs

/-! ## Accumulators and exact results -/

theorem accInt_eq_zero_iff (a : Acc) : accInt a = 0 ↔ a = 0 := by
  rw [accInt_eq_toInt, ← BitVec.toInt_inj]; rfl

theorem accInt_neg_eq_signBit (a : Acc) : a.getLsbD 55 = decide (accInt a < 0) := by
  rw [accInt_eq_toInt, ← BitVec.msb_eq_toInt, BitVec.msb_eq_getLsbD_last]

/-- Narrowing to 56 bits drops a multiple of 2^56. -/
theorem accInt_toAcc_mod (x : Int) : ∃ m : Int, accInt (toAcc x) = x + m * 2 ^ 56 := by
  rw [accInt_eq_toInt, toAcc_eq_ofInt, BitVec.toInt_ofInt]
  refine ⟨-Int.bdiv x (2 ^ 56), ?_⟩
  have h := Int.bdiv_add_bmod x (2 ^ 56)
  omega

/-- The range of a result: Q1.47 under MR.SAT, else the 56 bits of an accumulator. -/
def resultFits (sat : Bool) (x : Int) : Bool :=
  if sat then decide (-(2 ^ 47) ≤ x ∧ x ≤ 2 ^ 47 - 1) else decide (-(2 ^ 55) ≤ x ∧ x ≤ 2 ^ 55 - 1)

theorem narrow_overflow (sat : Bool) (x : Int) : (narrow sat x).2 = !resultFits sat x := by
  rw [Bool.eq_iff_iff]
  cases sat with
  | false => simp [narrow, resultFits]; omega
  | true => simp [narrow, resultFits]; simp only [qMax, qMin]; omega

/-- A result in range is kept. -/
theorem accInt_narrow_of_fits {sat : Bool} {x : Int} (hfits : resultFits sat x = true) : accInt (narrow sat x).1 = x := by
  cases sat with
  | false =>
    have hx : -(2 ^ 55) ≤ x ∧ x ≤ 2 ^ 55 - 1 := of_decide_eq_true hfits
    exact accInt_toAcc (by omega) (by omega)
  | true =>
    have hx : -(2 ^ 47) ≤ x ∧ x ≤ 2 ^ 47 - 1 := of_decide_eq_true hfits
    have hclamp : clampI qMin qMax x = x := clampI_of_mem hx.1 hx.2
    rw [narrow, if_pos rfl, hclamp]
    exact accInt_toAcc (by omega) (by omega)

/-- Under MR.SAT, a result beyond the range becomes the limit on its side. -/
theorem accInt_narrow_of_above {x : Int} (hx : 2 ^ 47 ≤ x) : accInt (narrow true x).1 = 2 ^ 47 - 1 := by
  have hclamp : clampI qMin qMax x = 2 ^ 47 - 1 := by simp only [clampI, qMin, qMax]; omega
  rw [narrow, if_pos rfl, hclamp]
  exact accInt_toAcc (by omega) (by omega)

theorem accInt_narrow_of_below {x : Int} (hx : x < -(2 ^ 47)) : accInt (narrow true x).1 = -(2 ^ 47) := by
  have hclamp : clampI qMin qMax x = -(2 ^ 47) := by simp only [clampI, qMin, qMax]; omega
  rw [narrow, if_pos rfl, hclamp]
  exact accInt_toAcc (by omega) (by omega)

/-- Settles O43: each PA instruction's equation of `run`; `putResult` narrows its result, and `setFlags` puts the flags of it together. -/
theorem eddyArithmetic : Obligations.EddyArithmetic := by
  unfold Obligations.EddyArithmetic
  refine ⟨?instructions, ?result⟩
  case instructions =>
    intro c n i j k sh pair neg0 neg1 idx sel src mv s hrun goes an product
    have hgoes {cmd : Instr} {ins : EIns} {f : ERegs → Arith} (hcmd : ins.command c = some cmd)
        (heq : ins.legal = true → s.run c false ins = s.runPA c false ins mv f) : goes cmd ins f :=
      fun hlegal => State.exec_of_legal hrun hcmd hlegal heq
    refine ⟨?_, ?_, ?_, ?_, ?_, ?_, ?_, ?_, ?_, ?_, ?_, ?_, ?_, ?_, ?_, ?_, ?_, ?_, ?_, ?_, ?_, ?_, ?_, ?_⟩
    all_goals exact hgoes rfl fun hlegal => if_neg (EIns.not_illegal hlegal)
  case result =>
    intro r n x cf hn q fits
    have hfits : fits = resultFits r.sat x := rfl
    have hacc : q.acc n = (narrow r.sat x).1 := ERegs.acc_setAcc_self r _ hn
    have hflags : q.flags = { resultFlags r.flags (narrow r.sat x).1 with c := cf, v := (narrow r.sat x).2 } := ERegs.setFlags_flags ..
    rw [hacc, hflags, hfits, ← narrow_overflow]
    refine ⟨accInt_narrow_of_fits, ?above, ?below, ?wrapped, rfl, rfl, ?sticky, ?zero, accInt_neg_eq_signBit _, ?guard, ?scaling,
      fun m hm => ERegs.acc_setAcc_ne r _ hm, rfl⟩
    case above => intro hsat hx; rw [ERegs.sat, hsat]; exact accInt_narrow_of_above hx
    case below => intro hsat hx; rw [ERegs.sat, hsat]; exact accInt_narrow_of_below hx
    case wrapped => intro hsat; rw [ERegs.sat, hsat]; exact accInt_toAcc_mod x
    case sticky => exact (ERegs.setFlags_flag_four ..).trans (Bool.or_false _)
    case zero => exact (Bool.beq_eq_decide_eq _ _).trans (decide_eq_decide.mpr (accInt_eq_zero_iff _).symm)
    case guard =>
      rw [Bool.eq_iff_iff]
      simp only [resultFlags, Bool.or_eq_true, decide_eq_true_eq]
      simp only [qMax, qMin]
      omega
    case scaling => exact (ERegs.setFlags_flag_seven ..).trans (Bool.or_false _)

end Sys2Proof.Machine
end

section
/-! What guards the accesses of an instruction, and the accesses to a core's own memory (07 R208, R211-R215, R220, R221, 08 R235). -/
namespace Sys2Proof.Machine

namespace State
variable {s : State} {c : Nat}

/-! ## Guards -/

section
variable {granted : Bool} {i : EIns} {l : List Acc1} {go : State → State}

theorem guarded_of_fault {e : Nat} (hfault : s.accFault c l = some e) :
    s.guarded c granted i l go = s.taskFault c e (s.core c).regs.pc.toNat := by
  simp only [guarded, hfault]

variable (hfault : s.accFault c l = none)
include hfault

theorem guarded_of_goWaits (hgo : s.goWaits c l = true) : s.guarded c granted i l go = s.stallOn c 5 i := by
  simp only [guarded, hfault]
  exact if_pos hgo

variable (hgo : s.goWaits c l = false)
include hgo

theorem guarded_of_readWaits (hreads : (l.any fun a => !a.write && s.readWaits c a.spaceY a.addr) = true) :
    s.guarded c false i l go = s.stallOn c 4 i := by
  simp only [guarded, hfault]
  exact (if_neg (Bool.eq_false_iff.mp hgo)).trans (if_pos hreads)

theorem guarded_of_free (hreads : (l.any fun a => !a.write && s.readWaits c a.spaceY a.addr) = false) :
    s.guarded c false i l go = go s := by
  simp only [guarded, hfault]
  exact (if_neg (Bool.eq_false_iff.mp hgo)).trans (if_neg (Bool.eq_false_iff.mp hreads))

end

/-! ## Faults of an access -/

/-- A pointer whose length register is not legal faults before its address does. -/
theorem accFault_of_ptrBad {a : Acc1} {p : Nat} (l : List Acc1) (hptr : a.ptr = some p) (hbad : (s.core c).regs.ptrBad p = true) :
    s.accFault c (a :: l) = some 8 := by
  simp only [accFault, hptr, hbad, if_true]
  rfl

/-- The pointer of an access, when it has one, is legal. -/
def PtrFine (s : State) (c : Nat) (a : Acc1) : Prop := ∀ p, a.ptr = some p → (s.core c).regs.ptrBad p = false

theorem accFault_cons_of_ptrFine {a : Acc1} (l : List Acc1) (hptr : s.PtrFine c a) :
    s.accFault c (a :: l) = (s.accessFault c a.spaceY a.addr).or (s.accFault c l) := by
  have hbad : (match a.ptr with | some p => (s.core c).regs.ptrBad p | none => false) = false := by
    split
    · exact hptr _ ‹_›
    · rfl
  rw [accFault]
  refine (if_neg (Bool.eq_false_iff.mp hbad)).trans ?_
  cases s.accessFault c a.spaceY a.addr <;> rfl

theorem accFault_singleton {a : Acc1} (hptr : s.PtrFine c a) : s.accFault c [a] = s.accessFault c a.spaceY a.addr := by
  rw [accFault_cons_of_ptrFine [] hptr]
  exact Option.or_none

/-- Addresses of Y that are neither the core's own memory nor the control page do not exist. -/
theorem accessFault_of_no_address {a : Nat} (ha : 0x4000 ≤ a ∧ a < 0x7F00 ∨ 0x8000 ≤ a) : s.accessFault c true a = some 4 :=
  (if_pos rfl).trans (if_neg (by omega))

theorem accessFault_of_page {a : Nat} (hlo : 0x7F00 ≤ a) (hhi : a < 0x8000) : s.accessFault c true a = none :=
  if_pos (Or.inr ⟨hlo, hhi⟩)

theorem accessFault_of_window {a : Nat} (hlo : 0x4000 ≤ a) (hhi : a < 0x8000) : s.accessFault c false a = s.winFault c a :=
  (if_neg Bool.false_ne_true).trans ((if_neg (by omega)).trans (if_pos hhi))

/-! ## The core's own memory -/

section
variable (z : Bool) {a : Nat} (ha : a < 0x4000)
include ha

theorem accessFault_of_own : s.accessFault c z a = none := by
  cases z with
  | false => exact if_pos ha
  | true => exact if_pos (Or.inl ha)

theorem readWaits_of_own : s.readWaits c z a = false := by
  simp only [readWaits, decide_eq_false (Nat.not_le.mpr ha), Bool.and_false, Bool.false_and]

theorem memRead_of_own : s.memRead c z a = (cellGet (if z then (s.core c).y else (s.core c).x) a, s) := by
  cases z with
  | false => exact if_pos ha
  | true => exact if_pos ha

theorem memWrite_of_own (v : Q23) : s.memWrite c z a v = s.modCore c fun x =>
    if z then { x with y := cellSet x.y a v } else { x with x := cellSet x.x a v } := by
  cases z with
  | false => exact if_pos ha
  | true => exact if_pos ha

end

/-- Only a write of DMA_GO may be denied or may wait. -/
theorem goDenied_of_ne {a : Acc1} (v : Q23) (haddr : a.addr ≠ 0x7F23) : s.goDenied c a v = none :=
  if_neg (by simp [haddr])

theorem goWaits_of_ne {l : List Acc1} (haddr : ∀ a ∈ l, a.write = true → a.spaceY = true → a.addr ≠ 0x7F23) : s.goWaits c l = false := by
  have hany : (l.any fun a => a.write && a.spaceY && a.addr == 0x7F23) = false := by
    simpa using haddr
  rw [goWaits, hany, Bool.and_false]

/-- An access to the core's own memory through a legal pointer, or at an address. -/
def OwnAcc (s : State) (c : Nat) (a : Acc1) : Prop := s.PtrFine c a ∧ a.addr < 0x4000

section
variable {l : List Acc1} (hown : ∀ a ∈ l, s.OwnAcc c a)
include hown

theorem accFault_of_own : s.accFault c l = none := by
  induction l with
  | nil => rfl
  | cons a l ih =>
    obtain ⟨⟨hptr, haddr⟩, hrest⟩ := List.forall_mem_cons.mp hown
    rw [accFault_cons_of_ptrFine l hptr, accessFault_of_own _ haddr, ih hrest]
    rfl

theorem goWaits_of_own : s.goWaits c l = false :=
  goWaits_of_ne fun a ha _ _ => by have h := (hown a ha).2; omega

theorem no_readWaits_of_own : (l.any fun a => !a.write && s.readWaits c a.spaceY a.addr) = false :=
  List.any_eq_false.mpr fun a ha => by simp [readWaits_of_own a.spaceY (hown a ha).2]

end

/-- Two changes that agree on a core change the state alike. -/
theorem modCore_congr {f g : Core → Core} (h : f (s.core c) = g (s.core c)) : s.modCore c f = s.modCore c g :=
  congrArg (fun l => { s with eddy := { s.eddy with cores := l } }) (updAt_congr {} h)

/-- What a change of a core leaves alone, whether or not the part has that core. -/
theorem core_modCore_of_fixed {α : Type} (P : Core → α) {f : Core → Core} (hf : ∀ x, P (f x) = P x) :
    P ((s.modCore c f).core c) = P (s.core c) := by
  by_cases hc : c < s.eddy.cores.length
  · rw [core_modCore s c f hc, hf]
  · have hmissing : (s.modCore c f).core c = s.core c := by
      simp [core, modCore, updAt_length, Nat.not_lt.mp hc]
    rw [hmissing]

end State
end Sys2Proof.Machine
end

section
/-! The moves beside a PA instruction (07 R208, R211-R215, R220, R221, 08 R235, R238). -/
namespace Sys2Proof.Machine

/-- The moves of a PA instruction, X before Y, each with its space. -/
def paMoveList (mv : PMoves) : List (Bool × PMove) :=
  (match mv.x with | some m => [(false, m)] | none => []) ++ (match mv.y with | some m => [(true, m)] | none => [])

/-- What a written register puts out: its value, whether it limits, whether it sets SC. -/
def ERegs.moved (r : ERegs) (m : PMove) : Q23 × Bool × Bool := r.read (State.pmoveCode m.reg)

/-- The registers after a PA instruction's arithmetic, with what its writes do to VS and SC. -/
def ERegs.afterArith (r : ERegs) (mv : PMoves) (f : ERegs → Arith) : ERegs :=
  (f r).1.setFlags (f r).1.flags false ((paMoveList mv).any fun m => m.2.write && (r.moved m.2).2.1)
    ((paMoveList mv).any fun m => m.2.write && (r.moved m.2).2.2)

namespace State

/-- One move, by the registers `r` before the instruction. -/
def paMove (c : Nat) (r : ERegs) (x : State × ERegs) (m : Bool × PMove) : State × ERegs :=
  let p := pmovePtr m.1 m.2
  let at_ := (r.p.getD p 0).toNat
  if m.2.write then (x.1.memWrite c m.1 at_ (r.moved m.2).1, x.2.setPtr p (r.postMod p m.2.mode))
  else ((x.1.memRead c m.1 at_).2, (x.2.write (pmoveCode m.2.reg) (x.1.memRead c m.1 at_).1).setPtr p (r.postMod p m.2.mode))

variable (s : State) (c : Nat)

/-- The accesses of a PA instruction's moves. -/
def paAccs (mv : PMoves) : List Acc1 := (paMoveList mv).map fun m => pmoveAcc (s.core c).regs m.1 m.2

/-- Why a write of DMA_GO among the moves is denied, if it is. -/
def paDenied (mv : PMoves) : Option Nat :=
  (paMoveList mv).findSome? fun m =>
    if m.2.write then s.goDenied c (pmoveAcc (s.core c).regs m.1 m.2) ((s.core c).regs.moved m.2).1 else none

/-- The moves, one after the other, after the arithmetic. -/
def paMoved (mv : PMoves) (f : ERegs → Arith) : State × ERegs :=
  (paMoveList mv).foldl (paMove c (s.core c).regs) (s, (s.core c).regs.afterArith mv f)

/-- What a PA instruction does once nothing faults or stalls, the registers before it being `r`. -/
def paGo (c : Nat) (mv : PMoves) (f : ERegs → Arith) (r : ERegs) (s : State) : State :=
  match (paMoveList mv).findSome? fun m => if m.2.write then s.goDenied c (pmoveAcc r m.1 m.2) (r.moved m.2).1 else none with
  | some e => s.taskFault c e r.pc.toNat
  | none =>
    let z := (paMoveList mv).foldl (paMove c r) (s, r.afterArith mv f)
    z.1.stepOn c z.2 1

variable {s c} {ins : EIns} {mv : PMoves} {f : ERegs → Arith}

theorem runPA_eq_guarded (granted : Bool) :
    s.runPA c granted ins mv f = s.guarded c granted ins (s.paAccs c mv) (paGo c mv f (s.core c).regs) := rfl

theorem runPA_of_fault {e : Nat} (hfault : s.accFault c (s.paAccs c mv) = some e) :
    s.runPA c false ins mv f = s.taskFault c e (s.core c).regs.pc.toNat :=
  (runPA_eq_guarded false).trans (guarded_of_fault hfault)

section
variable (hfault : s.accFault c (s.paAccs c mv) = none)
include hfault

theorem runPA_of_goWaits (hgo : s.goWaits c (s.paAccs c mv) = true) : s.runPA c false ins mv f = s.stallOn c 5 ins :=
  (runPA_eq_guarded false).trans (guarded_of_goWaits hfault hgo)

variable (hgo : s.goWaits c (s.paAccs c mv) = false)
include hgo

theorem runPA_of_readWaits (hreads : ((s.paAccs c mv).any fun a => !a.write && s.readWaits c a.spaceY a.addr) = true) :
    s.runPA c false ins mv f = s.stallOn c 4 ins :=
  (runPA_eq_guarded false).trans (guarded_of_readWaits hfault hgo hreads)

variable (hreads : ((s.paAccs c mv).any fun a => !a.write && s.readWaits c a.spaceY a.addr) = false)
include hreads

theorem runPA_of_denied {e : Nat} (hdenied : s.paDenied c mv = some e) :
    s.runPA c false ins mv f = s.taskFault c e (s.core c).regs.pc.toNat := by
  rw [runPA_eq_guarded, guarded_of_free hfault hgo hreads]
  simp only [paDenied] at hdenied
  simp only [paGo, hdenied]

theorem runPA_of_accepted (haccepted : s.paDenied c mv = none) :
    s.runPA c false ins mv f = (s.paMoved c mv f).1.stepOn c (s.paMoved c mv f).2 1 := by
  rw [runPA_eq_guarded, guarded_of_free hfault hgo hreads]
  simp only [paDenied] at haccepted
  simp only [paGo, haccepted, paMoved]

end

/-! ## Moves to and from the core's own memory -/

/-- Every move goes through a legal pointer to the core's own memory. -/
def OwnMoves (s : State) (c : Nat) (mv : PMoves) : Prop :=
  ∀ m ∈ paMoveList mv, (s.core c).regs.ptrBad (pmovePtr m.1 m.2) = false ∧ ((s.core c).regs.p.getD (pmovePtr m.1 m.2) 0).toNat < 0x4000

theorem ownMoves_iff : s.OwnMoves c mv ↔
    (∀ m, mv.x = some m → (s.core c).regs.ptrBad m.ptr.val = false ∧ ((s.core c).regs.p.getD m.ptr.val 0).toNat < 0x4000)
      ∧ (∀ m, mv.y = some m → (s.core c).regs.ptrBad (m.ptr.val + 4) = false
        ∧ ((s.core c).regs.p.getD (m.ptr.val + 4) 0).toNat < 0x4000) := by
  obtain ⟨x, y, xptr⟩ := mv
  cases x <;> cases y <;> simp [OwnMoves, paMoveList, pmovePtr]

theorem runPA_of_ownMoves (hown : s.OwnMoves c mv) :
    s.runPA c false ins mv f = (s.paMoved c mv f).1.stepOn c (s.paMoved c mv f).2 1 := by
  have haccs : ∀ a ∈ s.paAccs c mv, s.OwnAcc c a := by
    refine List.forall_mem_map.mpr fun m hm => ⟨fun p hp => ?_, (hown m hm).2⟩
    obtain rfl : pmovePtr m.1 m.2 = p := Option.some.inj hp
    exact (hown m hm).1
  refine runPA_of_accepted (accFault_of_own haccs) (goWaits_of_own haccs) (no_readWaits_of_own haccs) ?_
  refine List.findSome?_eq_none_iff.mpr fun m hm => ?_
  split
  · have haddr := (hown m hm).2
    exact goDenied_of_ne _ (show ((s.core c).regs.p.getD (pmovePtr m.1 m.2) 0).toNat ≠ _ by omega)
  · rfl

end State
end Sys2Proof.Machine
end

section
/-! What the moves beside a PA instruction leave in the core's own memory and in the registers (08 R235, R238). -/
namespace Sys2Proof.Machine
namespace State
variable {s : State} {c : Nat} {r : ERegs}

/-- A move's pointer afterwards, and the register that a read fills from a memory. -/
def paRegs (r : ERegs) (p : Nat) (m : PMove) (mem : Cells 24) (q : ERegs) : ERegs :=
  (if m.write then q else q.write (pmoveCode m.reg) (cellGet mem (r.p.getD p 0).toNat)).setPtr p (r.postMod p m.mode)

/-- A memory after a move: a write stores its register. -/
def paCells (r : ERegs) (p : Nat) (m : PMove) (mem : Cells 24) : Cells 24 :=
  if m.write then cellSet mem (r.p.getD p 0).toNat (r.moved m).1 else mem

/-- A move to or from the core's own X memory. -/
theorem paMove_x {m : PMove} (haddr : (r.p.getD m.ptr.val 0).toNat < 0x4000) (t : State) (q : ERegs) :
    paMove c r (t, q) (false, m) = (if m.write then t.modCore c fun k => { k with x := paCells r m.ptr.val m k.x } else t,
      paRegs r m.ptr.val m (t.core c).x q) := by
  cases hwrite : m.write with
  | false => simp only [paMove, pmovePtr, hwrite, paRegs, Bool.false_eq_true, if_false, Nat.add_zero, memRead_of_own false haddr]
  | true => simp only [paMove, pmovePtr, hwrite, paRegs, paCells, Bool.false_eq_true, if_false, if_true, Nat.add_zero, memWrite_of_own false haddr]

/-- A move to or from the core's own Y memory. -/
theorem paMove_y {m : PMove} (haddr : (r.p.getD (m.ptr.val + 4) 0).toNat < 0x4000) (t : State) (q : ERegs) :
    paMove c r (t, q) (true, m) = (if m.write then t.modCore c fun k => { k with y := paCells r (m.ptr.val + 4) m k.y } else t,
      paRegs r (m.ptr.val + 4) m (t.core c).y q) := by
  cases hwrite : m.write with
  | false => simp only [paMove, pmovePtr, hwrite, paRegs, Bool.false_eq_true, if_false, if_true, memRead_of_own true haddr]
  | true => simp only [paMove, pmovePtr, hwrite, paRegs, paCells, if_true, memWrite_of_own true haddr]

/-- A write of X leaves Y as it was. -/
theorem paMove_xy {mx my : PMove} (hx : (r.p.getD mx.ptr.val 0).toNat < 0x4000) (hy : (r.p.getD (my.ptr.val + 4) 0).toNat < 0x4000)
    (t : State) (q : ERegs) :
    paMove c r (paMove c r (t, q) (false, mx)) (true, my) =
      (if mx.write || my.write then t.modCore c fun k => { k with
          x := paCells r mx.ptr.val mx k.x
          y := paCells r (my.ptr.val + 4) my k.y } else t,
        paRegs r (my.ptr.val + 4) my (t.core c).y (paRegs r mx.ptr.val mx (t.core c).x q)) := by
  have hkept : ((if mx.write then t.modCore c fun k => { k with x := paCells r mx.ptr.val mx k.x } else t).core c).y = (t.core c).y := by
    split
    · exact core_modCore_of_fixed Core.y fun _ => rfl
    · rfl
  rw [paMove_x hx, paMove_y hy, hkept]
  cases hmx : mx.write <;> cases hmy : my.write <;>
    simp only [hmx, hmy, Bool.or_false, Bool.or_true, Bool.false_eq_true, if_false, if_true, paCells, modCore_modCore]

end State

/-- Settles O44: the guards of the moves in their order, then the moves themselves after the arithmetic, each by `paMove`. -/
theorem eddyParallelMoves : Obligations.EddyParallelMoves := by
  unfold Obligations.EddyParallelMoves
  intro c ins mv f s r code
  have hcode : code = fun m => State.pmoveCode m.reg := funext fun m => by
    show (if m.reg.toNat < 8 then m.reg.toNat else 49 + m.reg.toNat) = if m.reg.toNat < 8 then m.reg.toNat else 57 + (m.reg.toNat - 8)
    split <;> omega
  clear_value code
  subst hcode
  intro px py ok moves accs waits refused
  refine ⟨fun e he => State.runPA_of_fault he, fun hfault hgo => State.runPA_of_goWaits hfault hgo,
    fun hfault hgo hwaits => State.runPA_of_readWaits hfault hgo hwaits,
    fun hfault hgo hwaits => ⟨fun e he => State.runPA_of_denied hfault hgo hwaits he, State.runPA_of_accepted hfault hgo hwaits⟩,
    ?none, ?ptrX, ?ptrY, ?noAddress, ?window, ?own⟩
  case none =>
    intro hx hy
    have hlist : paMoveList mv = [] := by simp only [paMoveList, hx, hy, List.append_nil]
    rw [State.runPA_of_ownMoves (State.ownMoves_iff.mpr ⟨fun m hm => (nomatch hx.symm.trans hm), fun m hm => (nomatch hy.symm.trans hm)⟩)]
    simp only [State.paMoved, ERegs.afterArith, hlist, List.foldl_nil, List.any_nil]
    rfl
  case ptrX =>
    intro m hx hbad
    refine State.runPA_of_fault ?_
    simp only [State.paAccs, paMoveList, hx, List.singleton_append, List.map_cons]
    exact State.accFault_of_ptrBad _ rfl hbad
  case ptrY =>
    intro m hx hy hbad
    refine State.runPA_of_fault ?_
    simp only [State.paAccs, paMoveList, hx, hy, List.nil_append, List.map_cons]
    exact State.accFault_of_ptrBad _ rfl hbad
  case noAddress =>
    intro m hx hy hptr ha
    refine State.runPA_of_fault ?_
    simp only [State.paAccs, paMoveList, hx, hy, List.nil_append, List.map_cons, List.map_nil]
    rw [State.accFault_singleton fun p hp => Option.some.inj hp ▸ hptr]
    exact State.accessFault_of_no_address ha
  case window =>
    intro m hx hy hptr hread ha
    obtain ⟨hlo, hhi, hfault, hlatched⟩ := ha
    have haccs : s.paAccs c mv = [State.pmoveAcc r false m] := by
      simp only [State.paAccs, paMoveList, hx, hy, List.append_nil, List.map_cons, List.map_nil]
      rfl
    refine State.runPA_of_readWaits ?_ ?_ ?_ <;> rw [haccs]
    · rw [State.accFault_singleton fun p hp => Option.some.inj hp ▸ hptr]
      exact (State.accessFault_of_window hlo hhi).trans hfault
    · exact State.goWaits_of_ne (by simp [State.pmoveAcc])
    · have hwaits : s.readWaits c false (r.p.getD (px m) 0).toNat = true := by
        simp only [State.readWaits, hlatched, decide_eq_true hlo]
        rfl
      rw [List.any_cons, List.any_nil, Bool.or_false, show (State.pmoveAcc r false m).write = false from hread]
      exact hwaits
  case own =>
    intro hx hy stores limits side put a t
    rw [State.runPA_of_ownMoves (State.ownMoves_iff.mpr ⟨hx, hy⟩)]
    have hafter : r.afterArith mv f = a := by
      obtain ⟨x, y, xptr⟩ := mv
      cases x <;> cases y <;> simp [ERegs.afterArith, ERegs.moved, paMoveList, a, limits]
    obtain ⟨x, y, xptr⟩ := mv
    simp only [State.paMoved]
    rw [hafter]
    cases x with
    | none =>
      cases y with
      | none => rfl
      | some my =>
        have hmove := State.paMove_y (c := c) (hy my rfl).2 s a
        exact congrArg (fun z : State × ERegs => z.1.stepOn c z.2 1) hmove
    | some mx =>
      cases y with
      | none =>
        have hmove := State.paMove_x (c := c) (hx mx rfl).2 s a
        rw [← Bool.or_false mx.write] at hmove
        exact congrArg (fun z : State × ERegs => z.1.stepOn c z.2 1) hmove
      | some my =>
        have hmove := State.paMove_xy (c := c) (hx mx rfl).2 (hy my rfl).2 s a
        exact congrArg (fun z : State × ERegs => z.1.stepOn c z.2 1) hmove

end Sys2Proof.Machine
end

section
/-! Single moves: a register from memory and to it, case by case (07 R207, R211-R221, 08 R240). -/
namespace Sys2Proof.Machine
namespace State
variable {s : State} {c : Nat} {i : EIns} {a : Acc1} {code : Nat} {post : ERegs → ERegs}

/-- An access at an address has no pointer to fault. -/
theorem ptrFine_of_none (hptr : a.ptr = none) : s.PtrFine c a := by
  intro p hp
  rw [hptr] at hp
  cases hp

/-! ## Loads -/

theorem loadReg_of_fault {e : Nat} (hfault : s.accFault c [a] = some e) :
    s.loadReg c false i a code post = s.taskFault c e (s.core c).regs.pc.toNat := guarded_of_fault hfault

section
variable (hread : a.write = false) (hfault : s.accFault c [a] = none)
include hread hfault

theorem loadReg_of_readWaits (hwaits : s.readWaits c a.spaceY a.addr = true) : s.loadReg c false i a code post = s.stallOn c 4 i := by
  refine guarded_of_readWaits hfault (goWaits_of_ne ?_) ?_
  · simp [hread]
  · simp [hread, hwaits]

theorem loadReg_of_free (hwaits : s.readWaits c a.spaceY a.addr = false) : s.loadReg c false i a code post =
    (s.memRead c a.spaceY a.addr).2.stepOn c
      ((post ((s.memRead c a.spaceY a.addr).2.core c).regs).write code (s.memRead c a.spaceY a.addr).1) 1 := by
  refine guarded_of_free hfault (goWaits_of_ne ?_) ?_
  · simp [hread]
  · simp [hread, hwaits]

end

/-- A load from the core's own memory. -/
theorem loadReg_of_own (hread : a.write = false) (hown : s.OwnAcc c a) : s.loadReg c false i a code post =
    s.stepOn c ((post (s.core c).regs).write code (cellGet (if a.spaceY then (s.core c).y else (s.core c).x) a.addr)) 1 := by
  rw [loadReg_of_free hread (accFault_of_own (List.forall_mem_singleton.mpr hown)) (readWaits_of_own _ hown.2),
    memRead_of_own _ hown.2]

/-- An access through a window whose shared word is there. -/
structure WindowAcc (s : State) (c : Nat) (a : Acc1) : Prop where
  ptr : s.PtrFine c a
  space : a.spaceY = false
  low : 0x4000 ≤ a.addr
  high : a.addr < 0x8000
  granted : s.winFault c a.addr = none

theorem accFault_of_window (hwin : s.WindowAcc c a) : s.accFault c [a] = none := by
  rw [accFault_singleton hwin.ptr, hwin.space, accessFault_of_window hwin.low hwin.high, hwin.granted]

/-- A load through a window stalls, unless its word is the latched half. -/
theorem loadReg_of_window (hread : a.write = false) (hwin : s.WindowAcc c a) (hlatched : s.winLatched c a.addr = none) :
    s.loadReg c false i a code post = s.stallOn c 4 i := by
  refine loadReg_of_readWaits hread (accFault_of_window hwin) ?_
  simp only [readWaits, hwin.space, hlatched, decide_eq_true hwin.low]
  rfl

/-! ## Stores -/

/-- The registers after a store: what reading an accumulator whole does to VS and SC. -/
def storedRegs (r : ERegs) (code : Nat) (q : ERegs) : ERegs := q.setFlags r.flags false (r.read code).2.1 (r.read code).2.2

theorem storeReg_of_fault {e : Nat} (hfault : s.accFault c [{ a with write := true }] = some e) :
    s.storeReg c i a code post = s.taskFault c e (s.core c).regs.pc.toNat := guarded_of_fault hfault

section
variable (hfault : s.accFault c [{ a with write := true }] = none)
include hfault

theorem storeReg_of_goWaits (hgo : s.goWaits c [{ a with write := true }] = true) : s.storeReg c i a code post = s.stallOn c 5 i :=
  guarded_of_goWaits hfault hgo

variable (hgo : s.goWaits c [{ a with write := true }] = false)
include hgo

theorem storeReg_of_denied {e : Nat} (hdenied : s.goDenied c a ((s.core c).regs.read code).1 = some e) :
    s.storeReg c i a code post = s.taskFault c e (s.core c).regs.pc.toNat := by
  simp only [storeReg, guarded, hfault, hgo, hdenied]
  rfl

theorem storeReg_of_accepted (haccepted : s.goDenied c a ((s.core c).regs.read code).1 = none) : s.storeReg c i a code post =
    (s.memWrite c a.spaceY a.addr ((s.core c).regs.read code).1).stepOn c (storedRegs (s.core c).regs code (post (s.core c).regs)) 1 := by
  simp only [storeReg, guarded, hfault, hgo, haccepted]
  rfl

end

/-- A store anywhere but at DMA_GO. -/
theorem storeReg_of_ne (hfault : s.accFault c [{ a with write := true }] = none) (haddr : a.spaceY = true → a.addr ≠ 0x7F23) :
    s.storeReg c i a code post =
      (s.memWrite c a.spaceY a.addr ((s.core c).regs.read code).1).stepOn c (storedRegs (s.core c).regs code (post (s.core c).regs)) 1 := by
  refine storeReg_of_accepted hfault (goWaits_of_ne ?_) (if_neg ?_)
  · simpa using haddr
  · simpa using haddr

/-- A store to the core's own memory. -/
theorem storeReg_of_own (hown : s.OwnAcc c a) : s.storeReg c i a code post =
    (s.modCore c fun x => if a.spaceY then { x with y := cellSet x.y a.addr ((s.core c).regs.read code).1 }
      else { x with x := cellSet x.x a.addr ((s.core c).regs.read code).1 }).stepOn c
      (storedRegs (s.core c).regs code (post (s.core c).regs)) 1 := by
  have haddr := hown.2
  rw [storeReg_of_ne (accFault_of_own (List.forall_mem_singleton.mpr hown)) fun _ => by omega, memWrite_of_own _ haddr]

/-- A store through a window. -/
theorem storeReg_of_window (hwin : s.WindowAcc c a) : s.storeReg c i a code post =
    (s.winWrite c a.addr ((s.core c).regs.read code).1).stepOn c (storedRegs (s.core c).regs code (post (s.core c).regs)) 1 := by
  have hwrite : s.memWrite c a.spaceY a.addr ((s.core c).regs.read code).1 = s.winWrite c a.addr ((s.core c).regs.read code).1 := by
    rw [hwin.space]
    exact (if_neg Bool.false_ne_true).trans (if_neg (Nat.not_lt.mpr hwin.low))
  rw [storeReg_of_ne (accFault_of_window (a := { a with write := true }) ⟨hwin.ptr, hwin.space, hwin.low, hwin.high, hwin.granted⟩)
    fun hy => absurd (hwin.space.symm.trans hy) Bool.false_ne_true, hwrite]

/-! ## The control page -/

section
variable {at_ : Nat} (hlo : 0x7F00 ≤ at_) (hhi : at_ < 0x8000)
include hlo hhi

theorem loadReg_of_page : s.loadReg c false i { spaceY := true, addr := at_ } code post = (s.pageRead c at_).2.stepOn c
    ((post ((s.pageRead c at_).2.core c).regs).write code (s.pageRead c at_).1) 1 := by
  have hread : s.memRead c true at_ = s.pageRead c at_ := (if_pos rfl).trans (if_neg (by omega))
  rw [loadReg_of_free rfl ((accFault_singleton (ptrFine_of_none rfl)).trans (accessFault_of_page hlo hhi)) rfl, hread]

theorem storeReg_of_page (hne : at_ ≠ 0x7F23) : s.storeReg c i { spaceY := true, addr := at_ } code post =
    (s.pageWrite c at_ ((s.core c).regs.read code).1).stepOn c (storedRegs (s.core c).regs code (post (s.core c).regs)) 1 := by
  have hwrite (v : Q23) : s.memWrite c true at_ v = s.pageWrite c at_ v := (if_pos rfl).trans (if_neg (by omega))
  rw [storeReg_of_ne ((accFault_singleton (ptrFine_of_none rfl)).trans (accessFault_of_page hlo hhi)) fun _ => hne, hwrite]

end

end State
end Sys2Proof.Machine
end

section
/-! The single moves as commands of a running core (07 R207, R211-R221, 08 R240). -/
namespace Sys2Proof.Machine

namespace State
variable {s : State} {c : Nat} {k : BitVec 6}

/-- The access of a single move through a pointer. -/
def throughPtr (r : ERegs) (a : PtrRef) (write : Bool) : Acc1 :=
  { spaceY := a.spaceY
    addr := (if a.idx then r.next a.ptr.val (r.mod a.ptr.val) else r.p.getD a.ptr.val 0).toNat
    ptr := some a.ptr.val
    write := write }

/-- A single move's pointer afterwards. -/
def afterPtr (r : ERegs) (a : PtrRef) (q : ERegs) : ERegs := if a.idx then q else q.setPtr a.ptr.val (r.postMod a.ptr.val a.mode)

section
variable {a : PtrRef} (hmode : a.idx = true → a.mode = 0) (hk : k.toNat ≤ 60)
include hmode hk

theorem okPtr_and_okReg : (okPtr a && okReg k) = true := by
  have hptr : okPtr a = true := by
    cases hidx : a.idx with
    | false => simp [okPtr, hidx]
    | true => simp [okPtr, hmode hidx]
  rw [hptr]
  exact decide_eq_true hk

theorem run_ldp : s.run c false (.ldp a k) =
    s.loadReg c false (.ldp a k) (throughPtr (s.core c).regs a false) k.toNat (afterPtr (s.core c).regs a) :=
  if_neg (EIns.not_illegal (i := .ldp a k) (okPtr_and_okReg hmode hk))

theorem run_stp : s.run c false (.stp a k) =
    s.storeReg c (.stp a k) (throughPtr (s.core c).regs a true) k.toNat (afterPtr (s.core c).regs a) :=
  if_neg (EIns.not_illegal (i := .stp a k) (okPtr_and_okReg hmode hk))

end

section
variable (hk : k.toNat ≤ 60)
include hk

theorem run_lda (y : Bool) (ad : Half) : s.run c false (.lda y k ad) =
    s.loadReg c false (.lda y k ad) { spaceY := y, addr := ad.toNat } k.toNat id :=
  if_neg (EIns.not_illegal (i := .lda y k ad) (decide_eq_true hk))

theorem run_sta (y : Bool) (ad : Half) : s.run c false (.sta y k ad) =
    s.storeReg c (.sta y k ad) { spaceY := y, addr := ad.toNat, write := true } k.toNat id :=
  if_neg (EIns.not_illegal (i := .sta y k ad) (decide_eq_true hk))

theorem mov_legal {rs : BitVec 6} (hrs : rs.toNat ≤ 60) : ¬ (!(EIns.mov k rs).legal) = true :=
  EIns.not_illegal (i := .mov k rs) (Bool.and_eq_true_iff.mpr ⟨decide_eq_true hk, decide_eq_true hrs⟩)

/-- Between whole accumulators, all bits move. -/
theorem run_mov_of_accs {rs : BitVec 6} (hrs : rs.toNat ≤ 60) (hd : 57 ≤ k.toNat) (hs : 57 ≤ rs.toNat) : s.run c false (.mov k rs) =
    s.stepOn c ((s.core c).regs.setAcc (k.toNat - 57) ((s.core c).regs.acc (rs.toNat - 57))) 1 :=
  (if_neg (mov_legal hk hrs)).trans (if_pos ⟨hd, hs⟩)

theorem run_mov_of_word {rs : BitVec 6} (hrs : rs.toNat ≤ 60) (hword : k.toNat < 57 ∨ rs.toNat < 57) : s.run c false (.mov k rs) =
    s.stepOn c ((storedRegs (s.core c).regs rs.toNat (s.core c).regs).write k.toNat ((s.core c).regs.read rs.toNat).1) 1 :=
  (if_neg (mov_legal hk hrs)).trans (if_neg (by omega))

end

end State

/-- Settles O45: each single move's equation of `run`, then the cases of `loadReg` and `storeReg`. -/
theorem eddySingleMoves : Obligations.EddySingleMoves := by
  unfold Obligations.EddySingleMoves
  intro c a k rs ad y s hrun hk r p at_ after mem put moved out loads stores throughPtr atAddress
  have hldp (hmode : a.idx = true → a.mode = 0) := (exec_command_of_runs hrun (i := .ldp a k) rfl).trans
    (congrArg _ (State.run_ldp hmode hk))
  have hstp (hmode : a.idx = true → a.mode = 0) := (exec_command_of_runs hrun (i := .stp a k) rfl).trans
    (congrArg _ (State.run_stp hmode hk))
  have hlda (y : Bool) := (exec_command_of_runs hrun (i := .lda y k ad) rfl).trans (congrArg _ (State.run_lda hk y ad))
  have hsta (y : Bool) := (exec_command_of_runs hrun (i := .sta y k ad) rfl).trans (congrArg _ (State.run_sta hk y ad))
  have hloads {cmd : Instr} {ins : EIns} {at1 : State.Acc1} {post : ERegs → ERegs} (hread : at1.write = false)
      (hexec : exec cmd s = .next (s.loadReg c false ins at1 k.toNat post)) : loads cmd ins at1 post := by
    refine ⟨fun e he => ?_, fun hfault hwaits => ?_, fun hfault hwaits => ?_⟩ <;> rw [hexec]
    · rw [State.loadReg_of_fault he]
    · rw [State.loadReg_of_readWaits hread hfault hwaits]
    · rw [State.loadReg_of_free hread hfault hwaits]
  have hstores {cmd : Instr} {ins : EIns} {at1 : State.Acc1} {post : ERegs → ERegs} (hwrite : { at1 with write := true } = at1)
      (hexec : exec cmd s = .next (s.storeReg c ins at1 k.toNat post)) : stores cmd ins at1 post := by
    simp only [stores]
    rw [hexec, ← hwrite]
    exact ⟨fun e he => congrArg _ (State.storeReg_of_fault he), fun hfault hgo => congrArg _ (State.storeReg_of_goWaits hfault hgo),
      fun hfault hgo => ⟨fun e he => congrArg _ (State.storeReg_of_denied hfault hgo he),
        fun haccepted => congrArg _ (State.storeReg_of_accepted hfault hgo haccepted)⟩⟩
  have hfine (w : Bool) (hbad : r.ptrBad p = false) : s.PtrFine c (throughPtr w) := fun q hq => Option.some.inj hq ▸ hbad
  have hfineAt (y w : Bool) : s.PtrFine c { spaceY := y, addr := ad.toNat, write := w } := State.ptrFine_of_none rfl
  refine ⟨fun hmode => ⟨hloads rfl (hldp hmode), hstores rfl (hstp hmode)⟩, hloads rfl (hlda y), hstores rfl (hsta y),
    fun hmode => ⟨fun hbad => ⟨?_, ?_⟩, fun hbad hown => ⟨?_, ?_⟩, fun hbad hspace hlo hhi hwin => ⟨fun hlatched => ?_, ?_⟩⟩,
    fun hown => ⟨?_, ?_⟩, fun hlo hhi hwin => ⟨fun hlatched => ?_, ?_⟩, fun haddr => ⟨?_, ?_⟩,
    fun hlo hhi hne => ⟨?_, ?_⟩, ?time, ?dma, ?mov⟩
  · exact (hldp hmode).trans (congrArg _ (State.loadReg_of_fault (State.accFault_of_ptrBad [] rfl hbad)))
  · exact (hstp hmode).trans (congrArg _ (State.storeReg_of_fault (State.accFault_of_ptrBad [] rfl hbad)))
  · exact (hldp hmode).trans (congrArg _ (State.loadReg_of_own rfl ⟨hfine false hbad, hown⟩))
  · exact (hstp hmode).trans (congrArg _ (State.storeReg_of_own ⟨hfine true hbad, hown⟩))
  · exact (hldp hmode).trans (congrArg _ (State.loadReg_of_window rfl ⟨hfine false hbad, hspace, hlo, hhi, hwin⟩ hlatched))
  · exact (hstp hmode).trans (congrArg _ (State.storeReg_of_window ⟨hfine true hbad, hspace, hlo, hhi, hwin⟩))
  · exact (hlda y).trans (congrArg _ (State.loadReg_of_own rfl ⟨hfineAt y false, hown⟩))
  · exact (hsta y).trans (congrArg _ (State.storeReg_of_own ⟨hfineAt y true, hown⟩))
  · exact (hlda false).trans (congrArg _ (State.loadReg_of_window rfl ⟨hfineAt false false, rfl, hlo, hhi, hwin⟩ hlatched))
  · exact (hsta false).trans (congrArg _ (State.storeReg_of_window ⟨hfineAt false true, rfl, hlo, hhi, hwin⟩))
  · exact (hlda true).trans (congrArg _ (State.loadReg_of_fault
      ((State.accFault_singleton (hfineAt true false)).trans (State.accessFault_of_no_address haddr))))
  · exact (hsta true).trans (congrArg _ (State.storeReg_of_fault
      ((State.accFault_singleton (hfineAt true true)).trans (State.accessFault_of_no_address haddr))))
  · exact (hlda true).trans (congrArg _ (State.loadReg_of_page hlo hhi))
  · exact (hsta true).trans (congrArg _ (State.storeReg_of_page hlo hhi hne))
  case time =>
    have hrun' : exec (.timeLoRead c k) s = .next (s.run c false (.lda true k 0x7F09)) :=
      congrArg Host.Outcome.next (if_pos hrun)
    rw [hrun', State.run_lda hk, State.loadReg_of_page (by decide) (by decide)]
    rfl
  case dma =>
    intro d denied
    have hrun' : exec (.controlPageDmaGo c k) s = .next (s.run c false (.sta true k 0x7F23)) :=
      congrArg Host.Outcome.next (if_pos hrun)
    have hfault : s.accFault c [{ spaceY := true, addr := (0x7F23 : Half).toNat, write := true }] = none :=
      (State.accFault_singleton (State.ptrFine_of_none rfl)).trans (State.accessFault_of_page (by decide) (by decide))
    have hgo : s.goWaits c [{ spaceY := true, addr := (0x7F23 : Half).toNat, write := true }] = decide (4 ≤ (s.core c).descs.length) :=
      Bool.and_true _
    have hdenied : s.goDenied c { spaceY := true, addr := (0x7F23 : Half).toNat, write := true } (r.read k.toNat).1 = denied :=
      if_pos rfl
    rw [hrun', State.run_sta hk]
    refine ⟨fun hfull => ?_, fun hroom e he => ?_, fun hroom hnone => ?_⟩
    · rw [State.storeReg_of_goWaits hfault (hgo.trans (decide_eq_true hfull))]
    · rw [State.storeReg_of_denied hfault (hgo.trans (decide_eq_false (Nat.not_le.mpr hroom))) (hdenied.trans he)]
    · rw [State.storeReg_of_accepted hfault (hgo.trans (decide_eq_false (Nat.not_le.mpr hroom))) (hdenied.trans hnone)]
      exact congrArg (fun t : State => Host.Outcome.next (t.stepOn c (moved r) 1)) (State.modCore_congr rfl)
  case mov =>
    have hmov := exec_command_of_runs hrun (i := .mov k rs) rfl
    exact fun hrs => ⟨fun hd hs => hmov.trans (congrArg _ (State.run_mov_of_accs hk hrs hd hs)),
      fun hword => hmov.trans (congrArg _ (State.run_mov_of_word hk hrs hword))⟩

end Sys2Proof.Machine
end

section
/-! Immediate, pointer, logic and norm instructions (07 R213, R214, 08 R241-R243). -/
namespace Sys2Proof.Machine

/-! ## Normal form -/

/-- A value within Q1.47. -/
def QFits (x : Int) : Prop := x ≤ qMax ∧ qMin ≤ x

/-- A shift beyond one that leaves Q1.47 leaves it too. -/
theorem not_qFits_of_shift_le {x : Int} {m k : Nat} (hmk : m ≤ k) (hout : ¬ QFits (x * 2 ^ m)) : ¬ QFits (x * 2 ^ k) := by
  obtain ⟨j, rfl⟩ := Nat.exists_eq_add_of_le hmk
  have hj : (1 : Int) ≤ 2 ^ j := Int.add_one_le_of_lt (Int.pow_pos (by decide))
  simp only [QFits, qMax, qMin, Int.pow_add, ← Int.mul_assoc] at hout ⊢
  generalize x * 2 ^ m = y at hout
  intro hin
  rcases Int.le_total 0 y with hy | hy
  · have h := Int.mul_le_mul_of_nonneg_left hj hy
    omega
  · have h := Int.mul_le_mul_of_nonpos_left hy hj
    omega

/-- The search from above finds the largest shift that fits. -/
theorem normCount_eq {x : Int} {sh : Nat} (hpos : 1 ≤ sh) (hin : QFits (x * 2 ^ sh)) (hout : ¬ QFits (x * 2 ^ (sh + 1))) :
    ∀ k, sh ≤ k → normCount x k = sh
  | 0, hk => by omega
  | k + 1, hk => by
    rcases Nat.lt_or_eq_of_le hk with hlt | rfl
    · exact (if_neg (not_qFits_of_shift_le hlt hout)).trans (normCount_eq hpos hin hout k (Nat.le_of_lt_succ hlt))
    · exact if_pos hin

/-- No shift beyond 47 keeps a value that is not 0 within Q1.47. -/
theorem shift_le_of_qFits {x : Int} {sh : Nat} (hx : x ≠ 0) (hin : QFits (x * 2 ^ sh)) : sh ≤ 47 := by
  refine Nat.not_lt.mp fun hlt => ?_
  have hone : ¬ QFits (x * 2 ^ 48) := by simp only [QFits, qMax, qMin]; omega
  exact not_qFits_of_shift_le (by omega) hone hin

/-- A value within Q1.47 is not shifted right. -/
theorem normRight_of_qFits {x : Int} (hin : QFits x) : normRight x 8 0 = 0 :=
  if_pos (by rw [Int.pow_zero, Int.ediv_one]; exact hin)

/-- Normal form of a value with room to the left. -/
theorem normalForm_of_left {r : ERegs} {n k sh : Nat} (hpos : 1 ≤ sh) (hx : accInt (r.acc n) ≠ 0) (hin : QFits (accInt (r.acc n) * 2 ^ sh))
    (hout : ¬ QFits (accInt (r.acc n) * 2 ^ (sh + 1))) :
    let a := toAcc (accInt (r.acc n) * 2 ^ sh)
    (normalForm r n k).1 = ((r.setAcc n a).setData k (BitVec.ofNat 24 sh)).setFlags { resultFlags r.flags a with v := false } false false false := by
  have hzero : QFits (accInt (r.acc n)) :=
    Classical.byContradiction fun hbig => not_qFits_of_shift_le (Nat.zero_le sh) (by rwa [Int.pow_zero, Int.mul_one]) hin
  have hleft := normCount_eq hpos hin hout 47 (shift_le_of_qFits hx hin)
  simp only [normalForm, normRight_of_qFits hzero, hleft, hx, ne_eq, not_false_eq_true, and_self, if_true, gt_iff_lt, Nat.lt_irrefl,
    if_false, BitVec.ofInt_natCast]

theorem signed_half (v : Half) : signed 16 v.toNat = v.toInt := signed_toNat v

/-- Settles O46: the equations of `run` for these instructions, and the search for the normal form. -/
theorem eddyImmediates : Obligations.EddyImmediates := by
  unfold Obligations.EddyImmediates
  intro c k n d p v w s hrun r x im
  have hexec {i : EIns} {cmd : Instr} {t : State} (hcmd : i.command c = some cmd) (hlegal : i.legal = true)
      (heq : s.run c false i = t) : exec cmd s = .next t := State.exec_of_legal hrun hcmd hlegal fun _ => heq
  refine ⟨fun hk => ⟨?ldi, ?ldis⟩, fun hk => ?ldif, ?addi, ?cmpi, fun hbad => ⟨?_, ?_⟩, fun hbad => ⟨?padd, ?pmod⟩, ⟨?_, ?_⟩, ?_, ?norm⟩
  case ldi => exact hexec (i := .ldi k w) rfl (decide_eq_true hk) (if_neg (EIns.not_illegal (i := .ldi k w) (decide_eq_true hk)))
  case ldis =>
    rw [← signed_half]
    exact hexec (i := .ldis k v) rfl (decide_eq_true hk) (if_neg (EIns.not_illegal (i := .ldis k v) (decide_eq_true hk)))
  case ldif =>
    have hreg : (EIns.ldif k v).legal = true :=
      Bool.or_eq_true_iff.mpr (hk.imp decide_eq_true fun h => Bool.and_eq_true_iff.mpr ⟨decide_eq_true h.1, decide_eq_true h.2⟩)
    exact hexec (i := .ldif k v) rfl hreg (if_neg (EIns.not_illegal hreg))
  case addi => exact hexec (i := .addi n v) rfl rfl rfl
  case cmpi => exact hexec (i := .cmpi n v) rfl rfl rfl
  · exact hexec (i := .padd p v) rfl rfl (if_pos hbad)
  · exact hexec (i := .pmod p) rfl rfl (if_pos hbad)
  case padd =>
    rw [← signed_half]
    exact hexec (i := .padd p v) rfl rfl (if_neg (Bool.eq_false_iff.mp hbad))
  case pmod =>
    rw [← signed_half]
    exact hexec (i := .pmod p) rfl rfl (if_neg (Bool.eq_false_iff.mp hbad))
  · exact hexec (i := .andi d v) rfl rfl rfl
  · exact hexec (i := .ori d v) rfl rfl rfl
  · exact hexec (i := .norm n d) rfl rfl rfl
  case norm =>
    intro sh hpos hx hlo hhi hout hn hd q
    have hin : QFits (x * 2 ^ sh) := by simp only [QFits, qMax, qMin]; omega
    have hout' : ¬ QFits (x * 2 ^ (sh + 1)) := by simp only [QFits, qMax, qMin]; omega
    have hq : q = _ := normalForm_of_left hpos hx hin hout'
    have hexact : accInt (toAcc (x * 2 ^ sh)) = x * 2 ^ sh := accInt_toAcc (by omega) (by omega)
    rw [hq]
    exact ⟨(congrArg accInt (r.acc_setAcc_self _ hn)).trans hexact, updAt_getD_self _ _ _ _ hd⟩

end Sys2Proof.Machine
end

section
/-! The block search of vmax and vmin (08 R251). -/
namespace Sys2Proof.Machine

/-! ## The first extreme of a block -/

/-- A word betters another: strictly greater, or with `minimum` strictly smaller. -/
def bettersWord (minimum : Bool) (a b : Int) : Bool := if minimum then decide (a < b) else decide (b < a)

/-- The place of the first extreme among the first words of a block. -/
def firstExtreme (minimum : Bool) (word : Nat → Int) : Nat → Nat
  | 0 => 0
  | m + 1 => if bettersWord minimum (word m) (word (firstExtreme minimum word m)) then m else firstExtreme minimum word m

theorem firstExtreme_one (minimum : Bool) (word : Nat → Int) : firstExtreme minimum word 1 = 0 := by
  rw [firstExtreme, firstExtreme]
  exact ite_self _

section
variable {minimum : Bool} {word : Nat → Int}

theorem bettersWord_trans {a b c : Int} (hab : bettersWord minimum a b = true) (hbc : bettersWord minimum b c = true) :
    bettersWord minimum a c = true := by
  cases minimum <;> simp only [bettersWord, if_true, Bool.false_eq_true, if_false, decide_eq_true_eq] at * <;> omega

/-- What betters a word betters all that do not better that word. -/
theorem bettersWord_of_not {a b c : Int} (hab : bettersWord minimum a b = true) (hcb : bettersWord minimum c b = false) :
    bettersWord minimum a c = true := by
  cases minimum <;>
    simp only [bettersWord, if_true, Bool.false_eq_true, if_false, decide_eq_true_eq, decide_eq_false_iff_not] at * <;> omega

theorem bettersWord_self (a : Int) : bettersWord minimum a a = false := by cases minimum <;> simp [bettersWord]

theorem bettersWord_asymm {a b : Int} (hab : bettersWord minimum a b = true) : bettersWord minimum b a = false :=
  Bool.eq_false_iff.mpr fun hba => Bool.false_ne_true ((bettersWord_self a).symm.trans (bettersWord_trans hab hba))

theorem firstExtreme_lt : ∀ {m : Nat}, 1 ≤ m → firstExtreme minimum word m < m
  | 1, _ => by rw [firstExtreme_one]; decide
  | m + 2, _ => by
    have ih := firstExtreme_lt (Nat.le_add_left 1 m)
    rw [firstExtreme]
    split <;> omega

/-- No word betters the first extreme. -/
theorem not_betters_firstExtreme : ∀ {m i : Nat}, i < m → bettersWord minimum (word i) (word (firstExtreme minimum word m)) = false
  | m + 1, i, hi => by
    have ih {j : Nat} (hj : j < m) := not_betters_firstExtreme hj
    rw [firstExtreme]
    split
    case isTrue hnew =>
      rcases Nat.lt_succ_iff_lt_or_eq.mp hi with hlt | rfl
      · exact bettersWord_asymm (bettersWord_of_not hnew (ih hlt))
      · exact bettersWord_self _
    case isFalse hold =>
      rcases Nat.lt_succ_iff_lt_or_eq.mp hi with hlt | rfl
      · exact ih hlt
      · exact Bool.eq_false_iff.mpr hold

/-- The first extreme betters every word before it. -/
theorem firstExtreme_betters : ∀ {m i : Nat}, i < firstExtreme minimum word m →
    bettersWord minimum (word (firstExtreme minimum word m)) (word i) = true
  | m + 1, i, hi => by
    rw [firstExtreme] at hi ⊢
    split at hi
    case isTrue hnew => rw [if_pos hnew]; exact bettersWord_of_not hnew (not_betters_firstExtreme hi)
    case isFalse hold => rw [if_neg hold]; exact firstExtreme_betters hi

end

/-! ## The search in a core's own memory -/

/-- The registers once a search has compared one more word. -/
def ERegs.compared (r : ERegs) (minimum : Bool) (n i : Nat) (v : Q23) : ERegs :=
  if decide (i = 0) || bettersWord minimum (accInt (wholeAcc v)) (accInt (r.acc n)) then
    { r.setAcc n (wholeAcc v) with i0 := BitVec.ofNat 16 i }
  else r

/-- The registers after one more word of a search, the pointer moving word by word. -/
def ERegs.scanned (r : ERegs) (minimum : Bool) (n p i : Nat) (v : Q23) : ERegs :=
  (r.compared minimum n i v).setPtr p ((r.compared minimum n i v).next p 1)

/-- The registers once a search has read the first words of a block: the extreme, its place, and the pointer behind them. -/
def ERegs.searched (r : ERegs) (minimum : Bool) (n p start : Nat) (word : Nat → Int) (m : Nat) : ERegs :=
  { (r.setAcc n (toAcc (word (firstExtreme minimum word m) * 2 ^ 24))).setPtr p (BitVec.ofNat 16 (start + m)) with
    i0 := BitVec.ofNat 16 (firstExtreme minimum word m) }

theorem wholeAcc_eq (v : Q23) : wholeAcc v = toAcc (v.toInt * 2 ^ 24) := by rw [wholeAcc, signed_toNat]

theorem accInt_toAcc_word (v : Q23) : accInt (toAcc (v.toInt * 2 ^ 24)) = v.toInt * 2 ^ 24 := by
  have hlo := BitVec.le_toInt v
  have hhi := BitVec.toInt_lt (x := v)
  exact accInt_toAcc (by omega) (by omega)

theorem bettersWord_scaled (minimum : Bool) (a b : Int) : bettersWord minimum (a * 2 ^ 24) (b * 2 ^ 24) = bettersWord minimum a b := by
  cases minimum <;> simp only [bettersWord, if_true, Bool.false_eq_true, if_false] <;> exact decide_eq_decide.mpr (by omega)

namespace ERegs
variable {r : ERegs} {p : Nat}

/-- A linear pointer moves on by one. -/
theorem next_one_of_linear (hlinear : r.mr.getLsbD (8 + p) = false) (hlen : r.l.getD p 0 = 0) (hsmall : (r.p.getD p 0).toNat < 0x4000) :
    r.next p 1 = BitVec.ofNat 16 ((r.p.getD p 0).toNat + 1) := by
  have hwrap : wrap 16 (((r.p.getD p 0).toNat : Int) + 1) = (r.p.getD p 0).toNat + 1 := by simp only [wrap]; omega
  simp only [next, hlinear, hlen, Bool.false_eq_true, if_false, hwrap]
  rfl

variable {minimum : Bool} {n start : Nat} {mem : Nat → Q23}

/-- A comparison moves no pointer. -/
theorem compared_next (i : Nat) (v : Q23) (m : Int) : (r.compared minimum n i v).next p m = r.next p m := by
  rw [compared]
  split <;> rfl

/-- The first word is the extreme of itself. -/
theorem scanned_zero (hlinear : r.mr.getLsbD (8 + p) = false) (hlen : r.l.getD p 0 = 0) (hstart : (r.p.getD p 0).toNat = start)
    (hsmall : start < 0x4000) :
    r.scanned minimum n p 0 (mem 0) = r.searched minimum n p start (fun i => (mem i).toInt) 1 := by
  have hnext := next_one_of_linear hlinear hlen (hstart ▸ hsmall)
  rw [scanned, compared_next, hnext, hstart]
  simp only [searched, firstExtreme_one, compared, wholeAcc_eq, decide_true, Bool.true_or, if_true]
  rfl

/-- One word more, from the extreme of those before it. -/
theorem scanned_searched (hn : n < r.a.length) (hp : p < r.p.length) (hlinear : r.mr.getLsbD (8 + p) = false) (hlen : r.l.getD p 0 = 0)
    {i : Nat} (hi : 1 ≤ i) (hsmall : start + i < 0x4000) :
    (r.searched minimum n p start (fun i => (mem i).toInt) i).scanned minimum n p i (mem i) =
      r.searched minimum n p start (fun i => (mem i).toInt) (i + 1) := by
  have hptr : (r.searched minimum n p start (fun i => (mem i).toInt) i).p.getD p 0 = BitVec.ofNat 16 (start + i) :=
    updAt_getD_self _ _ _ _ hp
  have hplace : ((r.searched minimum n p start (fun i => (mem i).toInt) i).p.getD p 0).toNat = start + i := by
    rw [hptr, BitVec.toNat_ofNat]; omega
  have hacc : (r.searched minimum n p start (fun i => (mem i).toInt) i).acc n = _ := r.acc_setAcc_self _ hn
  have hnext := next_one_of_linear (r := r.searched minimum n p start (fun i => (mem i).toInt) i) hlinear hlen (hplace ▸ hsmall)
  have hlater : decide (i = 0) = false := decide_eq_false (by omega)
  rw [scanned, compared_next, hnext, hplace]
  simp only [compared, hacc, hlater, wholeAcc_eq, accInt_toAcc_word, bettersWord_scaled, Bool.false_or]
  cases hbetter : bettersWord minimum (mem i).toInt (mem (firstExtreme minimum (fun i => (mem i).toInt) i)).toInt with
  | false =>
    have hkept : firstExtreme minimum (fun i => (mem i).toInt) (i + 1) = firstExtreme minimum (fun i => (mem i).toInt) i :=
      if_neg (Bool.eq_false_iff.mp hbetter)
    simp only [searched, hkept, setPtr, updAt_updAt, Bool.false_eq_true, if_false, Nat.add_assoc]
  | true =>
    have hnew : firstExtreme minimum (fun i => (mem i).toInt) (i + 1) = i := if_pos hbetter
    simp only [searched, hnew, setPtr, setAcc, updAt_updAt, if_true, Nat.add_assoc]

end ERegs

namespace State
variable {c : Nat} {minimum y : Bool} {n p : Nat}

/-- One word of a search through the core's own memory. -/
theorem scan_succ_of_own {t : State} (hptr : (t.core c).regs.ptrBad p = false) (haddr : ((t.core c).regs.p.getD p 0).toNat < 0x4000)
    (fuel i : Nat) : scan c minimum n y p false (fuel + 1) i t = scan c minimum n y p false fuel (i + 1)
      (t.setRegs c ((t.core c).regs.scanned minimum n p i
        (cellGet (if y then (t.core c).y else (t.core c).x) ((t.core c).regs.p.getD p 0).toNat))) := by
  have hown : t.OwnAcc c { spaceY := y, addr := ((t.core c).regs.p.getD p 0).toNat, ptr := some p } :=
    ⟨fun q hq => Option.some.inj hq ▸ hptr, haddr⟩
  rw [scan, accFault_of_own (List.forall_mem_singleton.mpr hown), memRead_of_own y haddr]
  rfl

/-- A word of the core's own memory, counted from where a search starts. -/
def ownWord (s : State) (c : Nat) (y : Bool) (start i : Nat) : Q23 :=
  cellGet (if y then (s.core c).y else (s.core c).x) (start + i)

theorem core_setRegs {s : State} (hc : c < s.eddy.cores.length) (q : ERegs) : (s.setRegs c q).core c = { s.core c with regs := q } :=
  core_modCore s c _ hc

theorem setRegs_setRegs (s : State) (q q' : ERegs) : (s.setRegs c q).setRegs c q' = s.setRegs c q' := modCore_modCore s c _ _

/-- A linear pointer is always legal. -/
theorem ptrBad_of_linear {r : ERegs} (hlinear : r.mr.getLsbD (8 + p) = false) (hlen : r.l.getD p 0 = 0) : r.ptrBad p = false := by
  simp only [ERegs.ptrBad, hlinear, hlen, Bool.false_eq_true, if_false]
  rfl

section
variable {s : State} (hc : c < s.eddy.cores.length) (hlinear : (s.core c).regs.mr.getLsbD (8 + p) = false)
  (hlen : (s.core c).regs.l.getD p 0 = 0) (hn : n < (s.core c).regs.a.length) (hp : p < (s.core c).regs.p.length)
  {start : Nat} (hstart : ((s.core c).regs.p.getD p 0).toNat = start)
include hc hlinear hlen hn hp

/-- A search goes on through the core's own memory to its end. -/
theorem scan_of_searched : ∀ (fuel i : Nat), 1 ≤ i → start + (i + fuel) ≤ 0x4000 →
    scan c minimum n y p false fuel i (s.setRegs c ((s.core c).regs.searched minimum n p start (fun j => (s.ownWord c y start j).toInt) i)) =
      (s.setRegs c ((s.core c).regs.searched minimum n p start (fun j => (s.ownWord c y start j).toInt) (i + fuel)), none)
  | 0, _, _, _ => rfl
  | fuel + 1, i, hi, hend => by
    have hcore := core_setRegs hc ((s.core c).regs.searched minimum n p start (fun j => (s.ownWord c y start j).toInt) i)
    have hptr : ((s.core c).regs.searched minimum n p start (fun j => (s.ownWord c y start j).toInt) i).p.getD p 0
        = BitVec.ofNat 16 (start + i) := updAt_getD_self _ _ _ _ hp
    have hplace : (BitVec.ofNat 16 (start + i)).toNat = start + i := by rw [BitVec.toNat_ofNat]; omega
    rw [scan_succ_of_own (by rw [hcore]; exact ptrBad_of_linear hlinear hlen) (by rw [hcore]; dsimp only; rw [hptr, hplace]; omega)]
    rw [hcore, setRegs_setRegs]
    dsimp only
    rw [hptr, hplace]
    have hscanned := ERegs.scanned_searched (minimum := minimum) (start := start) (mem := s.ownWord c y start) hn hp hlinear hlen hi (by omega)
    rw [show cellGet (if y then (s.core c).y else (s.core c).x) (start + i) = s.ownWord c y start i from rfl, hscanned,
      scan_of_searched fuel (i + 1) (by omega) (by omega), Nat.add_right_comm, Nat.add_assoc]

include hstart

/-- A whole search of a block in the core's own memory. -/
theorem scan_of_own {m : Nat} (hm : 1 ≤ m) (hend : start + m ≤ 0x4000) : scan c minimum n y p false m 0 s =
    (s.setRegs c ((s.core c).regs.searched minimum n p start (fun j => (s.ownWord c y start j).toInt) m), none) := by
  obtain ⟨fuel, rfl⟩ := Nat.exists_eq_add_of_le hm
  have hscanned := ERegs.scanned_zero (minimum := minimum) (n := n) (mem := s.ownWord c y start) hlinear hlen hstart (by omega)
  rw [Nat.add_comm 1 fuel, scan_succ_of_own (ptrBad_of_linear hlinear hlen) (by omega), hstart]
  rw [show cellGet (if y then (s.core c).y else (s.core c).x) start = s.ownWord c y start 0 from rfl, hscanned,
    scan_of_searched hc hlinear hlen hn hp fuel 1 (by omega) (by omega), Nat.add_comm 1 fuel]

end

/-! ## The instruction -/

section
variable {s : State} {granted : Bool} {i : EIns} {byM : Bool} {count : Nat}

theorem runScan_of_readWaits (hwaits : (s.readWaits c y ((s.core c).regs.p.getD p 0).toNat
      && (s.accessFault c y ((s.core c).regs.p.getD p 0).toNat).isNone) = true) :
    s.runScan c false i minimum n y p byM count = s.stallOn c 4 i := if_pos hwaits

variable (hwaits : (s.readWaits c y ((s.core c).regs.p.getD p 0).toNat
  && (s.accessFault c y ((s.core c).regs.p.getD p 0).toNat).isNone) = false)
include hwaits

theorem runScan_of_fault {z : State} {e : Nat} (hscan : scan c minimum n y p byM count 0 s = (z, some e)) :
    s.runScan c false i minimum n y p byM count = z.taskFault c e (s.core c).regs.pc.toNat := by
  refine (if_neg (Bool.eq_false_iff.mp hwaits)).trans ?_
  rw [hscan]

theorem runScan_of_end {z : State} (hscan : scan c minimum n y p byM count 0 s = (z, none)) :
    s.runScan c false i minimum n y p byM count = z.stepOn c ((z.core c).regs.setFlags
      { resultFlags (z.core c).regs.flags ((z.core c).regs.acc n) with v := false } false false false) (count + 2) := by
  refine (if_neg (Bool.eq_false_iff.mp hwaits)).trans ?_
  rw [hscan]

end

end State

/-- Settles O48: `runScan`'s cases, and in the core's own memory the invariant that the registers hold the first extreme of the words
read so far. -/
theorem eddyBlockSearch : Obligations.EddyBlockSearch := by
  unfold Obligations.EddyBlockSearch
  intro c minimum n y byM p count s hrun r m start word before cmd waits
  have hexec : exec cmd s = .next (s.runScan c false (.vext minimum n y p byM count) minimum n.val y p.val byM m) := by
    refine exec_command_of_runs hrun (i := .vext minimum n y p byM count) ?_
    cases minimum <;> rfl
  refine ⟨fun hwaits => hexec.trans (congrArg _ (State.runScan_of_readWaits hwaits)), fun hwaits => ?scan, ?own⟩
  case scan =>
    intro z
    exact ⟨fun e he => hexec.trans (congrArg _ (State.runScan_of_fault hwaits (Prod.ext rfl he))),
      fun he => hexec.trans (congrArg _ (State.runScan_of_end hwaits (Prod.ext rfl he)))⟩
  case own =>
    intro hc hlinear hlen hn hp hend
    have hm : 1 ≤ m := by
      by_cases hcount : count = 0
      · simp only [m, if_pos hcount]; decide
      · simp only [m, if_neg hcount]
        exact Nat.one_le_iff_ne_zero.mpr fun h => hcount (BitVec.eq_of_toNat_eq h)
    have hbefore (a b : Int) : before a b ↔ bettersWord minimum a b = true := by
      cases minimum <;> simp [before, bettersWord]
    refine ⟨firstExtreme minimum word m, firstExtreme_lt hm,
      fun i hi => mt (hbefore _ _).mp (Bool.eq_false_iff.mp (not_betters_firstExtreme hi)),
      fun i hi => (hbefore _ _).mpr (firstExtreme_betters hi), ?_⟩
    intro a q hbyOne
    subst hbyOne
    have hown : start < 0x4000 := by omega
    have hwaits : (s.readWaits c y start && (s.accessFault c y start).isNone) = false := by
      rw [State.readWaits_of_own y hown, Bool.false_and]
    have hscan : State.scan c minimum n.val y p.val false m 0 s = (s.setRegs c q, none) :=
      State.scan_of_own hc hlinear hlen hn hp rfl hm hend
    have hacc : q.acc n.val = a := r.acc_setAcc_self _ hn
    rw [hexec, State.runScan_of_end hwaits hscan, State.core_setRegs hc]
    dsimp only
    rw [hacc]
    rfl

end Sys2Proof.Machine
end

section
/-! What happens to a core beside its instructions (07 R220-R222, R225-R230, 08 R252). -/
namespace Sys2Proof.Machine

namespace State
variable {s : State} {c : Nat}

/-! ## The end of stalls -/

theorem postStallEnd_of_posted {z : Bool} (hposted : (s.retryHeld.core c).posted = some z) (hstate : (s.retryHeld.core c).state = .wait)
    (hkind : (s.retryHeld.core c).waitKind = 2) :
    s.postStallEnd c = s.retryHeld.stepOn c (ERegs.setZ (s.retryHeld.core c).regs z) 2 := by
  simp only [postStallEnd, hposted]
  exact if_pos ⟨hstate, hkind⟩

theorem postStallEnd_of_not_posted (hposted : (s.retryHeld.core c).posted = none) : s.postStallEnd c = s.retryHeld := by
  simp only [postStallEnd, hposted]

theorem postStallEnd_of_not_stalled (hstate : (s.retryHeld.core c).state ≠ .wait ∨ (s.retryHeld.core c).waitKind ≠ 2) :
    s.postStallEnd c = s.retryHeld := by
  cases hposted : (s.retryHeld.core c).posted with
  | none => exact postStallEnd_of_not_posted hposted
  | some z =>
    simp only [postStallEnd, hposted]
    exact if_neg (by grind only)

/-- A semaphore that nobody owns is handed to its oldest waiting acquire. -/
def handed (s : State) (sem : Nat) : State := if s.eddy.sems.getD sem none = none then s.freeSem sem else s

theorem handed_eq (sem : Nat) : (if (s.semOwner sem).isNone then s.freeSem sem else s) = s.handed sem := by
  simp only [handed, Option.isNone_iff_eq_none, semOwner]

/-- The waiting acquire that owns the semaphore goes on. -/
theorem semGrant_of_owner {sem o : Nat} {w : Nat × Nat × Nat} (hwait : (s.handed sem).eddy.semWait.find? (fun q => q.1 == sem) = some w)
    (howner : (s.handed sem).semOwner sem = some o) : s.semGrant sem =
      if w.2.2 = o then
        ({ s.handed sem with eddy := { (s.handed sem).eddy with semWait := (s.handed sem).eddy.semWait.erase w } } : State).stepOn o
          ((s.handed sem).core o).regs 1
      else s.handed sem := by
  simp only [semGrant, handed_eq, hwait, howner]

theorem semGrant_rests {sem : Nat} (h : (s.handed sem).eddy.semWait.find? (fun q => q.1 == sem) = none ∨ (s.handed sem).semOwner sem = none) :
    s.semGrant sem = s.handed sem := by
  rcases h with hwait | howner
  · simp only [semGrant, handed_eq, hwait]
  · cases hwait : (s.handed sem).eddy.semWait.find? (fun q => q.1 == sem) <;> simp only [semGrant, handed_eq, howner, hwait]

theorem windowReturn_of_stalled {i : EIns} (hstall : (s.core c).stall = some i) (hstate : (s.core c).state = .wait)
    (hkind : (s.core c).waitKind = 4) : s.windowReturn c = (s.modCore c fun x => { x with state := .run }).run c true i := by
  simp only [windowReturn, hstall]
  exact if_pos ⟨hstate, hkind⟩

theorem windowReturn_of_not_stalled (h : (s.core c).stall = none ∨ (s.core c).state ≠ .wait ∨ (s.core c).waitKind ≠ 4) :
    s.windowReturn c = s := by
  cases hstall : (s.core c).stall with
  | none => simp only [windowReturn, hstall]
  | some i =>
    have hidle := h.resolve_left (by simp [hstall])
    simp only [windowReturn, hstall]
    exact if_neg (by grind only)

theorem descriptorDone_of_stalled {i : EIns} (hstall : ((s.dmaDone c).core c).stall = some i) (hstate : ((s.dmaDone c).core c).state = .wait)
    (hkind : ((s.dmaDone c).core c).waitKind = 5) (hroom : ((s.dmaDone c).core c).descs.length < 4) :
    s.descriptorDone c = ((s.dmaDone c).modCore c fun x => { x with state := .run }).run c true i := by
  simp only [descriptorDone, hstall]
  exact if_pos ⟨hstate, hkind, hroom⟩

theorem descriptorDone_of_not_stalled (h : ((s.dmaDone c).core c).stall = none ∨ ((s.dmaDone c).core c).state ≠ .wait
      ∨ ((s.dmaDone c).core c).waitKind ≠ 5 ∨ 4 ≤ ((s.dmaDone c).core c).descs.length) : s.descriptorDone c = s.dmaDone c := by
  cases hstall : ((s.dmaDone c).core c).stall with
  | none => simp only [descriptorDone, hstall]
  | some i =>
    have hidle := h.resolve_left (by simp [hstall])
    simp only [descriptorDone, hstall]
    exact if_neg fun ⟨hstate, hkind, hroom⟩ => by
      rcases hidle with h1 | h2 | h3
      · exact h1 hstate
      · exact h2 hkind
      · omega

/-! ## The runtime limit -/

section
variable (hending : (s.core c).ending = false) (hflow : (s.core c).flow ≠ none) (hlate : s.rtLimit c ≤ s.taskTime c)
include hending hflow hlate

theorem runtimeLimit_acts (hstate : (s.core c).state = .run ∨ (s.core c).state = .wait) :
    ¬ ((s.core c).ending = true ∨ (s.core c).flow.isNone = true ∨ ¬ ((s.core c).state = .run ∨ (s.core c).state = .wait)
      ∨ s.taskTime c < s.rtLimit c) := by
  rintro (h | h | h | h)
  · exact Bool.false_ne_true (hending.symm.trans h)
  · exact hflow (Option.isNone_iff_eq_none.mp h)
  · exact h hstate
  · omega

theorem runtimeLimit_of_wait (hstate : (s.core c).state = .wait) : s.runtimeLimit c = s.taskFault c 1 (s.core c).regs.pc.toNat := by
  refine (if_neg (runtimeLimit_acts hending hflow hlate (Or.inr hstate))).trans ?_
  simp only [hstate]
  rfl

/-- A block search under way stops between two words. -/
theorem runtimeLimit_of_search {m y b : Bool} {n : Fin 4} {p : Fin 8} {k : BitVec 14} (hstate : (s.core c).state = .run)
    (hins : decodeIns (cellGet (s.core c).prog (s.core c).regs.pc.toNat) = .vext m n y p b k) :
    s.runtimeLimit c = (scan c m n.val y p.val b ((s.free 14).1.toNat % scanCount k) 0 (s.free 14).2).1.taskFault c 1
      (s.core c).regs.pc.toNat := by
  refine (if_neg (runtimeLimit_acts hending hflow hlate (Or.inl hstate))).trans ?_
  simp only [hstate, hins]
  rfl

theorem runtimeLimit_of_run (hstate : (s.core c).state = .run)
    (hins : ∀ m n y p b k, decodeIns (cellGet (s.core c).prog (s.core c).regs.pc.toNat) ≠ .vext m n y p b k) :
    s.runtimeLimit c = s.taskFault c 1 (s.core c).regs.pc.toNat := by
  refine (if_neg (runtimeLimit_acts hending hflow hlate (Or.inl hstate))).trans ?_
  simp only [hstate]
  split
  · exact (hins _ _ _ _ _ _ ‹_›).elim
  · rfl

end

/-! ## Debug control -/

/-- What a STEP bit does first: a halted core with a task executes one instruction. -/
def stepBit (s : State) (c : Nat) (v : Word) : State :=
  if v.getLsbD 1 = true ∧ (s.core c).state = .halted ∧ (s.core c).haltedFrom = .run then
    if inImage (s.core c) (s.core c).regs.pc.toNat then
      (s.leaveHalt c .run).run c false (decodeIns (cellGet (s.core c).prog (s.core c).regs.pc.toNat))
    else (s.leaveHalt c .run).taskFault c 3 (s.core c).regs.pc.toNat
  else s

theorem writeEdyCtrl_eq (hc : c < s.nCores) (v : Word) : s.writeEdyCtrl c v = (s.stepBit c v).writeHalt c (v.getLsbD 0) := by
  have hstep : (if v.getLsbD 1 then s.stepHalted c else s) = s.stepBit c v := by
    cases hbit : v.getLsbD 1 with
    | false => exact (if_neg Bool.false_ne_true).trans (if_neg fun h => Bool.false_ne_true (hbit.symm.trans h.1)).symm
    | true =>
      by_cases hhalted : (s.core c).state = .halted ∧ (s.core c).haltedFrom = .run
      · exact (if_pos rfl).trans ((if_pos hhalted).trans (if_pos ⟨hbit, hhalted⟩).symm)
      · exact (if_pos rfl).trans ((if_neg hhalted).trans (if_neg fun h => hhalted h.2).symm)
  rw [writeEdyCtrl, if_neg (Nat.not_le.mpr hc), hstep]

/-- HALT is noted first. -/
def notedHalt (s : State) (c : Nat) (halt : Bool) : State := s.modCore c fun x => { x with haltReq := halt }

theorem writeHalt_of_run (hstate : (s.core c).state = .run) : s.writeHalt c true = (s.notedHalt c true).enterHalt c .run := by
  simp only [writeHalt, hstate]
  rfl

theorem writeHalt_of_idle (hstate : (s.core c).state = .idle) : s.writeHalt c true = (s.notedHalt c true).enterHalt c .idle := by
  simp only [writeHalt, hstate]
  rfl

theorem writeHalt_of_later (hrun : (s.core c).state ≠ .run) (hidle : (s.core c).state ≠ .idle) : s.writeHalt c true = s.notedHalt c true := by
  cases hstate : (s.core c).state with
  | run => exact absurd hstate hrun
  | idle => exact absurd hstate hidle
  | _ => simp only [writeHalt, hstate]; rfl

theorem writeHalt_of_release_not_halted (hstate : (s.core c).state ≠ .halted) : s.writeHalt c false = s.notedHalt c false :=
  if_neg hstate

section
variable (hstate : (s.core c).state = .halted)
include hstate

theorem writeHalt_of_resume (hfrom : (s.core c).haltedFrom = .run) :
    s.writeHalt c false = ((s.notedHalt c false).leaveHalt c .run).fetch c (s.core c).regs.pc.toNat :=
  (if_pos hstate).trans (if_pos hfrom)

theorem writeHalt_of_park (hfrom : (s.core c).haltedFrom ≠ .run) (hpark : (s.core c).parkPending = true) :
    s.writeHalt c false = ((s.notedHalt c false).leaveHalt c .idle).parkCore c :=
  (if_pos hstate).trans ((if_neg hfrom).trans (if_pos hpark))

theorem writeHalt_of_rest (hfrom : (s.core c).haltedFrom ≠ .run) (hpark : (s.core c).parkPending = false) :
    s.writeHalt c false = (s.notedHalt c false).leaveHalt c .idle :=
  (if_pos hstate).trans ((if_neg hfrom).trans (if_neg (Bool.eq_false_iff.mp hpark)))

end

end State

/-- Settles O49: each event's cases. -/
theorem eddyCoreEvents : Obligations.EddyCoreEvents := by
  unfold Obligations.EddyCoreEvents
  intro c sem v s x
  refine ⟨fun hstate hkind => exec_of_eq rfl (if_pos ⟨hstate, hkind⟩), fun h => exec_of_eq rfl (if_neg (by grind only)),
    fun z hposted hstate hkind => exec_of_eq rfl (State.postStallEnd_of_posted hposted hstate hkind),
    fun hposted => exec_of_eq rfl (State.postStallEnd_of_not_posted hposted),
    fun hstate => exec_of_eq rfl (State.postStallEnd_of_not_stalled hstate), ?grant,
    fun i hstall hstate hkind => exec_of_eq rfl (State.windowReturn_of_stalled hstall hstate hkind),
    fun h => exec_of_eq rfl (State.windowReturn_of_not_stalled h), ?descriptor, ?undrained, ?taskEnd,
    fun hending hflow hstate hlate => exec_of_eq rfl (State.runtimeLimit_of_wait hending hflow hlate hstate),
    fun hending hflow hstate hlate hins => exec_of_eq rfl (State.runtimeLimit_of_run hending hflow hlate hstate hins),
    fun hending hflow hstate hlate m n y p b k hins => exec_of_eq rfl (State.runtimeLimit_of_search hending hflow hlate hstate hins),
    ?limitRests, fun hc => ⟨exec_of_eq rfl (if_pos hc), exec_of_eq rfl (if_pos hc)⟩, ?debug⟩
  case grant =>
    intro u
    have hu : u = s.handed sem := rfl
    rw [hu]
    exact ⟨fun w o hwait howner =>
        ⟨fun hown => exec_of_eq rfl ((State.semGrant_of_owner hwait howner).trans (if_pos hown)),
          fun hother => exec_of_eq rfl ((State.semGrant_of_owner hwait howner).trans (if_neg hother))⟩,
      fun h => exec_of_eq rfl (State.semGrant_rests h)⟩
  case descriptor =>
    intro u
    have hu : u = s.dmaDone c := rfl
    rw [hu]
    exact ⟨fun h => exec_of_eq rfl (State.descriptorDone_of_not_stalled h),
      fun i hstall hstate hkind hroom => exec_of_eq rfl (State.descriptorDone_of_stalled hstall hstate hkind hroom)⟩
  case undrained =>
    intro h
    refine exec_of_eq rfl (if_pos ?_)
    rcases h with h | h
    · rw [show (s.core c).ending = false from h]; rfl
    · rw [show (s.core c).descs.isEmpty = false from Bool.eq_false_iff.mpr fun hnil => h (List.isEmpty_iff.mp hnil), Bool.and_false]; rfl
  case taskEnd =>
    intro hending hdescs u w
    have hdrained : ¬ (!((s.core c).ending && (s.core c).descs.isEmpty)) = true := by
      rw [show (s.core c).ending = true from hending, show (s.core c).descs = [] from hdescs]
      decide
    refine ⟨fun h1 => exec_of_eq rfl ((if_neg hdrained).trans (if_pos h1)),
      fun h1 h2 => exec_of_eq rfl ((if_neg hdrained).trans ((if_neg (Bool.eq_false_iff.mp h1)).trans (if_pos h2))),
      fun h1 h2 h3 => exec_of_eq rfl ((if_neg hdrained).trans ((if_neg (Bool.eq_false_iff.mp h1)).trans
        ((if_neg (Bool.eq_false_iff.mp h2)).trans (if_pos h3)))),
      fun h1 h2 h3 => exec_of_eq rfl ((if_neg hdrained).trans ((if_neg (Bool.eq_false_iff.mp h1)).trans
        ((if_neg (Bool.eq_false_iff.mp h2)).trans (if_neg (Bool.eq_false_iff.mp h3)))))⟩
  case limitRests =>
    intro h
    refine exec_of_eq rfl (if_pos ?_)
    rw [Option.isNone_iff_eq_none]
    grind only
  case debug =>
    intro hc stepped k t halts
    have hctrl := State.writeEdyCtrl_eq hc v
    have hhalts {u : State} (h : (s.stepBit c v).writeHalt c (v.getLsbD 0) = u) : halts u :=
      ⟨exec_of_eq rfl (hctrl.trans h), exec_of_eq rfl (hctrl.trans h)⟩
    refine ⟨fun hbit => ⟨fun hrun => hhalts ?_, fun hidle => hhalts ?_, fun hrun hidle => hhalts ?_⟩, fun hbit =>
      ⟨fun hstate => hhalts ?_, fun hstate hfrom => hhalts ?_, fun hstate hfrom hpark => hhalts ?_, fun hstate hfrom hpark => hhalts ?_⟩⟩
    all_goals simp only [t, hbit]
    · exact State.writeHalt_of_run hrun
    · exact State.writeHalt_of_idle hidle
    · exact State.writeHalt_of_later hrun hidle
    · exact State.writeHalt_of_release_not_halted hstate
    · exact State.writeHalt_of_resume hstate hfrom
    · exact State.writeHalt_of_park hstate hfrom hpark
    · exact State.writeHalt_of_rest hstate hfrom hpark

end Sys2Proof.Machine
end

section
/-! Feedback of a local port (11 R309-R312, R314-R319, R335, R337). -/
namespace Sys2Proof.Machine

namespace State
variable {s : State} {n : Nat}

/-- Two changes that agree on a local port change the state alike. -/
theorem modLPort_congr {f g : LPort → LPort} (h : f (s.lport n) = g (s.lport n)) : s.modLPort n f = s.modLPort n g :=
  congrArg (fun l => { s with ports := l }) (updAt_congr {} h)

/-- What a change of a local port leaves alone, whether or not the part has that port. -/
theorem lport_modLPort_of_fixed {α : Type} (P : LPort → α) {f : LPort → LPort} (hf : ∀ p, P (f p) = P p) :
    P ((s.modLPort n f).lport n) = P (s.lport n) := by
  by_cases hn : n < s.ports.length
  · rw [lport_modLPort s n f hn, hf]
  · have hmissing : (s.modLPort n f).lport n = s.lport n := by
      simp [lport, modLPort, updAt_length, Nat.not_lt.mp hn]
    rw [hmissing]

theorem quadPhase_lt (a b : Bool) : quadPhase a b < 4 := by cases a <;> cases b <;> decide

end State

/-- Settles O50: each event's cases. -/
theorem localFeedback : Obligations.LocalFeedback := by
  unfold Obligations.LocalFeedback
  intro n ch ns delay5 a b dir crcOk data s p
  refine ⟨fun hn => ⟨exec_of_eq rfl (if_pos hn), exec_of_eq rfl (if_pos hn), exec_of_eq rfl (if_neg fun h => by omega),
    exec_of_eq rfl (if_pos (Or.inl hn)), exec_of_eq rfl (if_pos (Or.inl hn))⟩, fun h => exec_of_eq rfl (if_pos h), fun hn => ?_⟩
  have hlocal : ¬ n ≥ s.nLocal := Nat.not_le.mpr hn
  intro cpr expect t turn
  refine ⟨fun h0 => exec_of_eq rfl ((if_neg hlocal).trans (if_pos h0)),
    fun h2 => exec_of_eq rfl ((if_neg hlocal).trans ((if_neg fun h0 => absurd (h2.symm.trans h0) (by decide)).trans (if_pos h2))), ?count, ?index,
    fun hserial hfunc => exec_of_eq rfl ((if_pos ⟨hn, hserial, hfunc⟩).trans (State.modLPort_congr rfl)), ?noFrame,
    fun hbusy started => exec_of_eq rfl (if_pos (Or.inr hbusy)), ?frame,
    fun hch => exec_of_eq rfl (if_neg (by omega)),
    fun hfunc hgoes => exec_of_eq rfl (if_neg ?steps), fun h => exec_of_eq rfl (if_pos (Or.inr h))⟩
  case count =>
    intro hturn neg u
    have hcfg : (t.lport n).cfg = p.cfg := State.lport_modLPort_of_fixed LPort.cfg fun _ => rfl
    have hu : (t.modLPort n fun q => State.countQuad q ((turn == 3) != (q.fld 1 4 1 == 1))) = u := by
      have hneg : ((turn == 3) != ((t.lport n).fld 1 4 1 == 1)) = neg := by
        simp only [LPort.fld, hcfg]
        rfl
      refine State.modLPort_congr ?_
      rw [hneg]
      rfl
    have hother {k : Nat} (h1 : k ≠ 1) (h3 : k ≠ 3) : ¬ turn = k := fun h =>
      hturn.elim (fun h' => h1 (h.symm.trans h')) fun h' => h3 (h.symm.trans h')
    refine ⟨fun hnone => ?_, fun i hi => ?_⟩
    all_goals refine exec_of_eq rfl ((if_neg hlocal).trans ((if_neg (hother (by decide) (by decide))).trans
        ((if_neg (hother (by decide) (by decide))).trans ?_)))
    · rw [hu]
      simp only [hnone]
    · rw [hu]
      simp only [hi, p]
  case index =>
    intro home d act seen put
    refine ⟨fun hfirst => exec_of_eq rfl ((if_neg hlocal).trans (if_pos (congrArg not hfirst))), fun href => ?_⟩
    have hseen : ¬ (!p.fbk.referenced) = true := by rw [href]; decide
    refine ⟨fun h => ?_, fun hact hd => ?_, fun hact hd => ?_, fun hact hd => ?_⟩
    all_goals refine exec_of_eq rfl ((if_neg hlocal).trans ((if_neg hseen).trans ?_))
    · exact if_pos h
    all_goals refine (if_neg (not_or.mpr ⟨fun h => absurd (hact.symm.trans h) (by decide), hd⟩)).trans (congrArg home ?_)
    · exact (if_neg (fun h => absurd (hact.symm.trans h) (by decide))).trans (if_neg (Nat.not_le.mpr (Nat.lt_of_le_of_lt (Nat.le_of_eq hact) (by decide))))
    · exact (if_neg (fun h => absurd (hact.symm.trans h) (by decide))).trans (if_pos (Nat.le_of_eq hact.symm))
    · exact (if_pos hact).trans (congrArg (State.latchFault · n 4) (if_pos (Nat.le_trans (by decide) (Nat.le_of_eq hact.symm))))
  case noFrame => 
    intro h
    exact exec_of_eq rfl (if_neg fun ⟨_, hserial, hfunc⟩ => h.elim (fun h => Bool.false_ne_true (h.symm.trans hserial)) hfunc)
  case steps => 
    rintro (h | h | h)
    · exact hlocal h
    · exact h hfunc
    · exact Bool.false_ne_true (hgoes.symm.trans h)
  case frame =>
    intro hbusy
    have hgoes : ¬ (n ≥ s.nLocal ∨ p.fbk.serBusy = false) :=
      not_or.mpr ⟨hlocal, fun h => Bool.false_ne_true (h.symm.trans hbusy)⟩
    refine ⟨exec_of_eq rfl ((if_neg hgoes).trans (if_pos (Or.inl rfl))),
      fun hframed => exec_of_eq rfl ((if_neg hgoes).trans (if_pos (Or.inr ⟨hframed, rfl⟩))), fun hgood => ?_⟩
    intro raw word w at_ put
    have hpass : ¬ ((!true) = true ∨ (p.fld 4 0 1 = 1 ∧ crcOk = false)) := by
      rintro (h | ⟨hframed, hcrc⟩)
      · exact Bool.false_ne_true h
      · exact hgood.elim (fun h => h hframed) fun h => Bool.false_ne_true (hcrc.symm.trans h)
    refine ⟨fun hnew => ?_, fun q0 last hq hlast => ?_⟩
    · refine exec_of_eq rfl ((if_neg hgoes).trans ((if_neg hpass).trans ?_))
      rcases hnew with hq | hlast
      · simp only [show (s.lport n).fbk.serQ = none from hq]
        rfl
      · cases hq : (s.lport n).fbk.serQ <;> simp only [show (s.lport n).fbk.serLast = none from hlast] <;> rfl
    · intro pos
      refine ⟨fun hplain => ?_, fun hext => ?_⟩
      all_goals refine exec_of_eq rfl ((if_neg hgoes).trans ((if_neg hpass).trans ?_))
      all_goals simp only [show (s.lport n).fbk.serQ = some q0 from hq, show (s.lport n).fbk.serLast = some last from hlast]
      · rw [if_neg hplain]
      · rw [if_pos hext]

end Sys2Proof.Machine
end

section
/-! Fault latches and pulse width of a local port (11 R320, R324-R330). -/
namespace Sys2Proof.Machine

namespace State
variable {s : State} {n : Nat}

/-- A latched cause is added to those there are. -/
theorem latchFault_of_latched (cause : Nat) (hlatched : (s.lport n).pwm.latched = true) :
    s.latchFault n cause = s.modLPort n fun q => { q with pwm := { q.pwm with
      latched := true
      forced := true
      causes := q.pwm.causes ||| BitVec.ofNat 5 (2 ^ cause) } } := by
  simp only [latchFault, hlatched, if_true]

end State

/-- Settles O51: each event's and each register's cases. -/
theorem localFaultsAndPwm : Obligations.LocalFaultsAndPwm := by
  unfold Obligations.LocalFaultsAndPwm
  intro n pair v asserted s p pin
  refine ⟨fun hn hfunc hlimit => exec_of_eq rfl (if_pos ⟨hn, hfunc, hlimit⟩), fun h => exec_of_eq rfl (if_neg ?noLimit), fun hn => ?faultN, rfl,
    fun hn hset hrun => exec_of_eq rfl (if_pos ⟨hn, hset, hrun⟩), fun h => exec_of_eq rfl (if_neg ?noLoss),
    fun cause hlatched => State.latchFault_of_latched cause hlatched, ?first,
    fun hbit => exec_of_eq rfl (if_pos (congrArg not hbit)), fun hbit hpresent => exec_of_eq rfl ?refused, ?cleared,
    fun hn => ⟨exec_of_eq rfl (if_pos hn), exec_of_eq rfl (if_pos hn)⟩, fun hn => exec_of_eq rfl (if_neg (Nat.not_le.mpr hn)),
    ?waiting, fun hsync => exec_of_eq rfl (State.modLPort_congr (if_pos hsync)),
    fun hsync => exec_of_eq rfl (State.modLPort_congr (if_neg (Bool.eq_false_iff.mp hsync))), fun hpair => exec_of_eq rfl (if_pos hpair),
    ?driven, ?buffered, ?immediate, rfl⟩
  case noLimit =>
    rintro ⟨hn, hfunc, hlimit⟩
    exact h.elim (Nat.not_le.mpr hn) fun h => h.elim hfunc hlimit
  case noLoss =>
    rintro ⟨hn, hset, hrun⟩
    exact h.elim (Nat.not_le.mpr hn) fun h => h.elim hset (Nat.not_lt.mpr hrun)
  case faultN =>
    have hlocal : ¬ n ≥ s.nLocal := Nat.not_le.mpr hn
    refine ⟨fun h => exec_of_eq rfl ((if_neg hlocal).trans (if_neg ?_)), fun hasserted hfunc => ?_⟩
    · show ¬ (asserted && true && (pin.lport n).func != 0) = true
      rcases h with h | h
      · rw [h]
        exact Bool.false_ne_true
      · simp [h]
    · refine exec_of_eq rfl ((if_neg hlocal).trans (if_pos ?_))
      show (asserted && true && (pin.lport n).func != 0) = true
      simp [hasserted, hfunc]
  case first =>
    intro cause hlatched first told u
    have hu : s.latchFault n cause = match u.axisOf n with | some i => u.faultCause i 6 false | none => u := by
      simp only [State.latchFault, show (s.lport n).pwm.latched = false from hlatched, Bool.false_eq_true, if_false]
      rfl
    exact ⟨fun hnone => by rw [hu, hnone], fun i hi => by rw [hu, hi]⟩
  case refused => exact (if_neg (by rw [hbit]; decide)).trans (if_pos hpresent)
  case cleared =>
    intro hbit hclear u
    have hu : s.writeFltclr n v = match u.axisOf n with | some i => u.causeClear i 6 | none => u :=
      (if_neg (by rw [hbit]; decide)).trans (if_neg (Bool.eq_false_iff.mp hclear))
    exact ⟨fun hnone => exec_of_eq rfl (by rw [hu, hnone]), fun i hi => exec_of_eq rfl (by rw [hu, hi])⟩
  case waiting =>
    intro q hpending hcommit hwritten
    refine (if_pos hpending).trans (if_neg ?_)
    rw [hcommit, Bool.false_or]
    exact fun h => hwritten (beq_iff_eq.mp h)
  case driven =>
    intro hpair hloop
    refine exec_of_eq rfl ((if_neg (Nat.not_le.mpr hpair)).trans (State.modLPort_congr (if_pos hloop)))
  case buffered =>
    intro hpair hloop h
    refine exec_of_eq rfl ((if_neg (Nat.not_le.mpr hpair)).trans (State.modLPort_congr ((if_neg (Bool.eq_false_iff.mp hloop)).trans (if_neg ?_))))
    rintro ⟨hmode, hidle⟩
    rcases h with h | h
    · exact absurd (h.symm.trans hmode) (by decide)
    · exact Bool.false_ne_true (hidle.symm.trans h)
  case immediate =>
    intro hpair hloop hmode hidle
    refine exec_of_eq rfl ((if_neg (Nat.not_le.mpr hpair)).trans (State.modLPort_congr ((if_neg (Bool.eq_false_iff.mp hloop)).trans (if_pos ⟨hmode, hidle⟩))))

end Sys2Proof.Machine
end

section
/-! Mark inputs, limit and home inputs, and samples of the modulators (10 R291-R293, R296, R297, 11 R319, 12 R347). -/
namespace Sys2Proof.Machine

namespace State
variable {s : State} {i : Nat}

/-! ## Marks -/

/-- The time of a mark edge in 2^-16 ns. -/
def markTime (ns : Nat) (frac : Half) : Nat := ns * 65536 + frac.toNat

/-- An edge becomes its input's latest mark. -/
def withMark (s : State) (input : Nat) (rising : Bool) (ns : Nat) (frac : Half) : State :=
  { s with acq := { s.acq with marks := updAt s.acq.marks input fun x => { x with
    ns := BitVec.ofNat 64 ns
    frac := frac
    rising := rising
    count := x.count + 1
    prev := some (markTime ns frac) } } }

/-- A mark is offered to the recorder and to the axes. -/
def offered (s : State) (input : Nat) (rising : Bool) (ns : Nat) (frac : Half) : State :=
  let w := s.acqMark input (markTime ns frac) rising
  runAll (offerMark ns frac input rising (w.localCount ns)) (List.range w.nAxes) w

/-- What follows a mark edge that counts. -/
def markSeen (u : State) (input : Nat) (rising : Bool) (ns : Nat) (frac : Half) : State :=
  let capt := u.acq.wantsEdge input rising && u.captures ns
  let z := if capt then u.sampleLost else (false, u)
  let e : QEdge := { ns := ns, frac := frac, input := input, rising := rising, lost := z.1 }
  (if capt then { z.2 with acq := { z.2.acq with edges := z.2.acq.edges ++ [e] } } else z.2).offered input rising ns frac

section
variable {input ns : Nat} {rising : Bool} {frac : Half}

theorem markSeen_of_unwanted (h : s.acq.wantsEdge input rising = false ∨ s.captures ns = false) :
    s.markSeen input rising ns frac = s.offered input rising ns frac := by
  have hcapt : (s.acq.wantsEdge input rising && s.captures ns) = false := Bool.and_eq_false_iff.mpr h
  simp only [markSeen, hcapt, Bool.false_eq_true, if_false]

theorem markSeen_of_captured (hwants : s.acq.wantsEdge input rising = true) (hcaptures : s.captures ns = true) :
    s.markSeen input rising ns frac = State.offered { s.sampleLost.2 with acq := { s.sampleLost.2.acq with
      edges := s.sampleLost.2.acq.edges ++ [{ ns := ns, frac := frac, input := input, rising := rising, lost := s.sampleLost.1 }] } }
      input rising ns frac := by
  simp only [markSeen, hwants, hcaptures, Bool.and_self, if_true]

variable (hinput : input < 16)
include hinput

theorem markEdge_of_close {q : Nat} (hprev : (s.acq.marks.getD input {}).prev = some q) (hclose : markTime ns frac < q + 50 * 65536) :
    s.markEdge input rising ns frac = { s with acq := { s.acq with
      close := satInc s.acq.close
      marks := updAt s.acq.marks input fun x => { x with prev := some (markTime ns frac) } } } := by
  refine (if_neg (Nat.not_le.mpr hinput)).trans (if_pos ?_)
  simp only [hprev]
  exact decide_eq_true hclose

theorem markEdge_of_far (hfar : ∀ q, (s.acq.marks.getD input {}).prev = some q → q + 50 * 65536 ≤ markTime ns frac) :
    s.markEdge input rising ns frac = (s.withMark input rising ns frac).markSeen input rising ns frac := by
  refine (if_neg (Nat.not_le.mpr hinput)).trans (if_neg ?_)
  cases hprev : (s.acq.marks.getD input {}).prev with
  | none => exact Bool.false_ne_true
  | some q => simpa [markTime] using hfar q hprev

end

/-! ## Torque at a hard stop -/

theorem hardStop_iff (a : Axis) : (a.prof.state = .homing ∧ a.prof.homing.method = 3 ∧ (!a.prof.homing.found) = true
      ∧ a.prof.homing.tqRun ≥ a.prof.homing.tqTime ∧ a.prof.homing.tqTime ≠ 0)
    ↔ a.prof.state = .homing ∧ a.prof.homing.method = 3 ∧ a.prof.homing.found = false ∧ a.prof.homing.tqTime ≠ 0
      ∧ a.prof.homing.tqTime ≤ a.prof.homing.tqRun := by
  simp only [Bool.not_eq_true', ge_iff_le]
  grind only

/-! ## Samples of the modulators -/

/-- What the recorder makes of a sample of one of its signals. -/
def sdJudged (u : State) (port signal : Nat) (val : Half) (stamp : Nat) : State :=
  let capt := u.captures stamp
  let z := if capt then u.sampleLost else (false, u)
  let q : QSd := { signal := signal, inst := stamp, val := val, lost := z.1 }
  let w := if capt then { z.2 with acq := { z.2.acq with sds := z.2.acq.sds ++ [q] } } else z.2
  let lv := if z.1 then (w.acq, []) else levelSample w.acq signal (w.sdPeriod port) val stamp
  ({ w with acq := lv.1 } : State).fireConds lv.2

/-- The level conditions judge a sample. -/
def levelJudged (w : State) (port signal : Nat) (val : Half) (stamp : Nat) : State :=
  ({ w with acq := (levelSample w.acq signal (w.sdPeriod port) val stamp).1 } : State).fireConds
    (levelSample w.acq signal (w.sdPeriod port) val stamp).2

/-- A recorded sample. -/
def withSample (u : State) (signal : Nat) (val : Half) (stamp : Nat) : State :=
  { u.sampleLost.2 with acq := { u.sampleLost.2.acq with sds := u.sampleLost.2.acq.sds ++ [{
    signal := signal
    inst := stamp
    val := val
    lost := u.sampleLost.1 }] } }

section
variable {port signal stamp : Nat} {val : Half}

theorem sdJudged_of_unrecorded (hcaptures : s.captures stamp = false) :
    s.sdJudged port signal val stamp = s.levelJudged port signal val stamp := by
  simp only [sdJudged, hcaptures, Bool.false_eq_true, if_false, levelJudged]

theorem sdJudged_of_recorded (hcaptures : s.captures stamp = true) (hkept : s.sampleLost.1 = false) :
    s.sdJudged port signal val stamp = (s.withSample signal val stamp).levelJudged port signal val stamp := by
  simp only [sdJudged, hcaptures, if_true, hkept, Bool.false_eq_true, if_false, levelJudged, withSample]

theorem sdJudged_of_lost (hcaptures : s.captures stamp = true) (hlost : s.sampleLost.1 = true) :
    s.sdJudged port signal val stamp = (s.withSample signal val stamp).fireConds [] := by
  simp only [sdJudged, hcaptures, if_true, hlost, withSample]

end

end State

/-- Settles O52: each event's cases. -/
theorem qualifiedInputs : Obligations.QualifiedInputs := by
  unfold Obligations.QualifiedInputs
  intro input ns i port ch stamp rising level frac val count s m t
  refine ⟨fun hinput => exec_of_eq rfl (if_pos hinput),
    fun hinput ⟨q, hprev, hclose⟩ => exec_of_eq rfl (State.markEdge_of_close hinput hprev hclose), ?far,
    fun hi pin => exec_of_eq rfl (if_pos hi), ?axis, fun h => exec_of_eq rfl (if_pos h), ?sample⟩
  case far =>
    intro hinput hfar u
    exact ⟨fun h => exec_of_eq rfl ((State.markEdge_of_far hinput hfar).trans (State.markSeen_of_unwanted h)),
      fun hwants hcaptures => exec_of_eq rfl ((State.markEdge_of_far hinput hfar).trans (State.markSeen_of_captured hwants hcaptures))⟩
  case axis =>
    intro a was now h
    refine ⟨fun hi => ⟨fun pin hsame => ?same, fun pin hnew => ⟨fun hstate => ?check, fun hstate hpast => ?past, fun hstate hlevel hseen => ?_⟩⟩,
      fun h1 h2 h3 h4 h5 => exec_of_eq rfl (if_pos ((State.hardStop_iff a).mpr ⟨h1, h2, h3, h4, h5⟩)),
      fun hno => exec_of_eq rfl (if_neg fun hcond => ?_)⟩
    case same => cases pin <;> exact exec_of_eq rfl ((if_neg (Nat.not_le.mpr hi)).trans (if_pos hsame))
    case check => cases pin <;> exact exec_of_eq rfl ((if_neg (Nat.not_le.mpr hi)).trans ((if_neg hnew).trans (if_neg hstate)))
    case past =>
      have hcond : (!level || (was pin).ignore) = true := by
        rcases hpast with h | h <;> simp [h]
      cases pin <;> exact exec_of_eq rfl ((if_neg (Nat.not_le.mpr hi)).trans ((if_neg hnew).trans ((if_pos hstate).trans (if_pos hcond))))
    · have hgo : ¬ (!level || (was pin).ignore) = true := by simp [hlevel, hseen]
      refine ⟨?positive, ?negative, ?homeIgnored, ?homeFound⟩
      case positive =>
        rintro rfl
        exact exec_of_eq rfl ((if_neg (Nat.not_le.mpr hi)).trans ((if_neg hnew).trans ((if_pos hstate).trans (if_neg hgo))))
      case negative =>
        rintro rfl
        exact exec_of_eq rfl ((if_neg (Nat.not_le.mpr hi)).trans ((if_neg hnew).trans ((if_pos hstate).trans (if_neg hgo))))
      case homeIgnored =>
        rintro rfl hno
        have hcond : ¬ (decide (h.method = 1) && !h.found && (h.phase == 1 || h.phase == 2)) = true := by
          simp only [Bool.and_eq_true, decide_eq_true_eq, Bool.not_eq_true', Bool.or_eq_true, beq_iff_eq]
          rintro ⟨⟨hmethod, hfound⟩, hphase⟩
          rcases hno with h1 | h2 | ⟨h3, h4⟩
          · exact h1 hmethod
          · exact Bool.false_ne_true (hfound.symm.trans h2)
          · exact hphase.elim h3 h4
        exact exec_of_eq rfl ((if_neg (Nat.not_le.mpr hi)).trans ((if_neg hnew).trans ((if_pos hstate).trans ((if_neg hgo).trans (if_neg hcond)))))
      case homeFound =>
        rintro rfl hmethod hfound hphase past
        have hcond : (decide (h.method = 1) && !h.found && (h.phase == 1 || h.phase == 2)) = true := by
          simp only [Bool.and_eq_true, decide_eq_true_eq, Bool.not_eq_true', Bool.or_eq_true, beq_iff_eq]
          exact ⟨⟨hmethod, hfound⟩, hphase⟩
        refine ⟨fun hindex => ?_, fun hindex => ?_⟩
        all_goals refine exec_of_eq rfl ((if_neg (Nat.not_le.mpr hi)).trans ((if_neg hnew).trans ((if_pos hstate).trans
          ((if_neg hgo).trans ((if_pos hcond).trans ?_)))))
        · exact if_neg (Bool.eq_false_iff.mp hindex)
        · exact if_pos hindex
    · obtain ⟨h1, h2, h3, h4, h5⟩ := (State.hardStop_iff a).mp hcond
      rcases hno with h | h | h | h | h
      · exact h h1
      · exact h h2
      · exact Bool.false_ne_true (h3.symm.trans h)
      · exact h4 h
      · exact Nat.not_lt.mpr h5 h
  case sample =>
    intro hport hch u signal judge
    have hexec {w : State} (h : s.sdSample port ch val stamp = w) : exec (.acqSdSample port ch val stamp) s = .next w := exec_of_eq rfl h
    have hchannel : ¬ (port ≥ s.nLocal ∨ ch ≥ 3) := by omega
    refine ⟨fun hidle => hexec ((if_neg hchannel).trans ?_), fun x hx harmed => ?_⟩
    · dsimp only
      split
      case h_1 => rfl
      case h_2 x hx =>
        refine hidle.elim (fun hnone => ?_) fun hdisarmed => if_pos (congrArg not hdisarmed)
        cases hnone.symm.trans hx
    · have hjudged : s.sdSample port ch val stamp = u.sdJudged port x.1 val stamp := by
        refine (if_neg hchannel).trans ?_
        dsimp only
        split
        case h_1 hnone => cases hx.symm.trans hnone
        case h_2 y hy =>
          obtain rfl := Option.some.inj (hx.symm.trans hy)
          exact if_neg (by rw [show (s.modLPort port _).acq.armed = true from harmed]; decide)
      exact ⟨fun hcaptures => hexec (hjudged.trans (State.sdJudged_of_unrecorded hcaptures)),
        fun hcaptures => ⟨fun hkept => hexec (hjudged.trans (State.sdJudged_of_recorded hcaptures hkept)),
          fun hlost => hexec (hjudged.trans (State.sdJudged_of_lost hcaptures hlost))⟩⟩

end Sys2Proof.Machine
end

section
/-! The recorder's events (12 R350-R353, R359, R363). -/
namespace Sys2Proof.Machine

namespace State
variable {s : State} {c n : Nat} {r : QRec}

/-! ## Hold times -/

theorem holdExpiry_of_due {t : Nat} (htill : (s.acq.conds.getD c {}).trueTill = some t) (hdue : t ≤ s.now) :
    s.holdExpiry c = { s with acq := { s.acq with conds := updAt s.acq.conds c fun x => { x with
      isTrue := false
      trueTill := none } } } := by
  refine congrArg (fun l => { s with acq := { s.acq with conds := l } }) (updAt_congr {} ?_)
  simp only [htill, if_pos hdue]

theorem holdExpiry_rests (h : ∀ t, (s.acq.conds.getD c {}).trueTill = some t → s.now < t) : s.holdExpiry c = s := by
  refine (congrArg (fun l => { s with acq := { s.acq with conds := l } }) ((updAt_congr (g := fun x => x) {} ?_).trans (updAt_id _ _)) : _)
  cases htill : (s.acq.conds.getD c {}).trueTill with
  | none => rfl
  | some t => simp only [if_neg (Nat.not_le.mpr (h t htill))]

/-! ## The end of a record -/

theorem recordDone_of_end (hcur : s.acq.cur = some r) (hstate : s.acq.state = .recording) (hend : r.endFine ≤ s.nowFine)
    (hlen : (s.acq.frames.filter fun f => r.holds (f.inst * 65536)).length = r.len) :
    s.recordDone = (s.closeRecord r).afterRecord r := by
  simp only [recordDone, hcur]
  exact if_pos ⟨hstate, hend, hlen⟩

theorem recordDone_rests (hcur : s.acq.cur = some r) (h : s.acq.state ≠ .recording ∨ s.nowFine < r.endFine
      ∨ (s.acq.frames.filter fun f => r.holds (f.inst * 65536)).length ≠ r.len) : s.recordDone = s := by
  simp only [recordDone, hcur]
  refine if_neg fun ⟨hstate, hend, hlen⟩ => ?_
  rcases h with h | h | h
  · exact h hstate
  · exact Nat.not_lt.mpr hend h
  · exact h hlen

theorem acquisitionOver_iff (a : Acq) : (!a.loop || (a.nRec != 0 && decide (a.taken ≥ a.nRec))) = true
    ↔ a.loop = false ∨ (a.nRec ≠ 0 ∧ a.nRec ≤ a.taken) := by
  simp [Bool.or_eq_true, Bool.and_eq_true]

theorem afterRecord_of_over (h : s.acq.loop = false ∨ (s.acq.nRec ≠ 0 ∧ s.acq.nRec ≤ s.acq.taken)) :
    s.afterRecord r = { s with acq := { s.acq with
      state := .done
      tA := none } } := if_pos ((acquisitionOver_iff _).mpr h)

section
variable (hloop : s.acq.loop = true) (hmore : s.acq.nRec = 0 ∨ s.acq.taken < s.acq.nRec)
include hloop hmore

theorem acquisition_goes_on : ¬ (!s.acq.loop || (s.acq.nRec != 0 && decide (s.acq.taken ≥ s.acq.nRec))) = true := by
  rw [acquisitionOver_iff]
  rintro (h | ⟨hcount, htaken⟩)
  · exact Bool.false_ne_true (h.symm.trans hloop)
  · omega

theorem afterRecord_of_no_slot (hslot : s.slotFree = false) : s.afterRecord r = { s with acq := { s.acq with
      state := .waitSlot
      tA := none
      frames := []
      sds := []
      edges := [] } } :=
  (if_neg (acquisition_goes_on hloop hmore)).trans (if_neg (Bool.eq_false_iff.mp hslot))

theorem afterRecord_of_slot (hslot : s.slotFree = true) : s.afterRecord r =
    { s with acq := { s.acq with
      state := .filling
      tA := some (s.nextFrameAfter (ceilDiv r.endFine 65536 - 1))
      readyAt := s.nextFrameAfter (ceilDiv r.endFine 65536 - 1) + s.acq.nPre * s.acqP
      frames := s.acq.frames.filter fun f => decide (s.nextFrameAfter (ceilDiv r.endFine 65536 - 1) ≤ f.inst)
      sds := s.acq.sds.filter fun f => decide (s.nextFrameAfter (ceilDiv r.endFine 65536 - 1) ≤ f.inst)
      edges := s.acq.edges.filter fun e => decide (s.nextFrameAfter (ceilDiv r.endFine 65536 - 1) ≤ e.ns) } } :=
  (if_neg (acquisition_goes_on hloop hmore)).trans (if_pos hslot)

end

/-! ## Blocks to the host -/

theorem ringBlock_of_none (h : s.acq.ringOf = none ∨ nextCopy s.acq = none) : s.ringBlock = s := by
  rcases h with hring | hcopy
  · simp only [ringBlock, hring]
  · cases hring : s.acq.ringOf <;> simp only [ringBlock, hring, hcopy]

end State

/-- Settles O53: each event's cases. -/
theorem recorderEvents : Obligations.RecorderEvents := by
  unfold Obligations.RecorderEvents
  intro c n r s a
  refine ⟨fun h1 h2 h3 => exec_of_eq rfl (if_pos ⟨h1, Option.isSome_iff_ne_none.mpr h2, h3⟩), fun h => exec_of_eq rfl (if_neg ?notReady),
    fun t htill hdue => exec_of_eq rfl (State.holdExpiry_of_due htill hdue), fun h => exec_of_eq rfl (State.holdExpiry_rests h),
    fun hcur => exec_of_eq rfl ?noRecord, ?done, fun hcur h => exec_of_eq rfl (State.recordDone_rests hcur h),
    fun h => exec_of_eq rfl (State.ringBlock_of_none h), ?block⟩
  case notReady =>
    rintro ⟨h1, h2, h3⟩
    rcases h with h | h | h
    · exact h h1
    · exact Option.isSome_iff_ne_none.mp h2 h
    · exact Nat.not_lt.mpr h3 h
  case noRecord => simp only [State.recordDone, show s.acq.cur = none from hcur]
  case done =>
    intro hcur hstate hend hlen u
    have hdone {w : State} (h : u.afterRecord r = w) : exec .acqRecordDone s = .next w :=
      exec_of_eq rfl ((State.recordDone_of_end hcur hstate hend hlen).trans h)
    exact ⟨fun hover => hdone (State.afterRecord_of_over hover),
      fun hloop hmore hslot => hdone (State.afterRecord_of_no_slot hloop hmore hslot),
      fun hloop hmore hslot => hdone (State.afterRecord_of_slot hloop hmore hslot)⟩
  case block =>
    intro hring hcopy g size len pos used last addr entry
    refine ⟨fun h => exec_of_eq rfl ?_, fun hroom hfits hfree => ?_⟩
    · simp only [State.ringBlock, show s.acq.ringOf = some n from hring, show State.nextCopy s.acq = some r from hcopy]
      rcases h with hroom | h
      · exact if_pos (congrArg not hroom)
      · refine (ite_eq_left_iff.mpr fun _ => if_pos ?_)
        exact h.imp id fun ⟨b, hb, hmeet⟩ => List.any_eq_true.mpr ⟨b, hb, hmeet⟩
    · intro u
      have hphase : b2n (decide (g.tail.toNat < g.size)) = if g.tail.toNat < g.size then 1 else 0 := by
        simp only [b2n, decide_eq_true_eq]
      refine exec_of_eq rfl ?_
      simp only [State.ringBlock, show s.acq.ringOf = some n from hring, show State.nextCopy s.acq = some r from hcopy]
      refine (if_neg (by rw [show (s.ring n).room 3 = true from hroom]; decide)).trans ((if_neg ?_).trans ?_)
      · rintro (h | h)
        · exact Nat.not_le.mpr h hfits
        · obtain ⟨b, hb, hmeet⟩ := List.any_eq_true.mp h
          exact Bool.false_ne_true ((hfree b hb).symm.trans hmeet)
      · rw [show b2n (decide ((s.ring n).tail.toNat < (s.ring n).size)) = _ from hphase]
        rfl

end Sys2Proof.Machine
end

section
/-! The records between twins, what their absence does, forwarded commands and lanes (13 R365-R374). -/
namespace Sys2Proof.Machine

namespace State
variable {s : State}

/-! ## Cycle records -/

/-- Nothing from a partner is read outside a pair whose Oxbow is up. -/
theorem no_partner_iff : (!(s.twn.state.paired && s.oxbowUp)) = true ↔ s.twn.state.paired = false ∨ s.oxbowUp = false := by
  rw [Bool.not_eq_true', Bool.and_eq_false_iff]

theorem partner_speaks (hpaired : s.twn.state.paired = true) (hup : s.oxbowUp = true) : ¬ (!(s.twn.state.paired && s.oxbowUp)) = true := by
  rw [hpaired, hup]
  decide

/-- The state that a record leaves before the partner's state is considered. -/
def recordTaken (s : State) (r : CycleRec) : State :=
  let f := s.free 64
  let follows := f.2.twn.state == .standby || f.2.twn.state == .joining
  let t : State := { f.2 with
    tmb := { f.2.tmb with partnerGap := if follows then some (signed 64 f.1.toNat) else none }
    twn := { f.2.twn with
      missing := 0
      peerHealth := r.health
      peerState := field r.health.toNat 27 3
      peerCrc := r.crc
      peerClaim := r.claim
      fwds := takeAcks r.acks f.2.twn.fwds } }
  let t := t.compareCrc r
  if t.twn.state = .standby ∧ r.claim = t.twn.ownClaim then t.outOfStep else t

/-- What an active head, or one alone, makes of its partner's state. -/
def partnerState (u : State) (ps : Nat) : State :=
  match u.twn.state with
  | .active => if ps = 0 ∨ ps = 1 ∨ ps = 5 ∨ ps = 6 then u.goAlone 5 else u
  | .alone =>
    if ps = 1 ∧ u.twn.phase = 0 then u.serveJoin
    else if ps ≠ 1 ∧ ps ≠ 3 ∧ u.twn.phase ≠ 0 then { u with twn := { u.twn with phase := 0, entry := none, noDispatch := false } }
    else u
  | _ => u

theorem cycleRecord_of_paired (hpaired : s.twn.state.paired = true) (hup : s.oxbowUp = true) (r : CycleRec) :
    s.cycleRecord r = (s.recordTaken r).partnerState (field r.health.toNat 27 3) :=
  if_neg (partner_speaks hpaired hup)

section
variable {u : State} {ps : Nat}

theorem partnerState_of_active (hstate : u.twn.state = .active) :
    u.partnerState ps = if ps = 0 ∨ ps = 1 ∨ ps = 5 ∨ ps = 6 then u.goAlone 5 else u := by
  simp only [partnerState, hstate]

theorem partnerState_of_alone (hstate : u.twn.state = .alone) : u.partnerState ps =
    if ps = 1 ∧ u.twn.phase = 0 then u.serveJoin
    else if ps ≠ 1 ∧ ps ≠ 3 ∧ u.twn.phase ≠ 0 then { u with twn := { u.twn with phase := 0, entry := none, noDispatch := false } }
    else u := by
  simp only [partnerState, hstate]

theorem partnerState_rests (hactive : u.twn.state ≠ .active) (halone : u.twn.state ≠ .alone) : u.partnerState ps = u := by
  cases hstate : u.twn.state with
  | active => exact absurd hstate hactive
  | alone => exact absurd hstate halone
  | _ => simp only [partnerState, hstate]

end

/-! ## Missing records -/

/-- A missing record is counted. -/
def missed (s : State) : State := { s with twn := { s.twn with
  missing := s.twn.missing + 1
  missTotal := s.twn.missTotal + 1
  missCnt := satInc s.twn.missCnt
  missFirst := if s.twn.missing = 0 then (s.k, s.twn.ownCrc) else s.twn.missFirst } }

/-- What the absence of a record makes a head do. -/
def missedActs (u : State) : State :=
  match u.twn.state with
  | .standby =>
    if u.twn.missing ≥ u.twn.takeover ∧ u.twn.appliedOwn = true then
      ({ u with twn := { u.twn with promoted := true, claims := [] }, tmb := { u.tmb with partnerGap := none } } : State).goAlone 1
    else u
  | .outOfStep => u.twinLinksDown
  | _ => u.checkIsolated

theorem recordMissing_of_paired (hpaired : s.twn.state.paired = true) : s.recordMissing = s.missed.missedActs :=
  if_neg (by rw [hpaired]; decide)

section
variable {u : State}

theorem missedActs_of_standby (hstate : u.twn.state = .standby) : u.missedActs =
    if u.twn.missing ≥ u.twn.takeover ∧ u.twn.appliedOwn = true then
      ({ u with twn := { u.twn with promoted := true, claims := [] }, tmb := { u.tmb with partnerGap := none } } : State).goAlone 1
    else u := by
  simp only [missedActs, hstate]

theorem missedActs_of_outOfStep (hstate : u.twn.state = .outOfStep) : u.missedActs = u.twinLinksDown := by
  simp only [missedActs, hstate]

theorem missedActs_of_other (hstandby : u.twn.state ≠ .standby) (hout : u.twn.state ≠ .outOfStep) : u.missedActs = u.checkIsolated := by
  cases hstate : u.twn.state with
  | standby => exact absurd hstate hstandby
  | outOfStep => exact absurd hstate hout
  | _ => simp only [missedActs, hstate]

end

theorem holdTimeout_of_active (hmissing : 64 ≤ s.twn.missing) (hstate : s.twn.state = .active) : s.holdTimeout = s.goAlone 5 := by
  refine (if_neg (Nat.not_lt.mpr hmissing)).trans ?_
  simp only [hstate]

theorem holdTimeout_of_standby (hmissing : 64 ≤ s.twn.missing) (hstate : s.twn.state = .standby) :
    s.holdTimeout = (s.eventDiverged 3 s.twn.missFirst.1 s.twn.missFirst.2 0).outOfStep := by
  refine (if_neg (Nat.not_lt.mpr hmissing)).trans ?_
  simp only [hstate]

theorem holdTimeout_of_other (hmissing : 64 ≤ s.twn.missing) (hactive : s.twn.state ≠ .active) (hstandby : s.twn.state ≠ .standby) :
    s.holdTimeout = s := by
  refine (if_neg (Nat.not_lt.mpr hmissing)).trans ?_
  cases hstate : s.twn.state with
  | active => exact absurd hstate hactive
  | standby => exact absurd hstate hstandby
  | _ => rfl

/-! ## Forwarded commands -/

section
variable {seq target : Nat} {cmd : Cmd} {op : Op}

theorem forwardReceived_of_unknown (hpaired : s.twn.state.paired = true) (hup : s.oxbowUp = true) (hop : opOf cmd.opcode = none) :
    s.forwardReceived seq cmd target = s.ackForward seq false := by
  refine (if_neg (partner_speaks hpaired hup)).trans ?_
  rw [hop]

theorem forwardReceived_of_refused (hpaired : s.twn.state.paired = true) (hup : s.oxbowUp = true) (hop : opOf cmd.opcode = some op)
    (hrefused : s.twn.state ≠ .standby ∨ twinForwarded cmd.opcode = false ∨ cmd.pkt.kind ≠ op.kind ∨ cmd.pkt.unit ≥ s.unitCount op.kind) :
    s.forwardReceived seq cmd target = s.ackForward seq false := by
  refine (if_neg (partner_speaks hpaired hup)).trans ?_
  rw [hop]
  exact if_pos hrefused

/-- The acknowledgement of a forwarded command, by what its body answers. -/
def ackOf (s : State) (seq : Nat) (cmd : Cmd) (target : Nat) : Verdict → State
  | .fail _ _ => s.ackForward seq false
  | .refuse _ _ u => u.ackForward seq false
  | .done _ _ => ({ s with twn := { s.twn with fwds := s.twn.fwds ++ [{
      seq := seq
      cmd := cmd
      target := target
      acked := some true
      mine := false
      held := true }] } } : State).ackForward seq true
  | .accept u => u.ackForward seq true
  | .later u => u.ackForward seq true

theorem forwardReceived_of_checked (hup : s.oxbowUp = true) (hop : opOf cmd.opcode = some op) (hstate : s.twn.state = .standby)
    (hforwarded : twinForwarded cmd.opcode = true) (hkind : cmd.pkt.kind = op.kind) (hunit : cmd.pkt.unit < s.unitCount op.kind) :
    s.forwardReceived seq cmd target = s.ackOf seq cmd target (op.body { late := false, due := some target } cmd.pkt s) := by
  have hpaired : s.twn.state.paired = true := by rw [hstate]; rfl
  refine (if_neg (partner_speaks hpaired hup)).trans ?_
  rw [hop]
  refine (if_neg ?_).trans ?_
  · rintro (h | h | h | h)
    · exact h hstate
    · exact Bool.false_ne_true (h.symm.trans hforwarded)
    · exact h hkind
    · exact Nat.not_le.mpr hunit h
  · cases op.body { late := false, due := some target } cmd.pkt s <;> rfl

theorem forwardCommit_of_due {e : TFwd} (hfind : (s.twn.fwds.find? fun e => e.seq == seq) = some e) (hdue : e.target ≤ s.k) :
    let u := ({ s with twn := { s.twn with fwds := s.twn.fwds.erase e } } : State).notAcked e
    (e.held = false ∨ opOf e.cmd.opcode = none → s.forwardCommit seq = u)
      ∧ (∀ op, e.held = true → opOf e.cmd.opcode = some op → s.forwardCommit seq =
        u.settle e.cmd.pkt (op.body { late := false, due := some e.target } e.cmd.pkt u)) := by
  intro u
  refine ⟨fun h => ?_, fun op hheld hop => ?_⟩
  · simp only [forwardCommit, hfind, if_neg (Nat.not_lt.mpr hdue)]
    rcases h with h | h
    · exact if_neg (Bool.eq_false_iff.mp h)
    · rw [h]
      exact ite_self _
  · simp only [forwardCommit, hfind, if_neg (Nat.not_lt.mpr hdue), hheld, if_true, hop, u]

end

end State

/-- Settles O54: each event's cases. -/
theorem twinRecords : Obligations.TwinRecords := by
  unfold Obligations.TwinRecords
  intro r seq target lane cmd peer s gap
  refine ⟨fun h => exec_of_eq rfl (if_pos (State.no_partner_iff.mpr h)), fun hpaired hup => ?taken,
    fun h => exec_of_eq rfl (if_pos (congrArg not h)), fun hpaired => ?missing, fun h => exec_of_eq rfl (if_pos h),
    fun h => ⟨fun ha => exec_of_eq rfl (State.holdTimeout_of_active h ha), fun hs => exec_of_eq rfl (State.holdTimeout_of_standby h hs),
      fun ha hs => exec_of_eq rfl (State.holdTimeout_of_other h ha hs)⟩,
    fun h => exec_of_eq rfl (if_pos (State.no_partner_iff.mpr h)), fun hpaired hup => ⟨fun h => ?refused, fun op hst hfw hop hkind hunit => ?checked⟩,
    fun hfind => exec_of_eq rfl ?unknown, fun e hfind => ⟨fun hearly => exec_of_eq rfl ?early, fun hdue => ?commit⟩,
    ⟨rfl, rfl, fun hlane => exec_of_eq rfl ((if_neg (by omega)).trans (if_neg (by omega)))⟩, fun h => exec_of_eq rfl ?laneUp,
    fun hrun => ⟨exec_of_eq rfl ((if_neg (Classical.not_not.mpr hrun)).trans (if_pos rfl)),
      exec_of_eq rfl ((if_neg (Classical.not_not.mpr hrun)).trans ((if_neg (by decide)).trans (if_pos rfl)))⟩⟩
  case taken =>
    intro t u ps
    have hrec {w : State} (h : u.partnerState ps = w) : exec (.cycleRecordReceived r) s = .next w :=
      exec_of_eq rfl ((State.cycleRecord_of_paired hpaired hup r).trans h)
    refine ⟨fun ha hps => hrec ((State.partnerState_of_active ha).trans (if_pos hps)),
      fun ha hps => hrec ((State.partnerState_of_active ha).trans (if_neg hps)),
      fun ha h1 h2 => hrec ((State.partnerState_of_alone ha).trans (if_pos ⟨h1, h2⟩)),
      fun ha h1 h2 h3 => hrec ((State.partnerState_of_alone ha).trans ((if_neg fun h => h1 h.1).trans (if_pos ⟨h1, h2, h3⟩))),
      fun ha h => hrec ((State.partnerState_of_alone ha).trans ((if_neg ?_).trans (if_neg ?_))),
      fun h1 h2 => hrec (State.partnerState_rests h1 h2)⟩
    · rintro ⟨h1, h2⟩
      omega
    · rintro ⟨h1, h2, h3⟩
      omega
  case missing =>
    intro u
    have hmissed {w : State} (h : u.missedActs = w) : exec .cycleRecordMissing s = .next w :=
      exec_of_eq rfl ((State.recordMissing_of_paired hpaired).trans h)
    refine ⟨fun hst h => hmissed ((State.missedActs_of_standby (u := u) hst).trans (if_neg ?_)),
      fun hst hlimit happlied => hmissed ((State.missedActs_of_standby (u := u) hst).trans (if_pos ⟨hlimit, happlied⟩)),
      fun hst => hmissed (State.missedActs_of_outOfStep (u := u) hst), fun h1 h2 => hmissed (State.missedActs_of_other (u := u) h1 h2)⟩
    rintro ⟨hlimit, happlied⟩
    rcases h with h | h
    · exact Nat.not_le.mpr h hlimit
    · exact Bool.false_ne_true (h.symm.trans happlied)
  case refused =>
    refine exec_of_eq rfl ?_
    cases hop : opOf cmd.opcode with
    | none => exact State.forwardReceived_of_unknown hpaired hup hop
    | some op =>
      refine State.forwardReceived_of_refused hpaired hup hop ?_
      rcases h with h | h | h | ⟨op', hop', h⟩
      · exact Or.inl h
      · exact Or.inr (Or.inl h)
      · cases hop.symm.trans h
      · obtain rfl := Option.some.inj (hop.symm.trans hop')
        exact Or.inr (Or.inr h)
  case checked =>
    intro ctx
    have hchecked {v : Verdict} (hv : op.body ctx cmd.pkt s = v) :
        exec (.twinForwardReceived seq cmd target) s = .next (s.ackOf seq cmd target v) :=
      exec_of_eq rfl ((State.forwardReceived_of_checked hup hop hst hfw hkind hunit).trans (congrArg _ hv))
    exact ⟨fun st d hv => hchecked hv, fun st d u hv => hchecked hv, fun u hv => hv.elim (fun hv => hchecked hv) fun hv => hchecked hv,
      fun res u hv => hchecked hv⟩
  case unknown => simp only [State.forwardCommit, hfind]
  case early =>
    simp only [State.forwardCommit, hfind]
    exact if_pos hearly
  case commit =>
    obtain ⟨hdrop, hrun⟩ := State.forwardCommit_of_due hfind hdue
    exact ⟨fun h => exec_of_eq rfl (hdrop h), fun op hheld hop => exec_of_eq rfl (hrun op hheld hop)⟩
  case laneUp =>
    rcases h with h | h
    · exact if_pos h
    · exact ite_eq_left_iff.mpr fun _ => (if_neg (by omega)).trans (if_neg (by omega))

end Sys2Proof.Machine
end

section
/-! Joining a pair, handing over, and health (13 R379-R382). -/
namespace Sys2Proof.Machine

namespace State
variable {s : State}

/-! ## Joining -/

/-- What a join leaves of a head's record of it, once it is in step. -/
def joinedTwin (s : State) : Twin := { s.twn with
  phase := 0
  entry := none
  noDispatch := false
  marked := 0
  mismatchRun := 0
  promoted := false
  joinFails := 0 }

theorem catchupPass_of_copying (h : s.twn.phase = 2 ∨ s.twn.phase = 3) (marked : Nat) :
    let n := if s.twn.phase = 2 then s.lockstepBlocks else s.twn.marked.toNat
    let enter : Bool := decide (s.twn.phase = 3 ∧ marked < 64)
    let cp : State := if s.twn.state = .alone then { s with out := .oxbowCopy n :: s.out } else s
    s.catchupPass marked = { cp with twn := { s.twn with
      marked := BitVec.ofNat 16 (if marked < 2 ^ 16 then marked else 2 ^ 16 - 1)
      phase := if enter then 4 else 3
      entry := if enter then some (cp.k + 64) else none } } := by
  intro n enter cp
  have hcp : (if s.twn.state == .alone then s.emit (.oxbowCopy (if s.twn.phase = 2 then s.lockstepBlocks else s.twn.marked.toNat)) else s)
      = cp := by
    by_cases halone : s.twn.state = .alone
    · exact (if_pos (beq_iff_eq.mpr halone)).trans (if_pos halone).symm
    · exact (if_neg fun h => halone (beq_iff_eq.mp h)).trans (if_neg halone).symm
  have htwn : cp.twn = s.twn := by
    simp only [cp]
    split <;> rfl
  refine (if_neg (by omega)).trans ?_
  dsimp only
  rw [hcp, htwn]
  simp only [enter, decide_eq_true_eq, satNat]

section
variable {c : Nat} (hentry : s.twn.entry = some c)
include hentry

theorem twinEntry_of_early (h : s.twn.phase ≠ 4 ∨ s.k < c) (drained : Bool) : s.twinEntry drained = s := by
  simp only [twinEntry, hentry]
  exact if_pos h

variable (hready : ¬ (s.twn.phase ≠ 4 ∨ s.k < c))
include hready

theorem twinEntry_of_joining (hstate : s.twn.state = .joining) (drained : Bool) : s.twinEntry drained =
    if drained then
      ({ runAll (fun i u => u.modMPort i fun p => { p with turned := false }) s.twinPorts s with twn := s.joinedTwin } : State).setTwin
        .standby 3
    else { s with twn := { s.twn with phase := 3, entry := none } } := by
  simp only [twinEntry, hentry, if_neg hready]
  split
  case h_1 => rfl
  case h_2 hother => cases hstate.symm.trans hother
  case h_3 hother _ => exact absurd hstate hother

theorem twinEntry_of_alone (hstate : s.twn.state = .alone) (drained : Bool) : s.twinEntry drained =
    if drained && s.eddy.cores.all (fun x => x.flow.isNone) then
      ({ runAll (reopenRing c) s.twinPorts s with twn := { s.joinedTwin with claims := [(c, 2)] } } : State).setTwin .active 3
    else { s with twn := { s.twn with phase := 3, entry := none, noDispatch := false } } := by
  simp only [twinEntry, hentry, if_neg hready]
  split
  case h_1 hother => cases hstate.symm.trans hother
  case h_2 => rfl
  case h_3 _ hother => exact absurd hstate hother

theorem twinEntry_of_other (hjoining : s.twn.state ≠ .joining) (halone : s.twn.state ≠ .alone) (drained : Bool) :
    s.twinEntry drained = s := by
  simp only [twinEntry, hentry, if_neg hready]

end

/-- Every core is free of tasks. -/
theorem cores_all_free_iff : (s.eddy.cores.all fun x => x.flow.isNone) = true ↔ ∀ x ∈ s.eddy.cores, x.flow = none := by
  simp only [List.all_eq_true, Option.isNone_iff_eq_none]

/-! ## Joins that take too long -/

/-- A joining head's time is up. -/
def joinOver (s : State) : State :=
  { s.eventDiverged 2 s.k s.twn.ownCrc 0 with
    twn := { (s.eventDiverged 2 s.k s.twn.ownCrc 0).twn with phase := 0, entry := none } }

theorem resyncTimeout_of_joining (hstate : s.twn.state = .joining) : s.resyncTimeout =
    if s.joinOver.twn.autoResync then { s.joinOver with twn := { s.joinOver.twn with phase := 1 } } else s.joinOver.setTwin .outOfStep 5 := by
  rw [resyncTimeout]
  split
  case h_1 => rfl
  case h_2 hother => cases hstate.symm.trans hother
  case h_3 hother => cases hstate.symm.trans hother
  case h_4 hother _ _ => exact absurd hstate hother

theorem resyncTimeout_of_serving (hstate : s.twn.state = .active ∨ s.twn.state = .alone) :
    s.resyncTimeout = if s.twn.phase = 0 then s else s.partnerTimeout := by
  rcases hstate with hstate | hstate <;> simp only [resyncTimeout, hstate]

theorem resyncTimeout_of_other (hjoining : s.twn.state ≠ .joining) (hactive : s.twn.state ≠ .active) (halone : s.twn.state ≠ .alone) :
    s.resyncTimeout = s := by
  rw [resyncTimeout]
  split
  case h_1 h => exact absurd h hjoining
  case h_2 h => exact absurd h hactive
  case h_3 h => exact absurd h halone
  case h_4 => rfl

/-! ## Handing over -/

theorem yieldHandover_of_active {c : Nat} (hstate : s.twn.state = .active) (hyield : s.twn.yieldAt = some c) : s.yieldHandover =
    if s.k < c then s
    else ({ s with twn := { s.twn with claims := [(c, 1)], promoted := false, yieldAt := none, mismatchRun := 0 } } : State).setTwin
      .standby 2 := by
  rw [yieldHandover]
  split
  case h_1 c' _ hc => obtain rfl := Option.some.inj (hyield.symm.trans hc); rfl
  case h_2 hother => cases hstate.symm.trans hother
  case h_3 _ hother => exact absurd hyield (hother c hstate)

theorem yieldHandover_of_standby (hstate : s.twn.state = .standby) : s.yieldHandover =
    ({ s with
      twn := { s.twn with claims := [(s.k, 2), (s.k + 1, 2)], promoted := false, mismatchRun := 0 }
      tmb := { s.tmb with partnerGap := none } } : State).setTwin .active 2 := by
  rw [yieldHandover]
  split
  case h_1 hother _ => cases hstate.symm.trans hother
  case h_2 => rfl
  case h_3 hother _ => exact absurd hstate hother

theorem yieldHandover_of_no_yield (h : s.twn.state = .active ∧ s.twn.yieldAt = none ∨ s.twn.state ≠ .active ∧ s.twn.state ≠ .standby) :
    s.yieldHandover = s := by
  rw [yieldHandover]
  split
  case h_1 hactive hc =>
    rcases h with ⟨-, hnone⟩ | ⟨hstate, -⟩
    · cases hnone.symm.trans hc
    · exact absurd hactive hstate
  case h_2 hstandby =>
    rcases h with ⟨hactive, -⟩ | ⟨-, hstate⟩
    · cases hactive.symm.trans hstandby
    · exact absurd hstandby hstate
  case h_3 => rfl

end State

/-- Settles O55: each event's cases. -/
theorem twinJoinsAndHealth : Obligations.TwinJoinsAndHealth := by
  unfold Obligations.TwinJoinsAndHealth
  intro marked core c drained failed sram corrected uncorrectable s ph
  refine ⟨fun h => exec_of_eq rfl (if_pos h), fun h => exec_of_eq rfl (if_neg h), fun h2 h3 => exec_of_eq rfl (if_pos ⟨h2, h3⟩),
    fun h => exec_of_eq rfl (State.catchupPass_of_copying h marked), fun hnone => exec_of_eq rfl ?noEntry,
    fun hentry h => exec_of_eq rfl (State.twinEntry_of_early hentry h drained), ?entry, ?joining, ?serving,
    fun h1 h2 h3 => exec_of_eq rfl (State.resyncTimeout_of_other h1 h2 h3),
    fun hst hyield => ⟨fun hearly => exec_of_eq rfl ((State.yieldHandover_of_active hst hyield).trans (if_pos hearly)),
      fun hdue => exec_of_eq rfl ((State.yieldHandover_of_active hst hyield).trans (if_neg (Nat.not_lt.mpr hdue)))⟩,
    fun hst => exec_of_eq rfl (State.yieldHandover_of_standby hst),
    fun hst hnone => exec_of_eq rfl (State.yieldHandover_of_no_yield (Or.inl ⟨hst, hnone⟩)),
    fun h1 h2 => exec_of_eq rfl (State.yieldHandover_of_no_yield (Or.inr ⟨h1, h2⟩)), rfl, rfl, rfl, fun h => exec_of_eq rfl (if_neg ?noTest),
    fun hcore hidle => exec_of_eq rfl (if_pos ?test)⟩
  case noEntry => simp only [State.twinEntry, hnone]
  case entry =>
    intro hentry hphase hdue joined
    have hready : ¬ (s.twn.phase ≠ 4 ∨ s.k < c) := not_or.mpr ⟨Classical.not_not.mpr hphase, Nat.not_lt.mpr hdue⟩
    refine ⟨fun hst => ?_, fun hst => ⟨fun hfree => ?_, fun h => ?_⟩,
      fun h1 h2 => exec_of_eq rfl (State.twinEntry_of_other hentry hready h1 h2 drained)⟩
    · exact ⟨exec_of_eq rfl (State.twinEntry_of_joining hentry hready hst true),
        exec_of_eq rfl (State.twinEntry_of_joining hentry hready hst false)⟩
    · exact exec_of_eq rfl ((State.twinEntry_of_alone hentry hready hst true).trans (if_pos (State.cores_all_free_iff.mpr hfree)))
    · refine exec_of_eq rfl ((State.twinEntry_of_alone hentry hready hst drained).trans (if_neg ?_))
      rw [Bool.and_eq_true_iff, State.cores_all_free_iff]
      rintro ⟨hdrained, hfree⟩
      rcases h with h | ⟨x, hx, hflow⟩
      · exact Bool.false_ne_true (h.symm.trans hdrained)
      · exact hflow (hfree x hx)
  case joining =>
    intro hst t u
    exact ⟨fun hauto => exec_of_eq rfl ((State.resyncTimeout_of_joining hst).trans (if_pos hauto)),
      fun hauto => exec_of_eq rfl ((State.resyncTimeout_of_joining hst).trans (if_neg (Bool.eq_false_iff.mp hauto)))⟩
  case serving =>
    exact fun hst => ⟨fun h0 => exec_of_eq rfl ((State.resyncTimeout_of_serving hst).trans (if_pos h0)),
      fun h0 => exec_of_eq rfl ((State.resyncTimeout_of_serving hst).trans (if_neg h0))⟩
  case noTest =>
    rw [Bool.and_eq_true_iff, Bool.and_eq_true_iff, decide_eq_true_eq, beq_iff_eq]
    rintro ⟨⟨hfailed, hcore⟩, hidle⟩
    rcases h with h | h | h
    · exact Bool.false_ne_true (h.symm.trans hfailed)
    · exact Nat.not_le.mpr hcore h
    · exact h hidle
  case test =>
    rw [Bool.and_eq_true_iff, Bool.and_eq_true_iff, decide_eq_true_eq, beq_iff_eq]
    exact ⟨⟨rfl, hcore⟩, hidle⟩

end Sys2Proof.Machine
end

section
/-! Reset sources (14 R388, R390, R395, R396). -/
namespace Sys2Proof.Machine

namespace State
variable {s : State}

/-! ## Requests from upstream -/

section
variable (hen : s.rst.upstreamEn = true) {n : Nat}
include hen

theorem upstreamReset_of_no_block (hblock : blockOf n = none) : s.upstreamReset (some n) = s := by
  refine (if_neg (by rw [hen]; decide)).trans ?_
  simp only [hblock]

theorem upstreamReset_of_block {b : Block} (hblock : blockOf n = some b) : s.upstreamReset (some n) =
    if s.rst.episode.isSome || s.fusedOff b || !s.blockFree b then s else (s.blockReset n b).abortPending n := by
  refine (if_neg (by rw [hen]; decide)).trans ?_
  simp only [hblock]

end

theorem block_kept_iff (b : Block) : (s.rst.episode.isSome || s.fusedOff b || !s.blockFree b) = true
    ↔ s.rst.episode ≠ none ∨ s.fusedOff b = true ∨ s.blockFree b = false := by
  rw [Bool.or_eq_true_iff, Bool.or_eq_true_iff, Option.isSome_iff_ne_none, Bool.not_eq_true', or_assoc]

end State

/-- Settles O56: `assertSource` for each source, and the requests that may be turned away. -/
theorem resetSources : Obligations.ResetSources := by
  unfold Obligations.ResetSources
  intro n r bit s taken freed
  have htaken (bit : Nat) (r : Reach) (level : Bool) : s.assertSource bit r level = taken bit r level := by
    rcases hep : s.rst.episode with _ | ⟨q, bits⟩
    · simp only [State.assertSource, taken, hep]
      cases r <;> rfl
    · simp only [State.assertSource, taken, hep]
      cases q <;> cases r <;> rfl
  refine ⟨⟨exec_of_eq rfl (htaken 0 .cold true), rfl⟩, ⟨exec_of_eq rfl (htaken 1 .cold true), rfl⟩, ⟨exec_of_eq rfl (htaken 2 .cold true), rfl⟩,
    ⟨exec_of_eq rfl (htaken 3 .warm true), rfl⟩, exec_of_eq rfl (htaken 4 .warm false),
    fun hen => exec_of_eq rfl ((if_pos hen).trans (htaken 5 .warm false)), fun hen => exec_of_eq rfl (if_neg (Bool.eq_false_iff.mp hen)),
    fun hen => exec_of_eq rfl ((if_neg (by rw [hen]; decide)).trans (htaken 6 .warm false)),
    fun hen => ⟨exec_of_eq rfl (if_pos (congrArg not hen)), exec_of_eq rfl (if_pos (congrArg not hen))⟩,
    fun hen => ⟨fun hblock => exec_of_eq rfl (State.upstreamReset_of_no_block hen hblock), fun b hblock => ⟨fun h => ?kept, fun h1 h2 h3 => ?reset⟩⟩,
    fun hpending => exec_of_eq rfl ?pending, fun hpending => exec_of_eq rfl ?notPending, fun hphase => exec_of_eq rfl (if_neg hphase),
    fun hphase hset => exec_of_eq rfl ((if_pos hphase).trans ?known), fun hphase hnew => ?warned, rfl⟩
  case kept => exact exec_of_eq rfl ((State.upstreamReset_of_block hen hblock).trans (if_pos ((State.block_kept_iff b).mpr h)))
  case reset =>
    refine exec_of_eq rfl ((State.upstreamReset_of_block hen hblock).trans (if_neg fun h => ?_))
    rcases (State.block_kept_iff b).mp h with h | h | h
    · exact h h1
    · exact Bool.false_ne_true (h2.symm.trans h)
    · exact Bool.false_ne_true (h.symm.trans h3)
  case pending =>
    simp only [State.resetAssert, hpending]
    exact htaken bit r false
  case notPending => simp only [State.resetAssert, hpending]
  case known => exact if_pos hset
  case warned =>
    intro u
    have hraised {t : State} (h : s.raiseCause 3 = t) : exec .watchdogHalf s = .next t := exec_of_eq rfl ((if_pos hphase).trans h)
    exact ⟨fun hmask => hraised ((if_neg (Bool.eq_false_iff.mp hnew)).trans (if_pos hmask)),
      fun hmask => hraised ((if_neg (Bool.eq_false_iff.mp hnew)).trans (if_neg (Bool.eq_false_iff.mp hmask)))⟩

end Sys2Proof.Machine
end

section
/-! The release sequence (14 R390-R394, R398). -/
namespace Sys2Proof.Machine

namespace State
variable {s : State} {i : Nat}

theorem isIsland_iff : isIsland i = true ↔ 1 ≤ i ∧ i ≤ 9 := by simp [isIsland]

/-! ## Islands -/

theorem islandRelease_of_asserted (hphase : s.rst.phase = .asserted) : s.islandRelease i = s := by
  simp only [islandRelease, hphase, Bool.false_eq_true, if_false]

theorem islandRelease_of_islands (hphase : s.rst.phase = .islands) :
    s.islandRelease i = if s.nextIsland = some i then s.setIsland i .running else s := by
  simp only [islandRelease, hphase, beq_iff_eq]

/-- After the sequence, an island that has lost its lock is released. -/
theorem islandRelease_of_later (hasserted : s.rst.phase ≠ .asserted) (hislands : s.rst.phase ≠ .islands) (hi : isIsland i = true)
    (hpast : Island.past (s.island i) = false) : s.islandRelease i = s.setIsland i .running := by
  cases hphase : s.rst.phase with
  | asserted => exact absurd hphase hasserted
  | islands => exact absurd hphase hislands
  | _ => simp only [islandRelease, hphase, hi, hpast, Bool.not_false, Bool.and_self, if_true]

/-! ## The start and the end -/

theorem releaseStart_of_warm (hphase : s.rst.phase = .asserted) (hasserted : s.rst.asserted = 0) {b : Byte}
    (hepisode : s.rst.episode = some (.warm, b)) : s.releaseStart = { s with rst := { s.rst with phase := .islands } } := by
  refine (if_neg (not_or.mpr ⟨Classical.not_not.mpr hphase, Classical.not_not.mpr hasserted⟩)).trans ?_
  dsimp only
  rw [hepisode]

theorem releaseStart_of_cold (hphase : s.rst.phase = .asserted) (hasserted : s.rst.asserted = 0) {b : Byte}
    (hepisode : s.rst.episode = some (.cold, b)) : s.releaseStart =
      let f : Fuse := { s.fuse with crcFail := s.fuse.crc != s.fuse.crc16 }
      { s with
        rst := { s.rst with phase := .islands }
        fuse := f
        pwr := { s.pwr with
          vset := f.vBoot
          ackVset := f.vBoot } } := by
  refine (if_neg (not_or.mpr ⟨Classical.not_not.mpr hphase, Classical.not_not.mpr hasserted⟩)).trans ?_
  dsimp only
  rw [hepisode]

/-- The order in which the loader tries the slots. -/
theorem slotOrder_eq : s.slotOrder = if (s.boot.slots.getD 0 {}).headerValid ∧ (s.boot.slots.getD 1 {}).headerValid
      ∧ 2 ^ 31 ≤ ((s.boot.slots.getD 0 {}).seq - (s.boot.slots.getD 1 {}).seq).toNat then [1, 0] else [0, 1] := by
  simp only [slotOrder, Bool.and_eq_true, decide_eq_true_eq, ge_iff_le, and_assoc]

section
variable (hphase : s.rst.phase = .image)
include hphase

theorem imageSelect_of_none (hnone : (s.slotOrder.find? fun j => ImgSlot.loads (s.boot.slots.getD j {})) = none) : s.imageSelect = { s with
      rst := { s.rst with phase := .running }
      spw := { s.spw with known := true }
      boot := { s.boot with
        running := 3
        seq := 0
        version := 0
        romOnly := true } } := by
  refine (if_neg (Classical.not_not.mpr hphase)).trans ?_
  dsimp only
  split
  case h_1 j hj => cases hnone.symm.trans hj
  case h_2 => rfl

theorem imageSelect_of_some {j : Nat} (hsome : (s.slotOrder.find? fun j => ImgSlot.loads (s.boot.slots.getD j {})) = some j) :
    s.imageSelect = ({ s with
      rst := { s.rst with phase := .running }
      spw := { s.spw with known := true }
      boot := { s.boot with
        running := BitVec.ofNat 2 j
        seq := (s.boot.slots.getD j {}).seq
        version := (s.boot.slots.getD j {}).version
        romOnly := false } } : State).startGovernor := by
  refine (if_neg (Classical.not_not.mpr hphase)).trans ?_
  dsimp only
  split
  case h_1 j' hj' =>
    obtain rfl := Option.some.inj (hsome.symm.trans hj')
    rfl
  case h_2 hnone => cases hnone.symm.trans hsome

end

end State

/-- Settles O57: each step's cases. -/
theorem releaseSequence : Obligations.ReleaseSequence := by
  unfold Obligations.ReleaseSequence
  intro i v s order put
  have hput (x : Island) : s.setIsland i x = put x := rfl
  refine ⟨fun h => exec_of_eq rfl (if_pos h), fun h1 h2 => ⟨fun b hb => exec_of_eq rfl (State.releaseStart_of_warm h1 h2 hb),
      fun b hb => exec_of_eq rfl (State.releaseStart_of_cold h1 h2 hb)⟩,
    fun h => exec_of_eq rfl (State.islandRelease_of_asserted h),
    fun h1 h2 => ⟨exec_of_eq rfl ((State.islandRelease_of_islands h1).trans (if_pos h2)), exec_of_eq rfl (if_pos ⟨h1, h2⟩)⟩,
    fun h1 h2 => ⟨exec_of_eq rfl ((State.islandRelease_of_islands h1).trans (if_neg h2)), exec_of_eq rfl (if_neg fun h => h2 h.2)⟩,
    fun h1 h2 h3 h4 hpast => exec_of_eq rfl (State.islandRelease_of_later h1 h2 (State.isIsland_iff.mpr ⟨h3, h4⟩) hpast),
    fun h => exec_of_eq rfl (if_neg fun h' => h h'.1),
    fun h1 h3 h4 => ⟨fun h => exec_of_eq rfl (if_pos ⟨h1, State.isIsland_iff.mpr ⟨h3, h4⟩, h⟩), fun h => exec_of_eq rfl (if_neg ?late)⟩,
    fun h => exec_of_eq rfl (if_neg fun h' => h h'.2), ?lockLoss, fun h => exec_of_eq rfl (if_pos h), fun h => exec_of_eq rfl (if_neg h),
    fun h => exec_of_eq rfl (if_pos h), fun h => exec_of_eq rfl (if_neg h), fun h => exec_of_eq rfl (if_pos h),
    fun h => exec_of_eq rfl (if_neg h), fun h => exec_of_eq rfl (if_pos h), ?image, fun h => exec_of_eq rfl (if_pos h),
    fun h => exec_of_eq rfl (if_neg h)⟩
  case late =>
    rintro ⟨-, -, h'⟩
    rcases h with h | h <;> rcases h' with h' | h' <;> cases h.symm.trans h'
  case lockLoss =>
    intro lost runs
    have hlost {j : Nat} (h1 : 1 ≤ j) (h9 : j ≤ 9) (hruns : runs j) : State.isIsland j = true ∧ s.island j = .running :=
      ⟨State.isIsland_iff.mpr ⟨h1, h9⟩, hruns⟩
    refine ⟨fun h => exec_of_eq rfl ((if_pos (hlost (by decide) (by decide) h)).trans (if_pos rfl)),
      fun h => exec_of_eq rfl ((if_pos (hlost (by decide) (by decide) h)).trans ((if_neg (by decide)).trans (if_pos rfl))),
      fun h => exec_of_eq rfl ((if_pos (hlost (by decide) (by decide) h)).trans
        ((if_neg (by decide)).trans ((if_neg (by decide)).trans (if_pos rfl)))),
      fun hi h => exec_of_eq rfl ((if_pos (hlost (by omega) (by omega) h)).trans
        ((if_neg (by omega)).trans ((if_neg (by omega)).trans (if_neg (by omega)))))⟩
  case image =>
    intro hphase a b order u
    have horder : s.slotOrder = order := State.slotOrder_eq
    refine ⟨fun hnone => exec_of_eq rfl (State.imageSelect_of_none hphase ?_),
      fun j hj => exec_of_eq rfl (State.imageSelect_of_some hphase (horder ▸ hj))⟩
    rw [horder]
    exact List.find?_eq_none.mpr fun j hj => Bool.eq_false_iff.mp (hnone j hj)

end Sys2Proof.Machine
end

section
/-! The power-loss store (14 R402-R407). -/
namespace Sys2Proof.Machine

/-! ### The store device: a list of records in the order of their addresses (14 R406) -/

/-- An entry of the device that was put into is the new one, or one that was there. -/
theorem mem_devicePut_imp {a : Nat} {cap : StoreRec} {p : Nat × StoreRec} :
    ∀ {l : List (Nat × StoreRec)}, p ∈ devicePut a cap l → p = (a, cap) ∨ p ∈ l
  | [], h => .inl (List.mem_singleton.mp h)
  | d :: l, h => by
    unfold devicePut at h
    split at h
    · rcases List.mem_cons.mp h with h | h
      · exact .inr (h ▸ List.mem_cons_self)
      · exact (mem_devicePut_imp h).imp_right (List.mem_cons_of_mem d)
    · split at h
      · exact (List.mem_cons.mp h).imp_right (List.mem_cons_of_mem d)
      · exact List.mem_cons.mp h

/-- The record that is put is there. -/
theorem mem_devicePut_self (a : Nat) (cap : StoreRec) : ∀ l : List (Nat × StoreRec), (a, cap) ∈ devicePut a cap l
  | [] => List.mem_cons_self
  | d :: l => by
    unfold devicePut
    split
    · exact List.mem_cons_of_mem d (mem_devicePut_self a cap l)
    · split
      · exact List.mem_cons_self
      · exact List.mem_cons_self

/-- A record at another address stays. -/
theorem mem_devicePut_of_mem {a : Nat} (cap : StoreRec) {p : Nat × StoreRec} (hp : p.1 ≠ a) :
    ∀ {l : List (Nat × StoreRec)}, p ∈ l → p ∈ devicePut a cap l
  | d :: l, h => by
    unfold devicePut
    split
    · rcases List.mem_cons.mp h with h | h
      · exact h ▸ List.mem_cons_self
      · exact List.mem_cons_of_mem d (mem_devicePut_of_mem cap hp h)
    · split
      next heq =>
        rcases List.mem_cons.mp h with h | h
        · exact absurd (h ▸ heq) hp
        · exact List.mem_cons_of_mem _ h
      · exact List.mem_cons_of_mem _ h

/-- What is put keeps the order of the addresses. -/
theorem devicePut_pairwise (a : Nat) (cap : StoreRec) :
    ∀ {l : List (Nat × StoreRec)}, (l.Pairwise fun p q => p.1 < q.1) → (devicePut a cap l).Pairwise fun p q => p.1 < q.1
  | [], _ => List.pairwise_singleton _ _
  | d :: l, h => by
    obtain ⟨hd, hl⟩ := List.pairwise_cons.mp h
    unfold devicePut
    split
    next hlt =>
      refine List.pairwise_cons.mpr ⟨fun q hq => ?_, devicePut_pairwise a cap hl⟩
      rcases mem_devicePut_imp hq with rfl | hq
      · exact hlt
      · exact hd q hq
    next hge =>
      split
      next heq => exact List.pairwise_cons.mpr ⟨fun q hq => heq ▸ hd q hq, hl⟩
      next hne =>
        have hlt : a < d.1 := by omega
        refine List.pairwise_cons.mpr ⟨fun q hq => ?_, h⟩
        rcases List.mem_cons.mp hq with rfl | hq
        · exact hlt
        · exact Nat.lt_trans hlt (hd q hq)

/-! ### The record in progress -/

theorem State.storeCapture_of_idle {s : State} (h : s.spw.run = none) : s.storeCapture = s := by
  simp only [State.storeCapture, h]

theorem State.storeDone_of_idle {s : State} (rate : Nat) (h : s.spw.run = none) : s.storeDone rate = s := by
  simp only [State.storeDone, h]

/-- A record is captured once. -/
theorem State.storeCapture_of_captured {s : State} {r : StoreRun} (h : s.spw.run = some r) (hc : r.captured ≠ none) :
    s.storeCapture = s := by
  simp only [State.storeCapture, h]
  exact if_pos (Option.isSome_iff_ne_none.mpr hc)

/-- Nothing is written before the capture. -/
theorem State.storeDone_of_not_captured {s : State} {r : StoreRun} (rate : Nat) (h : s.spw.run = some r)
    (hc : r.captured = none) : s.storeDone rate = s := by
  simp only [State.storeDone, h, hc]

/-- Settles O58, event by event: a command that finds nothing to do leaves the state, and the others take one branch of their definition;
the device is a list in the order of its addresses. -/
theorem storeEvents : Obligations.StoreEvents := by
  unfold Obligations.StoreEvents
  intro code rate r s
  refine ⟨rfl, fun h => exec_of_eq rfl (if_pos h), ?qualified, fun h => exec_of_eq rfl (if_pos (congrArg not h)), ?clear,
    fun h => ⟨exec_of_eq rfl (State.storeCapture_of_idle h), exec_of_eq rfl (State.storeDone_of_idle rate h)⟩,
    fun h hc => exec_of_eq rfl (State.storeCapture_of_captured h hc), ?positions, ?full,
    fun h hc => exec_of_eq rfl (State.storeDone_of_not_captured rate h hc), ?written, ?device, rfl⟩
  case qualified =>
    intro hfail t x
    have hnot : ¬ s.spw.pfail = true := Bool.eq_false_iff.mp hfail
    refine ⟨fun hen => exec_of_eq rfl ((if_neg hnot).trans (if_pos (congrArg not hen))), fun hen => ?_⟩
    have hon : ¬ (!x.en) = true := by rw [hen]; decide
    intro ks u w
    exact ⟨fun h0 => exec_of_eq rfl ((if_neg hnot).trans ((if_neg hon).trans (if_pos h0))),
      fun h0 => exec_of_eq rfl ((if_neg hnot).trans ((if_neg hon).trans (if_neg h0)))⟩
  case clear =>
    intro hfail
    exact exec_of_eq rfl (if_neg (by rw [hfail]; decide))
  case positions =>
    intro h hc ht
    have hb : (r.tier == 2) = false := beq_false_of_ne ht
    refine exec_of_eq rfl ?_
    simp only [State.storeCapture, h, hc, hb]
    rfl
  case full =>
    intro h hc ht
    have hb : (r.tier == 2) = true := beq_iff_eq.mpr ht
    refine exec_of_eq rfl ?_
    simp only [State.storeCapture, h, hc, hb]
    rfl
  case written =>
    intro cap h hc x u w
    have hstored : s.storeDone rate = (if w.spw.coldAfter then ({ w with spw := {
        device := w.spw.device
        known := w.spw.known
        held := w.spw.held } } : State) else w).powerResume := by
      simp only [State.storeDone, h, hc]
      rfl
    exact ⟨fun hcold => exec_of_eq rfl (hstored.trans (congrArg State.powerResume (if_neg (Bool.eq_false_iff.mp hcold)))),
      fun hcold => exec_of_eq rfl (hstored.trans (congrArg State.powerResume (if_pos hcold)))⟩
  case device =>
    intro a cap l hl m
    refine ⟨devicePut_pairwise a cap hl, mem_devicePut_self a cap l, fun p hp => ⟨fun h => ?_, mem_devicePut_of_mem cap hp⟩⟩
    exact (mem_devicePut_imp h).resolve_left fun heq => hp (congrArg Prod.fst heq)

end Sys2Proof.Machine
end

section
/-! Registers and the test access port (02 R36, R37; 15 R439, R440). -/
namespace Sys2Proof.Machine

namespace State
variable {s : State} {a : Nat}

/-! ## Reads: the word that is answered -/

theorem bar0Word_glb (h : a < 0x10000) : s.bar0Word a = (s.glbWord a, s) := if_pos h

theorem bar0Word_rst (h0 : 0x30000 ≤ a) (h1 : a < 0x40000) : s.bar0Word a = (s.rstWord (a - 0x30000), s) := by
  simp (disch := omega) only [bar0Word, if_neg, if_pos]

theorem bar0Word_tmb (h0 : 0x100000 ≤ a) (h1 : a < 0x200000) : s.bar0Word a = (s.tmbWord (a - 0x100000), s) := by
  simp (disch := omega) only [bar0Word, if_neg, if_pos]

/-- Outside the ports' window the state is read as it stands. -/
theorem readBar0_of_not_port (h : a / 4 * 4 < 0x600000 ∨ 0x700000 ≤ a / 4 * 4) :
    s.readBar0 a = ((s.bar0Word (a / 4 * 4)).1, (s.bar0Word (a / 4 * 4)).2.readClear (a / 4 * 4)) := by
  have hport : ¬ (0x600000 ≤ a / 4 * 4 ∧ a / 4 * 4 < 0x700000) := by omega
  simp only [readBar0, if_neg hport]

/-- In the ports' window the emulators' positions are those of the present. -/
theorem readBar0_of_port (h0 : 0x600000 ≤ a / 4 * 4) (h1 : a / 4 * 4 < 0x700000) :
    s.readBar0 a = ((s.emuAll.bar0Word (a / 4 * 4)).1, (s.emuAll.bar0Word (a / 4 * 4)).2.readClear (a / 4 * 4)) := by
  have hport : 0x600000 ≤ a / 4 * 4 ∧ a / 4 * 4 < 0x700000 := ⟨h0, h1⟩
  simp only [readBar0, if_pos hport]

/-! ## Writes: the block that takes the word -/

theorem writeWord_glb (h : a < 0x10000) (hne : a ≠ 0x20) (w : Word) : s.writeWord a w = s := by
  simp (disch := omega) only [writeWord, if_neg]

theorem writeWord_acq (h0 : 0x500000 ≤ a) (h1 : a < 0x600000) (w : Word) : s.writeWord a w = s := by
  simp (disch := omega) only [writeWord, if_neg]

/-- In the block RST_ only RST_CFG and the override take a write. -/
theorem writeWord_rst (h0 : 0x30000 ≤ a) (h1 : a < 0x40000) (hcfg : a ≠ 0x30004) (hov : a ≠ 0x3000C) (w : Word) :
    s.writeWord a w = s := by
  simp (disch := omega) only [writeWord, if_neg]

theorem writeWord_rstCfg (w : Word) : s.writeWord 0x30004 w = s.writeRstCfg w := by
  simp (disch := omega) only [writeWord, if_neg, if_true]

theorem writeWord_rng {n off : Nat} (hn : n < 64) (hoff : off < 0x100) (w : Word) :
    s.writeWord (0x10000 + 0x100 * n + off) w = s.writeRng n off w := by
  have hunit : (0x10000 + 0x100 * n + off - 0x10000) / 0x100 = n := by omega
  have hrest : (0x10000 + 0x100 * n + off) % 0x100 = off := by omega
  simp (disch := omega) only [writeWord, if_neg, if_pos, hunit, hrest]

/-- An enabled ring keeps its base. -/
theorem writeRng_base_of_enable {n off : Nat} (h : (s.ring n).enable = true) (hoff : off = 0 ∨ off = 4) (w : Word) :
    s.writeRng n off w = s := by
  rcases hoff with rfl | rfl
  · simp only [writeRng, h, if_true]
  · simp [writeRng, h]

theorem nCores_le (s : State) : s.nCores ≤ 32 := by
  unfold nCores
  split
  · exact Nat.le_refl 32
  · decide

theorem writeWord_edyMem {c off : Nat} (hc : c < s.nCores) (hoff : off < 0x40000) (w : Word) :
    s.writeWord (0x2000000 + 0x40000 * c + off) w = s.edyMemWrite (0x40000 * c + off) w := by
  have hcores := s.nCores_le
  have hwin : 0x2000000 + 0x40000 * c + off - 0x2000000 = 0x40000 * c + off := by omega
  simp (disch := omega) only [writeWord, if_neg, if_pos, hwin]

/-- A word of a core's X memory. -/
theorem edyMemWrite_x {c : Nat} (hc : c < s.nCores) (ha : a < 0x4000) (w : Word) :
    s.edyMemWrite (0x40000 * c + 4 * a) w = s.modCore c fun k => { k with x := cellSet k.x a (w.setWidth 24) } := by
  have hcore : (0x40000 * c + 4 * a) / 0x40000 = c := by omega
  have hoff : (0x40000 * c + 4 * a) % 0x40000 = 4 * a := by omega
  have hword : 4 * a / 4 = a := by omega
  simp (disch := omega) only [edyMemWrite, hcore, hoff, hword, if_neg, if_pos]

/-- The P memory takes no write. -/
theorem edyMemWrite_p {c : Nat} (hc : c < s.nCores) (ha : a < 0x4000) (w : Word) :
    s.edyMemWrite (0x40000 * c + (0x20000 + 4 * a)) w = s := by
  have hcore : (0x40000 * c + (0x20000 + 4 * a)) / 0x40000 = c := by omega
  have hoff : (0x40000 * c + (0x20000 + 4 * a)) % 0x40000 = 0x20000 + 4 * a := by omega
  simp (disch := omega) only [edyMemWrite, hcore, hoff, if_neg]

/-! ## The test access port -/

theorem debugRuns_iff : s.debugRuns = true ↔ s.rst.islands.getD 8 .inReset = .running := beq_iff_eq

/-- The offset that the data register of REG_ACCESS names. -/
def accessOffset (dr : DWord) : Nat := 4 * (dr.toNat / 2 ^ 32 % 2 ^ 24)

/-- The block at an offset belongs to an island that is in reset or absent (log entry 67). -/
def Dead (s : State) (a : Nat) : Prop := ∃ i, islandOf a = some i ∧ (s.island i = .inReset ∨ s.island i = .absent)

/-- The test of `regAccess` for a block that does not answer. -/
def deadBlock (s : State) (a : Nat) : Bool :=
  match islandOf a with
  | some i => s.island i == .inReset || s.island i == .absent
  | none => false

theorem deadBlock_iff : s.deadBlock a = true ↔ s.Dead a := by
  unfold deadBlock Dead
  cases islandOf a with
  | none => simp
  | some i => simp

/-- REG_ACCESS while it is the instruction of a port that runs. -/
theorem regAccess_of_selected {dr : DWord} (hruns : s.debugRuns = true) (hir : s.tap.ir = 0x40) :
    s.regAccess dr =
      if s.deadBlock (accessOffset dr) then { s with tap := { s.tap with
        answer := 0xFFFFFFFF
        dr := 0xFFFFFFFF } }
      else if dr.getLsbD 63 then s.writeWord (accessOffset dr) (dr.extractLsb' 0 32)
      else { (s.readBar0 (accessOffset dr)).2 with tap := { (s.readBar0 (accessOffset dr)).2.tap with
        answer := (s.readBar0 (accessOffset dr)).1
        dr := (s.readBar0 (accessOffset dr)).1.setWidth 64 } } := by
  have hgo : ¬ (!s.debugRuns || s.tap.ir != 0x40) = true := by rw [hruns, hir]; decide
  have hoff : 4 * field dr.toNat 32 24 = accessOffset dr := by
    rw [field, Nat.shiftRight_eq_div_pow]
    rfl
  unfold regAccess
  rw [if_neg hgo, hoff]
  rfl

theorem regAccess_of_other {dr : DWord} (h : s.debugRuns = false ∨ s.tap.ir ≠ 0x40) : s.regAccess dr = s := by
  refine if_pos ?_
  rcases h with h | h
  · rw [h]
    rfl
  · rw [Bool.or_eq_true]
    exact .inr (bne_iff_ne.mpr h)

/-- An instruction is taken while the port runs. -/
theorem jtag_of_debugRuns (h : s.debugRuns = true) (code : Byte) :
    s.jtag code =
      if code = 0x00 ∨ code = 0x01 then { (s.free 64).2 with tap := { (s.free 64).2.tap with
        ir := code
        dr := (s.free 64).1 } }
      else if code = 0x02 then { s with tap := { s.tap with
        ir := code
        dr := s.idcode.setWidth 64 } }
      else if code = 0x40 then { s with tap := { s.tap with
        ir := code
        dr := s.tap.answer.setWidth 64 } }
      else { s with tap := { s.tap with
        ir := code
        dr := 0 } } :=
  if_neg (by rw [h]; decide)

end State

/-- A read whose word and next state are known. -/
theorem exec_rcRegisterRead {a : Nat} {s : State} {r : Word × State} (h : s.readBar0 a = r) :
    exec (.rcRegisterRead a) s = .next { r.2 with lastRead := r.1.setWidth 64 } := by
  subst h
  rfl

/-- Settles O59: each address lies in one block, which reads it or takes it, and the port's cases. -/
theorem registersAndTap : Obligations.RegistersAndTap := by
  unfold Obligations.RegistersAndTap
  intro a size n v dr s answered
  refine ⟨?reads, ?clears, fun h4 h8 => exec_of_eq rfl ((if_neg h4).trans (if_neg h8)),
    fun ha => exec_of_eq rfl (if_pos ⟨rfl, ha⟩), fun ha => exec_of_eq rfl ((if_neg (by omega)).trans (if_pos ⟨rfl, ha⟩)),
    fun h hne w => State.writeWord_glb h hne w, ?readOnly, fun h0 h1 w => State.writeWord_acq h0 h1 w,
    fun w => State.writeWord_rstCfg w, ?rings, ?xMemory, ?pMemory, ?stopped, ?running⟩
  case reads =>
    intro w
    exact ⟨fun h => exec_rcRegisterRead (State.readBar0_of_not_port h), fun h0 h1 => exec_rcRegisterRead (State.readBar0_of_port h0 h1)⟩
  case clears =>
    have hread {b : Nat} {word : Word} {t : State} (h4 : b / 4 * 4 = b) (hb : b < 0x600000) (hword : s.bar0Word b = (word, s))
        (hclear : s.readClear b = t) : exec (.rcRegisterRead b) s = answered (word, t) := by
      refine exec_rcRegisterRead ((State.readBar0_of_not_port (.inl (h4.symm ▸ hb))).trans ?_)
      rw [h4, hword, hclear]
    exact ⟨hread rfl (by decide) (State.bar0Word_rst (by decide) (by decide)) rfl,
      hread rfl (by decide) (State.bar0Word_glb (by decide)) rfl,
      hread rfl (by decide) (State.bar0Word_rst (by decide) (by decide)) rfl,
      hread rfl (by decide) (State.bar0Word_tmb (by decide) (by decide)) rfl⟩
  case readOnly =>
    intro h w
    exact State.writeWord_rst (by omega) (by omega) (by omega) (by omega) w
  case rings =>
    intro w hn hen
    exact ⟨(State.writeWord_rng (off := 0) hn (by decide) w).trans (State.writeRng_base_of_enable hen (.inl rfl) w),
      (congrArg (s.writeWord · w) (by omega)).trans
        ((State.writeWord_rng (off := 4) hn (by decide) w).trans (State.writeRng_base_of_enable hen (.inr rfl) w))⟩
  case xMemory =>
    intro c w hc ha
    exact (State.writeWord_edyMem hc (by omega) w).trans (State.edyMemWrite_x hc ha w)
  case pMemory =>
    intro c w hc ha
    refine (congrArg (s.writeWord · w) ?_).trans ((State.writeWord_edyMem (off := 0x20000 + 4 * a) hc (by omega) w).trans
      (State.edyMemWrite_p hc ha w))
    omega
  case stopped =>
    intro h code
    have hoff : s.debugRuns = false := Bool.eq_false_iff.mpr fun hruns => h (State.debugRuns_iff.mp hruns)
    exact ⟨exec_of_eq rfl (if_pos (congrArg not hoff)), exec_of_eq rfl (State.regAccess_of_other (.inl hoff))⟩
  case running =>
    intro h
    have hruns := State.debugRuns_iff.mpr h
    refine ⟨exec_of_eq rfl ((State.jtag_of_debugRuns hruns _).trans ((if_neg (by decide)).trans (if_pos rfl))),
      exec_of_eq rfl ((State.jtag_of_debugRuns hruns _).trans ((if_neg (by decide)).trans ((if_neg (by decide)).trans (if_pos rfl)))),
      fun code hcode => exec_of_eq rfl ((State.jtag_of_debugRuns hruns _).trans (if_pos hcode)),
      fun code h0 h1 h2 h40 => exec_of_eq rfl ((State.jtag_of_debugRuns hruns _).trans
        ((if_neg (not_or.mpr ⟨h0, h1⟩)).trans ((if_neg h2).trans (if_neg h40)))),
      fun hir => exec_of_eq rfl (State.regAccess_of_other (.inr hir)), ?access⟩
    intro hir at_ dead
    have hsel := State.regAccess_of_selected (dr := dr) hruns hir
    have hlive (hd : ¬ dead) : ¬ s.deadBlock (State.accessOffset dr) = true := fun h => hd (State.deadBlock_iff.mp h)
    exact ⟨fun hd => exec_of_eq rfl (hsel.trans (if_pos (State.deadBlock_iff.mpr hd))),
      fun hd hw => exec_of_eq rfl (hsel.trans ((if_neg (hlive hd)).trans (if_pos hw))),
      fun hd hw => exec_of_eq rfl (hsel.trans ((if_neg (hlive hd)).trans (if_neg (Bool.eq_false_iff.mp hw))))⟩

end Sys2Proof.Machine
end
